-- ==== Sys2Proof/Word.lean ====
section
/-!
DEFINITION. The byte, a group of four like things (lanes, trigger lines, banks), and the operand types that the
commands carry: the FILE_CUE body, the memory profile and the reply status codes as the host link spells them.
-/

namespace Sys2Proof

/-- One byte of the host link, of a payload or of the SDRAM. -/
abbrev Byte := BitVec 8

/-- Four like things: lanes 0 to 3, trigger lines 0 to 3, banks 0 to 3. -/
structure Quad (α : Type) where
  e0 : α
  e1 : α
  e2 : α
  e3 : α
  deriving DecidableEq, Repr

/-- The member with index `i`. -/
def Quad.get {α : Type} (q : Quad α) (i : Fin 4) : α :=
  match i with
  | 0 => q.e0
  | 1 => q.e1
  | 2 => q.e2
  | 3 => q.e3

/-- The four with member `i` replaced by `x`. -/
def Quad.set {α : Type} (q : Quad α) (i : Fin 4) (x : α) : Quad α :=
  match i with
  | 0 => { q with e0 := x }
  | 1 => { q with e1 := x }
  | 2 => { q with e2 := x }
  | 3 => { q with e3 := x }

/-- Four copies of `x`. -/
def Quad.all {α : Type} (x : α) : Quad α := ⟨x, x, x, x⟩

/-- The four with `f` applied to each member. -/
def Quad.map {α β : Type} (f : α → β) (q : Quad α) : Quad β := ⟨f q.e0, f q.e1, f q.e2, f q.e3⟩

/-- The members in index order. -/
def Quad.toList {α : Type} (q : Quad α) : List α := [q.e0, q.e1, q.e2, q.e3]

/-- The indexes 0 to 3 in order. -/
def fours : List (Fin 4) := [0, 1, 2, 3]

/-- The start kind's part of a FILE_CUE body (R175): a TIME cue's filed due, or a TRIGGER cue's line, edge code
and offset. The line and the edge are bytes here, since R4 judges their values. -/
inductive StartSpec where
  | time (due : BitVec 48)
  | trigger (line edge : Byte) (offset : BitVec 32)
  deriving DecidableEq, Repr

/-- The parameters of FILE_CUE in the widths of R175. The presence byte is read from `range`, the start kind from
`start`; every other byte is as sent, since R174 and R4 judge it. -/
structure CueBody where
  cue : Byte
  lane : Byte
  payload : Byte
  options : Byte
  latePolicy : Byte
  tolerance : BitVec 16
  priority : Byte
  report : Byte
  repeatCount : BitVec 16
  period : BitVec 32
  range : Option (BitVec 32 × BitVec 32)
  start : StartSpec
  deriving DecidableEq, Repr

/-- The nine bytes of a memory profile by field (R178), each field in its width as sent. -/
structure ProfileBody where
  rows : BitVec 16
  policy : Byte
  interval : BitVec 16
  debtLimit : Byte
  initRefreshes : Byte
  latency : Byte
  burst : Byte
  deriving DecidableEq, Repr

/-- The five settings of SET_LANE in the widths of R173. -/
structure LaneBody where
  enabled : Byte
  pace : Byte
  leadWindow : BitVec 16
  startThreshold : BitVec 16
  holdLimit : BitVec 16
  deriving DecidableEq, Repr

/-- The reply statuses of R176. -/
inductive Status where
  | ok | accepted | badKind | badLength | badValue | notReady | timeNotSet | inUse | noSpace | noSuch | wrongState
  | outOfOrder | tooLong | checkMismatch | pastDue | laneBusy | inboxFull
  deriving DecidableEq, Repr

end Sys2Proof
end

