-- ==== Sys2Proof/Config.lean ====
section
/-!
DEFINITION. What is fixed at manufacture or left open by the manual, and the limits the manual states as numbers.
The two constants without a body are free: nothing in Lean can evaluate them, so a claim holds for every value.
-/

namespace Sys2Proof.Config

/-- The three host link line rates of R137 and R140. -/
inductive LineRate where
  | rate115200 | rate921600 | rate3000000
  deriving DecidableEq, Repr, Inhabited

/-- A line rate in bits per second. -/
def LineRate.bitsPerSecond : LineRate → Nat
  | .rate115200 => 115200
  | .rate921600 => 921600
  | .rate3000000 => 3000000

/-- The host link line rate, set at manufacture to one of three values (R137). DESIGN CHOICE, safe: no value is
picked, so every claim holds for all three (notes/assumptions/1.md). -/
opaque lineRate : LineRate

/-- What a read of an SDRAM byte delivers when nothing has written that byte since the last bring-up: "contents
that are not defined" (R113). The first argument numbers the read, the second is the byte's address.
DESIGN CHOICE, safe: a free value (notes/assumptions/2.md). -/
opaque undefinedByte : Nat → Nat → Byte

/-- The identity fixed at manufacture (R137): vendor code, part code, and the silicon revision the manual
describes. -/
def vendorCode : Nat := 0x0A17
def partCode : Nat := 0x0440
def siliconRevision : Nat := 1

/-- The largest device time, 2^48 − 1 (R59). -/
def maxTime : Nat := 281474976710655

/-- Elapsed time is an unsigned 64-bit count (section 3.1). -/
def elapsedModulus : Nat := 18446744073709551616

/-- The size of a block, of an SDRAM row and of a lane buffer, in bytes (R29, R73). -/
def blockBytes : Nat := 2048

/-- The largest transaction, in bytes (R37, R82, R90). -/
def maxTransfer : Nat := 256

/-- The largest declared length of a payload, in bytes (R78). -/
def maxPayload : Nat := 16777216

/-- The largest frame body, in bytes (R141). -/
def maxBody : Nat := 1040

/-- Capacities of R137: request inbox, reply memory, notice queue, stamp ring, fill buffer slots, cue slots. -/
def inboxSize : Nat := 4
def promptSize : Nat := 4
def replyMemorySize : Nat := 8
def noticeQueueSize : Nat := 32
def ringSize : Nat := 8
def fillSlots : Nat := 4
def cueSlots : Nat := 64

/-- Durations in ticks of elapsed time: the partial-frame gap (R144), the notice resend interval (R165), the
stabilisation wait of the bring-up (R97). -/
def gapTicks : Nat := 2000
def resendTicks : Nat := 100000
def waitTicks : Nat := 200

/-- Port times of R112 in port clock periods of 10 ns. -/
def prechargeTime : Nat := 3
def activateTime : Nat := 3
def refreshTime : Nat := 7
def modeSetTime : Nat := 2

/-- Port clock periods in one tick: 1 µs at 100 MHz (R55, R112). -/
def periodsPerTick : Nat := 100

end Sys2Proof.Config
end

