-- ==== Sys2Proof/Syntax.lean ====
section
/-!
DEFINITION. The commands of the WH440, one constructor per row of spec/opcode_table.json, in the table's order.
The 28 requests and the unknown request carry the seq of their frame and their parameters in the widths of R173;
an event carries the lane, line, cue, level or byte it is about.
-/

namespace Sys2Proof

/-- One command to the part: a request of the host, or an event on a line, of a timer, of the memory port or of
the cue scheduler. -/
inductive Instr where
  | identify (seq : Byte)
  | getState (seq : Byte)
  | reset (seq : Byte)
  | noticeAck (seq : Byte) (n : BitVec 16)
  | memoryInit (seq : Byte) (profile : ProfileBody)
  | memoryStatus (seq : Byte)
  | openPayload (seq payload : Byte) (length : BitVec 32)
  | putData (seq payload : Byte) (offset : BitVec 32) (data : List Byte)
  | sealPayload (seq payload : Byte) (expected : Option (BitVec 32))
  | deletePayload (seq payload : Byte)
  | readBack (seq payload : Byte) (offset : BitVec 32) (count : BitVec 16)
  | payloadInfo (seq payload : Byte)
  | listPayloads (seq start : Byte)
  | fileCue (seq : Byte) (body : CueBody)
  | armCue (seq cue : Byte) (newDue : Option (BitVec 48))
  | cancelCue (seq cue : Byte)
  | discardCue (seq cue : Byte)
  | cueInfo (seq cue : Byte)
  | listCues (seq : Byte)
  | stopAll (seq : Byte)
  | getTime (seq : Byte)
  | setTime (seq : Byte) (value : BitVec 48)
  | stepTime (seq : Byte) (offset : BitVec 32)
  | slewTime (seq : Byte) (offset : BitVec 32) (spacing : BitVec 16)
  | setTrigger (seq line mode notify : Byte)
  | readStamps (seq line n : Byte)
  | setLane (seq lane : Byte) (settings : LaneBody)
  | laneStatus (seq lane : Byte)
  | unknownRequestCode (seq code : Byte) (params : List Byte)
  /-- A well-formed REQUEST frame: its body opens with the request code. -/
  | requestArrival (seq : Byte) (body : List Byte)
  | syncArrival (seq : Byte)
  | syncDoneDeferred
  /-- A complete frame with its type, seq, body and the check received. -/
  | badFrame (frameType seq : Byte) (body : List Byte) (check : BitVec 16)
  | partialFrameTimeout
  | lineFault
  | receiveLineOn
  | frameTransmitStart
  | frameTransmitEnd
  | noticeResendExpiry
  | pinResetBegin
  | pinResetEnd
  | tick
  | slewAdjustment
  | timeEnd
  | dueReached (cue : Fin 64)
  | toleranceExpiry (cue : Fin 64)
  | leadWindowEntry (cue : Fin 64)
  /-- A sample of a trigger line: `level` is true for high. An edge is seen when it differs from the last one. -/
  | triggerEdge (line : Fin 4) (level : Bool)
  | releaseStart (lane : Fin 4)
  | byteSlot (lane : Fin 4)
  | holdAsserted (lane : Fin 4)
  | holdDeasserted (lane : Fin 4)
  | holdLimitExpiry (lane : Fin 4)
  | flushEnd (lane : Fin 4)
  | cancelCueDone
  | stopAllDone
  | arbiterGrant
  | rowCommandDone
  | transactionComplete
  | closingPrechargeDone
  | putDataTaken
  | sealFinish
  | deleteFinish
  | readBackFinish
  | refreshIntervalExpiry
  | refreshPrechargeDone
  | refreshComplete
  | bringupWaitEnd
  | bringupPrechargeDone
  | bringupRefreshDone
  | modeSetDone
  | byteReceived (byte : Byte)
  deriving DecidableEq, Repr

end Sys2Proof
end

