-- ==== Sys2Proof/WellFormed.lean ====
section
/-!
DEFINITION. Which terms of Instr stand for something the outside of the part can do. Lanes, lines and cues of the
events are bounded by their types; what is checked here is what the types do not say.
-/

namespace Sys2Proof

/-- The 28 request codes of R173, in the table's order. -/
def requestCodes : List Byte :=
  [0x01, 0x02, 0x03, 0x04, 0x10, 0x11, 0x20, 0x21, 0x22, 0x23, 0x24, 0x25, 0x26, 0x30, 0x31, 0x32, 0x33, 0x34,
   0x35, 0x36, 0x40, 0x41, 0x42, 0x43, 0x44, 0x45, 0x50, 0x51]

/-- Whether a byte is one of the 28 request codes (R129 test 1). -/
def knownCode (c : Byte) : Bool := requestCodes.contains c

/-- A command that its row describes: an unknown code is unknown, a frame's body fits a frame (R141, R145), and a
PUT_DATA fits a frame. Values that a request's own rule or the format check refuses are well-formed here: the part
answers them. -/
def Instr.wf : Instr → Bool
  | .putData _ _ _ data => decide (data.length + 6 ≤ Config.maxBody)
  | .unknownRequestCode _ code params => !knownCode code && decide (params.length + 1 ≤ Config.maxBody)
  | .requestArrival _ body => !body.isEmpty && decide (body.length ≤ Config.maxBody)
  | .badFrame _ _ body _ => decide (body.length ≤ Config.maxBody)
  | _ => true

end Sys2Proof
end

