-- ==== Sys2Proof/Decode.lean ====
section
/-!
DEFINITION. Request bodies: the little-endian fields of R172, the format check of R174, the decoder of a REQUEST
body into a typed request, the encoder of R173 and R175, and decodeTableWord. No row of the opcode table has bits,
so decodeTableWord answers none.
-/

namespace Sys2Proof

/-- The `n` bytes of `v`, least significant first (R172). -/
def toLE : Nat → Nat → List Byte
  | 0, _ => []
  | n + 1, v => BitVec.ofNat 8 v :: toLE n (v / 256)

/-- The number that bytes spell, least significant first (R172). -/
def fromLE : List Byte → Nat
  | [] => 0
  | b :: bs => b.toNat + 256 * fromLE bs

/-- Byte `i` of a body; 0 past its end (the format check has been made before a field is read). -/
def byteAt (body : List Byte) (i : Nat) : Byte := body.getD i 0

/-- The field of `n` bytes at offset `i`, as a bit vector of `w` bits. -/
def fieldAt (body : List Byte) (i n w : Nat) : BitVec w := BitVec.ofNat w (fromLE ((body.drop i).take n))

/-- A request whose body has passed the format check: the request and its parameters (R173). -/
inductive Req where
  | identify
  | getState
  | reset
  | noticeAck (n : BitVec 16)
  | memoryInit (profile : ProfileBody)
  | memoryStatus
  | openPayload (payload : Byte) (length : BitVec 32)
  | putData (payload : Byte) (offset : BitVec 32) (data : List Byte)
  | sealPayload (payload : Byte) (expected : Option (BitVec 32))
  | deletePayload (payload : Byte)
  | readBack (payload : Byte) (offset : BitVec 32) (count : BitVec 16)
  | payloadInfo (payload : Byte)
  | listPayloads (start : Byte)
  | fileCue (body : CueBody)
  | armCue (cue : Byte) (newDue : Option (BitVec 48))
  | cancelCue (cue : Byte)
  | discardCue (cue : Byte)
  | cueInfo (cue : Byte)
  | listCues
  | stopAll
  | getTime
  | setTime (value : BitVec 48)
  | stepTime (offset : BitVec 32)
  | slewTime (offset : BitVec 32) (spacing : BitVec 16)
  | setTrigger (line mode notify : Byte)
  | readStamps (line n : Byte)
  | setLane (lane : Byte) (settings : LaneBody)
  | laneStatus (lane : Byte)
  deriving DecidableEq, Repr

/-- The request code of a request (R173). -/
def Req.code : Req → Byte
  | .identify => 0x01
  | .getState => 0x02
  | .reset => 0x03
  | .noticeAck _ => 0x04
  | .memoryInit _ => 0x10
  | .memoryStatus => 0x11
  | .openPayload _ _ => 0x20
  | .putData _ _ _ => 0x21
  | .sealPayload _ _ => 0x22
  | .deletePayload _ => 0x23
  | .readBack _ _ _ => 0x24
  | .payloadInfo _ => 0x25
  | .listPayloads _ => 0x26
  | .fileCue _ => 0x30
  | .armCue _ _ => 0x31
  | .cancelCue _ => 0x32
  | .discardCue _ => 0x33
  | .cueInfo _ => 0x34
  | .listCues => 0x35
  | .stopAll => 0x36
  | .getTime => 0x40
  | .setTime _ => 0x41
  | .stepTime _ => 0x42
  | .slewTime _ _ => 0x43
  | .setTrigger _ _ _ => 0x44
  | .readStamps _ _ => 0x45
  | .setLane _ _ => 0x50
  | .laneStatus _ => 0x51

/-- The nine bytes of a memory profile (R178). -/
def encodeProfile (p : ProfileBody) : List Byte :=
  toLE 2 p.rows.toNat ++ [p.policy] ++ toLE 2 p.interval.toNat ++ [p.debtLimit, p.initRefreshes, p.latency, p.burst]

/-- The last six bytes of a FILE_CUE body (R175). -/
def encodeStart : StartSpec → List Byte
  | .time due => toLE 6 due.toNat
  | .trigger line edge offset => [line, edge] ++ toLE 4 offset.toNat

/-- The start kind byte of a FILE_CUE body (R172, R175). -/
def startKindByte : StartSpec → Byte
  | .time _ => 0
  | .trigger _ _ _ => 1

/-- The parameters of a FILE_CUE body after the request code (R175). -/
def encodeCue (b : CueBody) : List Byte :=
  [b.cue, b.lane, b.payload, startKindByte b.start, if b.range.isSome then 1 else 0, b.options, b.latePolicy]
    ++ toLE 2 b.tolerance.toNat ++ [b.priority, b.report] ++ toLE 2 b.repeatCount.toNat ++ toLE 4 b.period.toNat
    ++ (match b.range with
        | some (o, c) => toLE 4 o.toNat ++ toLE 4 c.toNat
        | none => [])
    ++ encodeStart b.start

/-- The REQUEST body of a request: its code, then its parameters (R173, R175). -/
def encodeBody (r : Req) : List Byte :=
  r.code ::
    match r with
    | .noticeAck n => toLE 2 n.toNat
    | .memoryInit p => encodeProfile p
    | .openPayload p len => p :: toLE 4 len.toNat
    | .putData p off data => p :: toLE 4 off.toNat ++ data
    | .sealPayload p none => [p, 0]
    | .sealPayload p (some k) => p :: 1 :: toLE 4 k.toNat
    | .deletePayload p => [p]
    | .readBack p off n => p :: toLE 4 off.toNat ++ toLE 2 n.toNat
    | .payloadInfo p => [p]
    | .listPayloads p => [p]
    | .fileCue b => encodeCue b
    | .armCue c none => [c, 0]
    | .armCue c (some d) => c :: 1 :: toLE 6 d.toNat
    | .cancelCue c => [c]
    | .discardCue c => [c]
    | .cueInfo c => [c]
    | .setTime v => toLE 6 v.toNat
    | .stepTime o => toLE 4 o.toNat
    | .slewTime o sp => toLE 4 o.toNat ++ toLE 2 sp.toNat
    | .setTrigger l m n => [l, m, n]
    | .readStamps l n => [l, n]
    | .setLane l b =>
        [l, b.enabled, b.pace] ++ toLE 2 b.leadWindow.toNat ++ toLE 2 b.startThreshold.toNat ++ toLE 2 b.holdLimit.toNat
    | .laneStatus l => [l]
    | _ => []

/-- The length of the fixed part of a request's body, by its code (R174 test 1). -/
def fixedPart (code : Byte) : Nat :=
  match code.toNat with
  | 0x04 => 3
  | 0x10 => 10
  | 0x20 => 6
  | 0x21 => 6
  | 0x22 => 3
  | 0x23 => 2
  | 0x24 => 8
  | 0x25 => 2
  | 0x26 => 2
  | 0x30 => 18
  | 0x31 => 3
  | 0x32 => 2
  | 0x33 => 2
  | 0x34 => 2
  | 0x41 => 7
  | 0x42 => 5
  | 0x43 => 7
  | 0x44 => 4
  | 0x45 => 3
  | 0x50 => 10
  | 0x51 => 2
  | _ => 1

/-- Whether a presence or options byte, or the start kind of a FILE_CUE, is one its layout defines
(R174 test 2). -/
def flagBytesOk (body : List Byte) : Bool :=
  match (byteAt body 0).toNat with
  | 0x22 => decide ((byteAt body 2).toNat < 2)
  | 0x31 => decide ((byteAt body 2).toNat < 2)
  | 0x30 => decide ((byteAt body 4).toNat < 2) && decide ((byteAt body 5).toNat < 2) && decide ((byteAt body 6).toNat < 8)
  | _ => true

/-- Whether the body has the length its fixed part gives (R174 test 3). -/
def lengthOk (body : List Byte) : Bool :=
  let n := body.length
  match (byteAt body 0).toNat with
  | 0x21 => decide (7 ≤ n) && decide (n ≤ 1030)
  | 0x22 => n == (if byteAt body 2 == 1 then 7 else 3)
  | 0x30 => n == (if byteAt body 5 == 1 then 32 else 24)
  | 0x31 => n == (if byteAt body 2 == 1 then 9 else 3)
  | _ => n == fixedPart (byteAt body 0)

/-- Whether the cue id, if the request carries one, is 0 to 63 (R174 test 4). -/
def cueIdOk (body : List Byte) : Bool :=
  match (byteAt body 0).toNat with
  | 0x30 | 0x31 | 0x32 | 0x33 | 0x34 => decide ((byteAt body 1).toNat < Config.cueSlots)
  | _ => true

/-- The format check of R174 on a body whose code is known: the first test that fails gives the status. DESIGN CHOICE
(notes/assumptions/37.md): R171 says that a body of 1,031 to 1,040 bytes is refused with BAD_LENGTH, but one that also
has an undefined flag bit or start kind fails the flag bytes before the length in R174's order; R174 is followed here,
and the answer is BAD_VALUE. -/
def formatCheck (body : List Byte) : Option Status :=
  if body.length < fixedPart (byteAt body 0) then some .badLength
  else if !flagBytesOk body then some .badValue
  else if !lengthOk body then some .badLength
  else if !cueIdOk body then some .badValue
  else none

/-- The profile at offset `i` of a body (R178). -/
def profileAt (body : List Byte) (i : Nat) : ProfileBody :=
  { rows := fieldAt body i 2 16, policy := byteAt body (i + 2), interval := fieldAt body (i + 3) 2 16,
    debtLimit := byteAt body (i + 5), initRefreshes := byteAt body (i + 6), latency := byteAt body (i + 7),
    burst := byteAt body (i + 8) }

/-- The FILE_CUE parameters of a body (R175). -/
def cueBodyOf (body : List Byte) : CueBody :=
  let ranged := byteAt body 5 == 1
  let at_ := if ranged then 26 else 18
  { cue := byteAt body 1, lane := byteAt body 2, payload := byteAt body 3, options := byteAt body 6,
    latePolicy := byteAt body 7, tolerance := fieldAt body 8 2 16, priority := byteAt body 10,
    report := byteAt body 11, repeatCount := fieldAt body 12 2 16, period := fieldAt body 14 4 32,
    range := if ranged then some (fieldAt body 18 4 32, fieldAt body 22 4 32) else none,
    start :=
      if byteAt body 4 == 1 then .trigger (byteAt body at_) (byteAt body (at_ + 1)) (fieldAt body (at_ + 2) 4 32)
      else .time (fieldAt body at_ 6 48) }

/-- The request that a body spells by its code, when the code is known; the fields are read without a check. -/
def readBody (body : List Byte) : Option Req :=
  match (byteAt body 0).toNat with
  | 0x01 => some .identify
  | 0x02 => some .getState
  | 0x03 => some .reset
  | 0x04 => some (.noticeAck (fieldAt body 1 2 16))
  | 0x10 => some (.memoryInit (profileAt body 1))
  | 0x11 => some .memoryStatus
  | 0x20 => some (.openPayload (byteAt body 1) (fieldAt body 2 4 32))
  | 0x21 => some (.putData (byteAt body 1) (fieldAt body 2 4 32) (body.drop 6))
  | 0x22 => some (.sealPayload (byteAt body 1) (if byteAt body 2 == 1 then some (fieldAt body 3 4 32) else none))
  | 0x23 => some (.deletePayload (byteAt body 1))
  | 0x24 => some (.readBack (byteAt body 1) (fieldAt body 2 4 32) (fieldAt body 6 2 16))
  | 0x25 => some (.payloadInfo (byteAt body 1))
  | 0x26 => some (.listPayloads (byteAt body 1))
  | 0x30 => some (.fileCue (cueBodyOf body))
  | 0x31 => some (.armCue (byteAt body 1) (if byteAt body 2 == 1 then some (fieldAt body 3 6 48) else none))
  | 0x32 => some (.cancelCue (byteAt body 1))
  | 0x33 => some (.discardCue (byteAt body 1))
  | 0x34 => some (.cueInfo (byteAt body 1))
  | 0x35 => some .listCues
  | 0x36 => some .stopAll
  | 0x40 => some .getTime
  | 0x41 => some (.setTime (fieldAt body 1 6 48))
  | 0x42 => some (.stepTime (fieldAt body 1 4 32))
  | 0x43 => some (.slewTime (fieldAt body 1 4 32) (fieldAt body 5 2 16))
  | 0x44 => some (.setTrigger (byteAt body 1) (byteAt body 2) (byteAt body 3))
  | 0x45 => some (.readStamps (byteAt body 1) (byteAt body 2))
  | 0x50 => some (.setLane (byteAt body 1)
      { enabled := byteAt body 2, pace := byteAt body 3, leadWindow := fieldAt body 4 2 16,
        startThreshold := fieldAt body 6 2 16, holdLimit := fieldAt body 8 2 16 })
  | 0x51 => some (.laneStatus (byteAt body 1))
  | _ => none

/-- Decode a REQUEST body: BAD_KIND for a code that names no request, the format check's status where it fails,
and the request otherwise (R129 tests 1 and 3, R174). Total on any bytes. -/
def decodeBody (body : List Byte) : Except Status Req :=
  match readBody body with
  | none => .error .badKind
  | some r =>
    match formatCheck body with
    | some st => .error st
    | none => .ok r

/-- The command a table word spells: the table gives no row any bits, so no word spells one. -/
def decodeTableWord (_nbits _w : Nat) : Option Instr := none

end Sys2Proof
end

