-- ==== Sys2Proof/Machine/State.lean ====
section
/-!
DEFINITION. The state of the WH440, block by block as the manual's block overview lists them, as plain data; the
reasons a command could stop; and the state right after a pin reset.
-/

namespace Sys2Proof.Machine

/-! ### Named values -/

/-- The device state (R128). -/
inductive DeviceState where
  | unconfigured | initializing | ready
  deriving DecidableEq, Repr

/-- The state of a filed cue (section 1.3); an EMPTY slot has no record. -/
inductive CueState where
  | held | armed | triggerWait | staged | pending | releasing | ended
  deriving DecidableEq, Repr

/-- The results of an occurrence (section 1.3). -/
inductive OccResult where
  | sent | skippedLate | skippedLaneStopped | cutCancel | cutStop | cutHold | cutUnderrun
  deriving DecidableEq, Repr

inductive EndReason where
  | completed | cancelled | stopped
  deriving DecidableEq, Repr

/-- The edge a TRIGGER cue waits for (R2). -/
inductive CueEdge where
  | rising | falling | either
  deriving DecidableEq, Repr

/-- The kind of a stamped edge (R68). -/
inductive StampEdge where
  | rising | falling
  deriving DecidableEq, Repr

inductive LatePolicy where
  | sendLate | skip
  deriving DecidableEq, Repr

inductive ReportLevel where
  | endOnly | each | startEach
  deriving DecidableEq, Repr

/-- The cut disposition of R3. -/
inductive Disposition where
  | none | cancel | stop
  deriving DecidableEq, Repr

/-- A trigger line's edge mode (section 3.7). -/
inductive EdgeMode where
  | off | rising | falling | either
  deriving DecidableEq, Repr

/-- The state of a directory entry that is not FREE (R76). -/
inductive PayloadState where
  | filling | sealed | doomed
  deriving DecidableEq, Repr

/-- The six lane states of R32. -/
inductive LaneState where
  | stopped | idle | staging | primed | emitting | flushing
  deriving DecidableEq, Repr

/-- The cut causes of R48. -/
inductive CutCause where
  | cancel | stop | hold | underrun | reset
  deriving DecidableEq, Repr

inductive RowPolicy where
  | openRow | closeRow
  deriving DecidableEq, Repr

/-- The bring-up steps of R98 that can be observed: FINISH takes place in the event in which MODE_SET ends. -/
inductive BringStep where
  | wait | precharge | refresh | modeSet
  deriving DecidableEq, Repr

inductive ResetKind where
  | pin | soft
  deriving DecidableEq, Repr

/-! ### Cue scheduler -/

/-- The range of a cue, in bytes (R2). -/
structure Range where
  offset : Nat
  count : Nat
  deriving DecidableEq, Repr

/-- The start kind of a cue with its filed due or its trigger spec (R2). -/
inductive CueStart where
  | time (due : Nat)
  | trigger (line : Fin 4) (edge : CueEdge) (offset : Nat)
  deriving DecidableEq, Repr

/-- The options of a cue (R2). -/
structure Options where
  verify : Bool
  autoDiscard : Bool
  armNow : Bool
  deriving DecidableEq, Repr

/-- The record of the last occurrence to end (R3, R15). -/
structure Occurrence where
  result : OccResult
  late : Bool
  checkFault : Bool
  startTime : Option Nat
  lateness : Nat
  bytes : Nat
  deriving DecidableEq, Repr

/-- The start report that the scheduler keeps while a cue is RELEASING (R13). -/
structure StartReport where
  time : Nat
  lateness : Nat
  deriving DecidableEq, Repr

/-- A cue record: the filed fields of R2, then the kept fields of R3. `armMoment` is the number of stamps recorded
before the cue last entered TRIGGER_WAIT, which places that event among the recordings (R70). -/
structure Cue where
  lane : Fin 4
  payload : Nat
  range : Option Range
  start : CueStart
  repeatCount : Nat
  period : Nat
  late : LatePolicy
  tolerance : Nat
  priority : Nat
  report : ReportLevel
  options : Options
  state : CueState
  due : Option Nat
  used : Nat
  skipped : Nat
  last : Option Occurrence
  endReason : Option EndReason
  armMoment : Option Nat
  cut : Disposition
  started : Option StartReport
  deriving DecidableEq, Repr

/-! ### Lane units -/

/-- The five settings of a lane (R29). -/
structure LaneConfig where
  enabled : Bool
  pace : Nat
  leadWindow : Nat
  startThreshold : Nat
  holdLimit : Nat
  deriving DecidableEq, Repr

/-- What a lane takes at a pick (R34): the cue, its payload and block list, its range, and the payload's check value
for a cue with VERIFY. -/
structure HeldCue where
  cue : Nat
  payload : Nat
  blocks : List Nat
  offset : Nat
  count : Nat
  check : Option (BitVec 32)
  deriving DecidableEq, Repr

/-- The release in progress (R42). -/
structure Release where
  start : Nat
  lateness : Nat
  late : Bool
  deriving DecidableEq, Repr

/-- What the lane outputs show in one LnCLK period (R45). -/
structure Pins where
  valid : Bool
  data : Byte
  start : Bool
  last : Bool
  abort : Bool
  deriving DecidableEq, Repr

/-- A lane unit (R32). The fill is the length of `buffer`, whose head leaves first. `slotIn` counts the LnCLK periods
to the next byte slot; `slotWaiting` says that a slot has come while LnHOLD was asserted (R46); `abortDue` that ABORT
is owed to the first period without a byte (R49). -/
structure Lane where
  state : LaneState
  config : LaneConfig
  held : Option HeldCue
  buffer : List Byte
  fetchPos : Nat
  fetched : Nat
  emitted : Nat
  verify : Option (BitVec 32)
  release : Option Release
  cutCause : Option CutCause
  hold : Bool
  holdTimer : Option Nat
  slotWaiting : Bool
  slotIn : Nat
  pins : Pins
  abortDue : Bool
  deriving DecidableEq, Repr

/-! ### Time base and trigger unit -/

/-- A slew in progress (section 3.1). -/
structure Slew where
  remaining : Int
  spacing : Nat
  next : Nat
  deriving DecidableEq, Repr

/-- The time base (section 3.1). `phase` counts the port clock periods since the last tick. -/
structure TimeBase where
  elapsed : Nat
  device : Nat
  valid : Bool
  atEnd : Bool
  slew : Option Slew
  phase : Nat
  deriving DecidableEq, Repr

/-- A stamp (section 3.7). -/
structure Stamp where
  time : Nat
  edge : StampEdge
  deriving DecidableEq, Repr

/-- A trigger line (section 3.7). `level` is the last sampled level, true for high, absent until the first sample
after a pin reset. -/
structure TriggerLine where
  mode : EdgeMode
  notify : Bool
  ring : List Stamp
  gap : Bool
  level : Option Bool
  deriving DecidableEq, Repr

/-- The trigger unit. `recorded` is the model's own count of recorded stamps: it orders the recordings among the
events in which cues enter TRIGGER_WAIT (R70). -/
structure TriggerUnit where
  lines : Quad TriggerLine
  recorded : Nat
  deriving DecidableEq, Repr

/-! ### Payload store -/

/-- A directory entry that is not FREE (R76). -/
structure Payload where
  state : PayloadState
  length : Nat
  blocks : List Nat
  fillOffset : Nat
  running : BitVec 32
  check : Option (BitVec 32)
  refs : Nat
  mismatch : Bool
  deriving DecidableEq, Repr

/-- A chunk of the fill buffer (R79). -/
structure Chunk where
  payload : Nat
  offset : Nat
  data : List Byte
  written : Nat
  deriving DecidableEq, Repr

/-- The payload store. The directory lists the entries that are not FREE by rising id. `leaving` lists the FILLING
payloads that a soft reset frees when the write in column phase completes (R94). -/
structure Store where
  directory : List (Nat × Payload)
  pool : List Nat
  chunks : List Chunk
  leaving : List Nat
  deriving DecidableEq, Repr

/-! ### Memory controller and refresh scheduler -/

/-- The memory profile (R95). -/
structure Profile where
  rows : Nat
  policy : RowPolicy
  interval : Nat
  debtLimit : Nat
  initRefreshes : Nat
  latency : Nat
  burst : Nat
  deriving DecidableEq, Repr

/-- The bring-up progress (R98): its step, the wait end, and the refreshes carried out. -/
structure BringUp where
  step : BringStep
  waitEnd : Nat
  refreshes : Nat
  deriving DecidableEq, Repr

/-- Who asks the arbiter for a transaction (R104). -/
inductive Requester where
  | lane (l : Fin 4) | fill | readBack
  deriving DecidableEq, Repr

/-- A waiting read or write: its block, its position within the block and its size (R104). -/
structure MemRequest where
  block : Nat
  pos : Nat
  size : Nat
  deriving DecidableEq, Repr

inductive RowCommand where
  | precharge | activate
  deriving DecidableEq, Repr

/-- The phase of a transaction (R108), with the command of the row phase being carried out. -/
inductive Phase where
  | row (command : RowCommand) | column | closing
  deriving DecidableEq, Repr

/-- A transaction (R108). `withdrawn` says that its requester gave it up in the row phase (R111). -/
structure Transaction where
  requester : Requester
  bank : Fin 4
  row : Nat
  pos : Nat
  size : Nat
  phase : Phase
  withdrawn : Bool
  deriving DecidableEq, Repr

/-- The steps of a refresh in progress (R122). -/
inductive RefreshStep where
  | precharge | command
  deriving DecidableEq, Repr

/-- The memory commands of the bring-up (R98). -/
inductive BringCommand where
  | precharge | refresh | modeSet
  deriving DecidableEq, Repr

/-- The operation that holds the port. `abandoned` marks a bring-up command whose sequence a soft reset abandoned
(R101). -/
inductive PortOp where
  | transaction (t : Transaction)
  | refresh (step : RefreshStep)
  | bringUp (command : BringCommand) (abandoned : Bool)
  deriving DecidableEq, Repr

/-- The memory controller. A bank is CLOSED (none) or OPEN with a row. `portLeft` counts the port clock periods left
of the step being carried out on the port (R112). -/
structure MemControl where
  profile : Option Profile
  bringUp : Option BringUp
  banks : Quad (Option Nat)
  laneReq : Quad (Option MemRequest)
  fillReq : Option MemRequest
  readReq : Option MemRequest
  port : Option PortOp
  portLeft : Nat
  deriving DecidableEq, Repr

/-- The refresh interval timer (R118): `running n` has `n` port clock periods left. -/
inductive RefreshTimer where
  | stopped | running (left : Nat) | paused
  deriving DecidableEq, Repr

inductive RefreshRequest where
  | absent | waiting | inFlight
  deriving DecidableEq, Repr

/-- The refresh scheduler (R118); the refresh in progress is the operation on the port. -/
structure Refresh where
  debt : Nat
  timer : RefreshTimer
  request : RefreshRequest
  deriving DecidableEq, Repr

/-! ### Notice queue -/

/-- The ten kinds of notice with their contents (R160). -/
inductive NoticeBody where
  | restarted (kind : ResetKind)
  | memoryReady (blocks : Nat)
  | cueStart (cue start lateness : Nat)
  | cueOccurrence (cue : Nat) (result : OccResult) (late checkFault : Bool) (bytes lateness used : Nat)
  | cueSkipped (cue number : Nat) (nextDue : Option Nat)
  | cueEnd (cue : Nat) (reason : EndReason) (used skipped : Nat)
  | triggerEdge (line : Fin 4) (edge : StampEdge) (time : Nat)
  | slewDone
  | timeEnd
  | overflow
  deriving DecidableEq, Repr

inductive SendState where
  | due | sending | sent
  deriving DecidableEq, Repr

/-- A held notice (R158). -/
structure Notice where
  number : BitVec 16
  body : NoticeBody
  send : SendState
  again : Bool
  lastSent : Option Nat
  deriving DecidableEq, Repr

/-- The notice queue, oldest first, and the next number (R158). The resend timer and ATN are read from it. -/
structure NoticeQueue where
  held : List Notice
  next : BitVec 16
  deriving DecidableEq, Repr

/-! ### Link port and request interpreter -/

/-- The receive framer with the partial frame received so far (R143). -/
inductive Framer where
  | hunt
  | type
  | seq (frameType : Byte)
  | lengthLow (frameType seq : Byte)
  | lengthHigh (frameType seq low : Byte)
  | body (frameType seq : Byte) (length : Nat) (bytes : List Byte)
  | checkLow (frameType seq : Byte) (bytes : List Byte)
  | checkHigh (frameType seq : Byte) (bytes : List Byte) (low : Byte)
  deriving DecidableEq, Repr

/-- A frame the part sends, less its sync byte, length and check, which are computed from these (R141). -/
structure Frame where
  frameType : Byte
  seq : Byte
  body : List Byte
  deriving DecidableEq, Repr

/-- An admitted request: its seq and its body, which opens with the request code (R148). -/
structure InboxEntry where
  seq : Byte
  body : List Byte
  deriving DecidableEq, Repr

/-- An entry of the reply memory (R151). -/
structure StoredReply where
  seq : Byte
  code : Byte
  frame : Frame
  deriving DecidableEq, Repr

/-- A frame of the reply queue (R154). -/
inductive QueuedReply where
  | executed (frame : Frame)
  | syncDone (seq : Byte)
  deriving DecidableEq, Repr

/-- The frame in transmission and the 10 ns periods since its first character began (R154). -/
structure TxFrame where
  frame : Frame
  clocks : Nat
  deriving DecidableEq, Repr

inductive ReceiveLine where
  | arming | on
  deriving DecidableEq, Repr

/-- The link port (section 8). -/
structure Link where
  line : ReceiveLine
  framer : Framer
  gapTimer : Option Nat
  inbox : List InboxEntry
  replies : List StoredReply
  pendingSync : Option Byte
  tx : Option TxFrame
  prompt : List Frame
  replyQueue : List QueuedReply
  deriving DecidableEq, Repr

/-- What the executing request waits for (R149). -/
inductive Wait where
  | putData (payload offset : Nat) (data : List Byte)
  | seal (payload : Nat) (expected : Option (BitVec 32))
  | delete (payload : Nat)
  | readBack (blocks : List Nat) (offset count : Nat) (got : List Byte)
  | cancel (cue : Nat) (counts : Option (Nat × Nat))
  | stopAll (held stopped : Nat)
  deriving DecidableEq, Repr

/-- The executing request (R149). -/
structure Executing where
  seq : Byte
  code : Byte
  wait : Wait
  deriving DecidableEq, Repr

/-! ### The whole part -/

/-- The state of the WH440 and its attached SDRAM. `raised` holds the notices that the event in progress has raised
and not yet offered to the queue (R163); it is empty between events. `mem` lists the SDRAM bytes written since the
last bring-up by rising address, and `freeReads` numbers the reads of bytes that nothing has written; `pending` holds
the commands that wait, first in, first out. The last three and `raised` are the model's own. -/
structure State where
  inReset : Bool
  device : DeviceState
  executing : Option Executing
  link : Link
  notices : NoticeQueue
  raised : List NoticeBody
  time : TimeBase
  triggers : TriggerUnit
  cues : List (Nat × Cue)
  lanes : Quad Lane
  store : Store
  mc : MemControl
  refresh : Refresh
  mem : List Host.Cell
  freeReads : Nat
  pending : List Instr
  deriving DecidableEq, Repr

/-- Why the machine could stop with a fault. The manual gives every command an effect in every state, so no meaning
answers with it. -/
inductive Fault where
  /-- Raised by no meaning: the manual names no event that stops the part. Safe. -/
  | stopped
  deriving DecidableEq, Repr

/-- Why a command could be refused by the model. -/
inductive Refusal where
  /-- Raised by an arm of exec whose command has no meaning yet; no arm is one. Safe. -/
  | notModelled (mnemonic : String)
  deriving DecidableEq, Repr

/-! ### After a pin reset -/

/-- Lane outputs with nothing asserted and data 0 (R45). -/
def Pins.idle : Pins := { valid := false, data := 0, start := false, last := false, abort := false }

/-- The lane settings after a pin reset (R29). -/
def LaneConfig.reset : LaneConfig :=
  { enabled := false, pace := 100, leadWindow := 500, startThreshold := 256, holdLimit := 1000 }

/-- A lane after a pin reset (R32). The manual gives LnHOLD no level: deasserted is a DESIGN CHOICE
(notes/assumptions/3.md). -/
def Lane.reset : Lane :=
  { state := .stopped, config := .reset, held := none, buffer := [], fetchPos := 0, fetched := 0, emitted := 0,
    verify := none, release := none, cutCause := none, hold := false, holdTimer := none, slotWaiting := false,
    slotIn := 0, pins := .idle, abortDue := false }

/-- A trigger line after a pin reset (section 3.7); the first sample sets its level. -/
def TriggerLine.reset : TriggerLine := { mode := .off, notify := false, ring := [], gap := false, level := none }

/-- The time base after a pin reset (section 3.1). -/
def TimeBase.reset : TimeBase :=
  { elapsed := 0, device := 0, valid := false, atEnd := false, slew := none, phase := 0 }

/-- The payload store after a pin reset (R75). -/
def Store.reset : Store := { directory := [], pool := [], chunks := [], leaving := [] }

/-- The memory controller after a pin reset (R116). -/
def MemControl.reset : MemControl :=
  { profile := none, bringUp := none, banks := Quad.all none, laneReq := Quad.all none, fillReq := none,
    readReq := none, port := none, portLeft := 0 }

/-- The refresh scheduler after a pin reset (R118). -/
def Refresh.reset : Refresh := { debt := 0, timer := .stopped, request := .absent }

/-- The link port after a pin reset (R156). -/
def Link.reset : Link :=
  { line := .arming, framer := .hunt, gapTimer := none, inbox := [], replies := [], pendingSync := none, tx := none,
    prompt := [], replyQueue := [] }

/-- The notice queue after a reset: RESTARTED numbered 1 and DUE, the next number 2 (R158, R159). -/
def NoticeQueue.restarted (kind : ResetKind) : NoticeQueue :=
  { held := [{ number := 1, body := .restarted kind, send := .due, again := false, lastSent := none }], next := 2 }

/-- The part in the event in which a pin reset ends (R132). -/
def State.reset : State :=
  { inReset := false, device := .unconfigured, executing := none, link := .reset, notices := .restarted .pin,
    raised := [], time := .reset, triggers := { lines := Quad.all .reset, recorded := 0 }, cues := [],
    lanes := Quad.all .reset, store := .reset, mc := .reset, refresh := .reset, mem := [], freeReads := 0,
    pending := [] }

end Sys2Proof.Machine
end

