-- ==== Sys2Proof/Machine/Flags.lean ====
section
/-!
DEFINITION. The checks and flags the manual computes: CRC-32 of payloads (R77), CRC-16 of frames (R142), the LATE and
CHECK_FAULT flags (R42, R53), the attention line (R169), the resend timer (R165) and elapsed-time distances (R55).
-/

namespace Sys2Proof.Machine

/-- One bit of the CRC-32 register, reflected form 0xEDB88320 (R77). -/
def crc32Bit (r : BitVec 32) : BitVec 32 :=
  if r.getLsbD 0 then (r >>> 1) ^^^ 0xEDB88320#32 else r >>> 1

/-- The CRC-32 register after `n` bits. -/
def crc32Bits : Nat → BitVec 32 → BitVec 32
  | 0, r => r
  | n + 1, r => crc32Bits n (crc32Bit r)

/-- The CRC-32 register after one byte, least significant bit first (R77). -/
def crc32Byte (r : BitVec 32) (b : Byte) : BitVec 32 := crc32Bits 8 (r ^^^ b.setWidth 32)

/-- The CRC-32 register after bytes in payload order (R77). -/
def crc32Update (r : BitVec 32) (bytes : List Byte) : BitVec 32 := bytes.foldl crc32Byte r

/-- The starting value of the register (R77). -/
def crc32Start : BitVec 32 := 0xFFFFFFFF#32

/-- The CRC-32 of a byte sequence: the register at the end, complemented (R77). -/
def crc32 (bytes : List Byte) : BitVec 32 := ~~~(crc32Update crc32Start bytes)

/-- The CRC-32 of a sequence extended by `bytes`, from the CRC-32 before (the running check of R77, R81). -/
def crc32Extend (check : BitVec 32) (bytes : List Byte) : BitVec 32 := ~~~(crc32Update (~~~check) bytes)

/-- One bit of the CRC-16 register, polynomial 0x1021 (R142). -/
def crc16Bit (r : BitVec 16) : BitVec 16 :=
  if r.getLsbD 15 then (r <<< 1) ^^^ 0x1021#16 else r <<< 1

/-- The CRC-16 register after `n` bits. -/
def crc16Bits : Nat → BitVec 16 → BitVec 16
  | 0, r => r
  | n + 1, r => crc16Bits n (crc16Bit r)

/-- The CRC-16 register after one byte, most significant bit first (R142). -/
def crc16Byte (r : BitVec 16) (b : Byte) : BitVec 16 := crc16Bits 8 (r ^^^ (b.setWidth 16 <<< 8))

/-- The CRC-16 of bytes in the order sent (R142). -/
def crc16 (bytes : List Byte) : BitVec 16 := bytes.foldl crc16Byte 0xFFFF#16

/-- The bytes of a frame that its check covers: type, seq, length and body (R142). -/
def coveredBytes (frameType seq : Byte) (body : List Byte) : List Byte :=
  frameType :: seq :: toLE 2 body.length ++ body

/-- The bytes of a frame on TXD, from the sync byte to the second check byte (R141). -/
def frameBytes (f : Frame) : List Byte :=
  let covered := coveredBytes f.frameType f.seq f.body
  0xC5 :: covered ++ toLE 2 (crc16 covered).toNat

/-- The levels of a character on the line, true for high: the start bit, eight data bits from the least significant
one, the stop bit (R140). -/
def characterBits (b : Byte) : List Bool := [false] ++ (List.range 8).map b.getLsbD ++ [true]

/-- The levels of a frame on TXD, its characters back to back (R140, R154). -/
def frameBits (f : Frame) : List Bool := (frameBytes f).flatMap characterBits

/-- The bit times of a frame that have passed since its first character began (R140). -/
def bitsSent (t : TxFrame) : Nat := t.clocks * Config.lineRate.bitsPerSecond / 100000000

/-- The level of TXD: the present bit of the frame in transmission, and high when no character is being sent (R140). -/
def txd (s : State) : Bool :=
  match s.link.tx with
  | some t => (frameBits t.frame)[bitsSent t]?.getD true
  | none => true

/-- The characters a frame occupies (R154). -/
def frameLength (f : Frame) : Nat := 7 + f.body.length

/-- The characters of a frame sent so far: a character lasts 10 bit times (R140). -/
def charsSent (t : TxFrame) : Nat := t.clocks * Config.lineRate.bitsPerSecond / 1000000000

/-- The LATE flag of an occurrence (R42). -/
def lateFlag (lateness tolerance : Nat) : Bool := decide (tolerance < lateness)

/-- The CHECK_FAULT flag of a completed occurrence: the accumulated CRC-32 against the check value taken at the pick;
clear for a cue without VERIFY (R53). -/
def checkFaultFlag (check : Option (BitVec 32)) (accumulator : Option (BitVec 32)) : Bool :=
  match check, accumulator with
  | some k, some r => decide (~~~r ≠ k)
  | _, _ => false

/-- ATN: asserted while the notice queue holds a notice (R169). -/
def atn (s : State) : Bool := !s.notices.held.isEmpty

/-- Ticks of elapsed time since `t`, in the 64-bit count of section 3.1. -/
def elapsedSince (s : State) (t : Nat) : Nat :=
  (s.time.elapsed + Config.elapsedModulus - t) % Config.elapsedModulus

/-- The elapsed time `n` ticks from now, in the 64-bit count. -/
def elapsedIn (s : State) (n : Nat) : Nat := (s.time.elapsed + n) % Config.elapsedModulus

/-- Whether elapsed time has reached `t`, in the 64-bit count. -/
def elapsedReached (s : State) (t : Nat) : Bool := decide (elapsedSince s t < Config.elapsedModulus / 2)

/-- Whether the resend timer has expired: the oldest notice is SENT and 100 ms have passed since (R165). -/
def resendDue (s : State) : Bool :=
  match s.notices.held with
  | n :: _ =>
    match n.lastSent with
    | some t => decide (n.send = .sent) && decide (Config.resendTicks ≤ elapsedSince s t)
    | none => false
  | [] => false

/-- The start level of a staged cue (R41). -/
def startLevel (config : LaneConfig) (h : HeldCue) : Nat := min config.startThreshold h.count

/-- A true or false flag outside a flags byte, and a presence bit (R172). -/
def flagByte (b : Bool) : Byte := if b then 1 else 0

/-- A byte of up to four flags, bit 0 first (R172). -/
def flagsByte (b0 b1 b2 b3 : Bool) : Byte :=
  (if b0 then 1 else 0) + (if b1 then 2 else 0) + (if b2 then 4 else 0) + (if b3 then 8 else 0)

end Sys2Proof.Machine
end

