-- ==== Sys2Proof/Machine/Operands.lean ====
section
/-!
DEFINITION. The operand forms: the named values of R172 with their codes, signed offsets, the fields of a reply and a
notice in their widths (R172, R179), and the reading of a profile, a lane's settings and a cue's fields from the
values sent.
-/

namespace Sys2Proof.Machine

/-! ### Fields -/

/-- A field of one, two, four or six bytes (R172). -/
def u8 (n : Nat) : List Byte := toLE 1 n
def u16 (n : Nat) : List Byte := toLE 2 n
def u32 (n : Nat) : List Byte := toLE 4 n
def u48 (n : Nat) : List Byte := toLE 6 n

/-- A signed offset in 4 bytes, two's complement (R172). -/
def i32 (n : Int) : List Byte := toLE 4 (BitVec.ofInt 32 n).toNat

/-- An optional field with its own presence byte (R172). -/
def optField (enc : Nat → List Byte) : Option Nat → List Byte
  | some n => 1 :: enc n
  | none => [0]

/-! ### Codes of named values -/

/-- The status codes of R176. -/
def statusCode : Status → Byte
  | .ok => 0x00
  | .accepted => 0x01
  | .badKind => 0x10
  | .badLength => 0x11
  | .badValue => 0x12
  | .notReady => 0x13
  | .timeNotSet => 0x14
  | .inUse => 0x15
  | .noSpace => 0x16
  | .noSuch => 0x17
  | .wrongState => 0x18
  | .outOfOrder => 0x19
  | .tooLong => 0x1A
  | .checkMismatch => 0x1B
  | .pastDue => 0x1C
  | .laneBusy => 0x1D
  | .inboxFull => 0x1E

/-- The cue state of a slot, EMPTY included (R172). -/
def cueStateCode : Option CueState → Byte
  | none => 0
  | some .held => 1
  | some .armed => 2
  | some .triggerWait => 3
  | some .staged => 4
  | some .pending => 5
  | some .releasing => 6
  | some .ended => 7

def resultCode : OccResult → Byte
  | .sent => 0
  | .skippedLate => 1
  | .skippedLaneStopped => 2
  | .cutCancel => 3
  | .cutStop => 4
  | .cutHold => 5
  | .cutUnderrun => 6

def endReasonCode : EndReason → Byte
  | .completed => 0
  | .cancelled => 1
  | .stopped => 2

def cueEdgeCode : CueEdge → Byte
  | .rising => 0
  | .falling => 1
  | .either => 2

def stampEdgeCode : StampEdge → Byte
  | .rising => 0
  | .falling => 1

def latePolicyCode : LatePolicy → Byte
  | .sendLate => 0
  | .skip => 1

def reportCode : ReportLevel → Byte
  | .endOnly => 0
  | .each => 1
  | .startEach => 2

/-- The payload state of an entry, FREE included (R172). -/
def payloadStateCode : Option PayloadState → Byte
  | none => 0
  | some .filling => 1
  | some .sealed => 2
  | some .doomed => 3

def laneStateCode : LaneState → Byte
  | .stopped => 0
  | .idle => 1
  | .staging => 2
  | .primed => 3
  | .emitting => 4
  | .flushing => 5

def deviceStateCode : DeviceState → Byte
  | .unconfigured => 0
  | .initializing => 1
  | .ready => 2

def rowPolicyCode : RowPolicy → Byte
  | .openRow => 0
  | .closeRow => 1

def bringStepCode : BringStep → Byte
  | .wait => 0
  | .precharge => 1
  | .refresh => 2
  | .modeSet => 3

def resetKindCode : ResetKind → Byte
  | .pin => 0
  | .soft => 1

/-! ### Named values and numbers read from the bytes sent -/

/-- A cue edge by its code (R172). -/
def cueEdgeOf (b : Byte) : Option CueEdge :=
  match b.toNat with
  | 0 => some .rising
  | 1 => some .falling
  | 2 => some .either
  | _ => none

def latePolicyOf (b : Byte) : Option LatePolicy :=
  match b.toNat with
  | 0 => some .sendLate
  | 1 => some .skip
  | _ => none

def reportOf (b : Byte) : Option ReportLevel :=
  match b.toNat with
  | 0 => some .endOnly
  | 1 => some .each
  | 2 => some .startEach
  | _ => none

def edgeModeOf (b : Byte) : Option EdgeMode :=
  match b.toNat with
  | 0 => some .off
  | 1 => some .rising
  | 2 => some .falling
  | 3 => some .either
  | _ => none

/-- A true or false byte; another value is none (R172). -/
def flagOf (b : Byte) : Option Bool :=
  match b.toNat with
  | 0 => some false
  | 1 => some true
  | _ => none

/-- A lane or a trigger line by its number, none above 3. -/
def fourOf (b : Byte) : Option (Fin 4) :=
  match b.toNat with
  | 0 => some 0
  | 1 => some 1
  | 2 => some 2
  | 3 => some 3
  | _ => none

/-- The options of a FILE_CUE (R175). -/
def optionsOf (b : Byte) : Options :=
  { verify := b.getLsbD 0, autoDiscard := b.getLsbD 1, armNow := b.getLsbD 2 }

/-- The options byte as filed (R177). -/
def optionsByte (o : Options) : Byte := flagsByte o.verify o.autoDiscard o.armNow false

/-- The memory profile that nine bytes give, when every field is in its range (R95, R96 test 2). -/
def profileOf (p : ProfileBody) : Option Profile :=
  match (if p.policy.toNat = 0 then some RowPolicy.openRow
         else if p.policy.toNat = 1 then some RowPolicy.closeRow else none) with
  | none => none
  | some policy =>
    if (p.rows.toNat = 2048 ∨ p.rows.toNat = 4096 ∨ p.rows.toNat = 8192) ∧ 1000 ≤ p.interval.toNat
        ∧ 1 ≤ p.debtLimit.toNat ∧ p.debtLimit.toNat ≤ 8 ∧ 2 ≤ p.initRefreshes.toNat ∧ p.initRefreshes.toNat ≤ 16
        ∧ (p.latency.toNat = 2 ∨ p.latency.toNat = 3) ∧ (p.burst.toNat = 4 ∨ p.burst.toNat = 8) then
      some { rows := p.rows.toNat, policy := policy, interval := p.interval.toNat, debtLimit := p.debtLimit.toNat,
             initRefreshes := p.initRefreshes.toNat, latency := p.latency.toNat, burst := p.burst.toNat }
    else none

/-- The nine bytes of a loaded profile (R178). -/
def profileBytes (p : Profile) : List Byte :=
  u16 p.rows ++ [rowPolicyCode p.policy] ++ u16 p.interval ++ u8 p.debtLimit ++ u8 p.initRefreshes ++ u8 p.latency
    ++ u8 p.burst

/-- The block count of a profile (R73). -/
def blockCount (p : Profile) : Nat := 4 * p.rows

/-- The lane settings that SET_LANE gives, when every setting is in its range (R29, R30 test 2). -/
def laneConfigOf (b : LaneBody) : Option LaneConfig :=
  match flagOf b.enabled with
  | none => none
  | some enabled =>
    if 1 ≤ b.pace.toNat ∧ 20 ≤ b.leadWindow.toNat ∧ 32 ≤ b.startThreshold.toNat ∧ b.startThreshold.toNat ≤ 2048 then
      some { enabled := enabled, pace := b.pace.toNat, leadWindow := b.leadWindow.toNat,
             startThreshold := b.startThreshold.toNat, holdLimit := b.holdLimit.toNat }
    else none

/-! ### Notices on the link -/

/-- The kind code of a notice (R179). -/
def noticeKindCode : NoticeBody → Byte
  | .restarted _ => 0x01
  | .memoryReady _ => 0x02
  | .cueStart _ _ _ => 0x10
  | .cueOccurrence _ _ _ _ _ _ _ => 0x11
  | .cueSkipped _ _ _ => 0x12
  | .cueEnd _ _ _ _ => 0x13
  | .triggerEdge _ _ _ => 0x20
  | .slewDone => 0x30
  | .timeEnd => 0x31
  | .overflow => 0x3F

/-- The contents of a notice after its header (R179). -/
def noticeContents : NoticeBody → List Byte
  | .restarted kind => [resetKindCode kind]
  | .memoryReady n => u16 n
  | .cueStart cue start lateness => u8 cue ++ u48 start ++ u48 lateness
  | .cueOccurrence cue result late checkFault bytes lateness used =>
      u8 cue ++ [resultCode result, flagsByte late checkFault false false] ++ u32 bytes ++ u48 lateness ++ u16 used
  | .cueSkipped cue number nextDue =>
      u8 cue ++ [flagByte nextDue.isSome] ++ u16 number ++ (match nextDue with
        | some d => u48 d
        | none => [])
  | .cueEnd cue reason used skipped => u8 cue ++ [endReasonCode reason] ++ u16 used ++ u16 skipped
  | .triggerEdge line edge time => u8 line.val ++ [stampEdgeCode edge] ++ u48 time
  | .slewDone => []
  | .timeEnd => []
  | .overflow => []

/-- The NOTICE frame of a held notice (R155, R179). -/
def noticeFrame (n : Notice) : Frame :=
  { frameType := 0x12, seq := n.number.setWidth 8,
    body := noticeKindCode n.body :: u16 n.number.toNat ++ noticeContents n.body }

/-- A REPLY frame (R150, R176). -/
def replyFrame (seq code : Byte) (status : Status) (results : List Byte) : Frame :=
  { frameType := 0x11, seq := seq, body := code :: statusCode status :: results }

/-- A SYNC_DONE frame (R141, R152). -/
def syncDoneFrame (seq : Byte) : Frame := { frameType := 0x13, seq := seq, body := [] }

end Sys2Proof.Machine
end

