-- ==== Sys2Proof/Machine/Ops.lean ====
section
/-!
DEFINITION. The shared operations: tables kept in rising key order (the cue table, the directory, the SDRAM bytes),
sorting, the accessors of State, SDRAM reads and writes, raising and joining notices, and freeing a payload.
-/

namespace Sys2Proof.Machine

/-! ### Tables -/

/-- The entry of a table at a key. -/
def tget {α : Type} : List (Nat × α) → Nat → Option α
  | [], _ => none
  | (k, v) :: t, a => if a = k then some v else tget t a

/-- The table with the entry at `a` set to `x`, keys rising. -/
def tput {α : Type} : List (Nat × α) → Nat → α → List (Nat × α)
  | [], a, x => [(a, x)]
  | (k, v) :: t, a, x =>
    if a < k then (a, x) :: (k, v) :: t else if a = k then (a, x) :: t else (k, v) :: tput t a x

/-- The table with no entry at `a`. -/
def tdel {α : Type} (t : List (Nat × α)) (a : Nat) : List (Nat × α) := t.filter (fun e => decide (e.1 ≠ a))

/-- Whether the keys of a table rise strictly. -/
def sortedKeys {α : Type} : List (Nat × α) → Bool
  | [] => true
  | [_] => true
  | (a, _) :: (b, y) :: t => decide (a < b) && sortedKeys ((b, y) :: t)

/-- The canonical form of the SDRAM contents: addresses rising. An unlisted address reads as no value, which no entry
equals (R113; notes/assumptions/2.md). -/
def Memory.wf (m : List Host.Cell) : Bool := sortedKeys m

/-! ### Sorting -/

/-- Insert `x` before the first member that is not less than it. -/
def insertBy {α : Type} (lt : α → α → Bool) (x : α) : List α → List α
  | [] => [x]
  | y :: t => if lt y x then y :: insertBy lt x t else x :: y :: t

/-- The members in the order of `lt`; members of equal rank keep their order. -/
def sortBy {α : Type} (lt : α → α → Bool) (l : List α) : List α := l.foldr (insertBy lt) []

/-! ### Accessors -/

/-- The lane unit `l`. -/
def State.lane (s : State) (l : Fin 4) : Lane := s.lanes.get l

/-- The state with lane unit `l` replaced. -/
def State.setLane (s : State) (l : Fin 4) (x : Lane) : State := { s with lanes := s.lanes.set l x }

/-- The cue record of a slot; none for an EMPTY one (R1). -/
def State.cue? (s : State) (id : Nat) : Option Cue := tget s.cues id

/-- The state with the record of slot `id` written. -/
def State.setCue (s : State) (id : Nat) (c : Cue) : State := { s with cues := tput s.cues id c }

/-- The state with slot `id` EMPTY. -/
def State.dropCue (s : State) (id : Nat) : State := { s with cues := tdel s.cues id }

/-- The directory entry of a payload id; none while it is FREE (R76). -/
def State.payload? (s : State) (id : Nat) : Option Payload := tget s.store.directory id

/-- The state with a directory entry written. -/
def State.setPayload (s : State) (id : Nat) (p : Payload) : State :=
  { s with store := { s.store with directory := tput s.store.directory id p } }

/-- The bank table with one entry changed (R102). -/
def State.setBank (s : State) (bank : Fin 4) (row : Option Nat) : State :=
  { s with mc := { s.mc with banks := s.mc.banks.set bank row } }

/-- The bank table with every entry CLOSED (R102). -/
def State.closeBanks (s : State) : State := { s with mc := { s.mc with banks := Quad.all none } }

/-- The state with an operation on the port, `left` port clock periods from its end (R112). -/
def State.occupyPort (s : State) (op : PortOp) (left : Nat) : State :=
  { s with mc := { s.mc with port := some op, portLeft := left } }

/-- The state with the port free. -/
def State.freePort (s : State) : State := { s with mc := { s.mc with port := none, portLeft := 0 } }

/-! ### Blocks and SDRAM bytes -/

/-- The bank of a block (R73). -/
def bankOf (block : Nat) : Fin 4 := ⟨block % 4, Nat.mod_lt _ (by decide)⟩

/-- The row of a block within its bank (R73). -/
def rowOf (block : Nat) : Nat := block / 4

/-- The address of byte position `pos` of a row: the block that is the row, then the position (R73). -/
def sdramAddress (bank : Fin 4) (row pos : Nat) : Nat := (row * 4 + bank.val) * Config.blockBytes + pos

/-- The blocks a payload of `length` bytes holds (R73). -/
def blocksFor (length : Nat) : Nat := (length + Config.blockBytes - 1) / Config.blockBytes

/-- The SDRAM byte at an address; none when nothing has written it since the last bring-up. -/
def State.memByte (s : State) (a : Nat) : Option Byte := tget s.mem a

/-- The SDRAM contents with `bytes` written from address `a` on (R114). -/
def writeBytes : List Host.Cell → Nat → List Byte → List Host.Cell
  | m, _, [] => m
  | m, a, b :: t => writeBytes (tput m a b) (a + 1) t

/-- The `n` bytes from address `a` on, as read number `k` delivers them (R113). -/
def readBytes (m : List Host.Cell) (k : Nat) : Nat → Nat → List Byte
  | _, 0 => []
  | a, n + 1 => (tget m a).getD (Config.undefinedByte k a) :: readBytes m k (a + 1) n

/-- Whether a byte among the `n` from address `a` on was never written. -/
def anyUnwritten (m : List Host.Cell) : Nat → Nat → Bool
  | _, 0 => false
  | a, n + 1 => (tget m a).isNone || anyUnwritten m (a + 1) n

/-- The largest `s` a request may move from position `pos` of a payload with `left` bytes to go (R37, R82, R90). -/
def transferSize (pos left : Nat) : Nat :=
  min Config.maxTransfer (min left (Config.blockBytes - pos % Config.blockBytes))

/-- The request for `left` bytes of a payload from offset `pos` on: at most 256 bytes within one block. None when the
block list does not reach there. -/
def requestAt (blocks : List Nat) (pos left : Nat) : Option MemRequest :=
  match blocks[pos / Config.blockBytes]? with
  | some b => some { block := b, pos := pos % Config.blockBytes, size := transferSize pos left }
  | none => none

/-! ### Notices -/

/-- Raise a notice in the event in progress (R162, R163). -/
def State.raise (s : State) (n : NoticeBody) : State := { s with raised := s.raised ++ [n] }

/-- The place of a notice within its event: the notices of no cue come first, then by cue id (R163). -/
def noticeRank : NoticeBody → Nat
  | .cueStart cue _ _ => cue + 1
  | .cueOccurrence cue _ _ _ _ _ _ => cue + 1
  | .cueSkipped cue _ _ => cue + 1
  | .cueEnd cue _ _ _ => cue + 1
  | _ => 0

/-- Whether a held notice is the OVERFLOW notice. -/
def Notice.isOverflow (n : Notice) : Bool := decide (n.body = .overflow)

/-- The queue with a notice joined at the tail under the next number (R161, R162). -/
def NoticeQueue.append (q : NoticeQueue) (b : NoticeBody) : NoticeQueue :=
  { held := q.held ++ [{ number := q.next, body := b, send := .due, again := false, lastSent := none }],
    next := q.next + 1 }

/-- A raised notice offered to the queue: discarded while OVERFLOW is held, replaced by OVERFLOW at 31 held, and
joined otherwise (R162). -/
def NoticeQueue.offer (q : NoticeQueue) (b : NoticeBody) : NoticeQueue :=
  if q.held.any Notice.isOverflow then q
  else if Config.noticeQueueSize - 1 ≤ q.held.length then q.append .overflow
  else q.append b

/-- Whether a cue is ARMED or PENDING. -/
def State.awaitsRelease (s : State) (id : Nat) : Bool :=
  match s.cue? id with
  | some c => decide (c.state = .armed) || decide (c.state = .pending)
  | none => false

/-- A notice as the event leaves it: a CUE_SKIPPED keeps its next due where its cue leaves the event in ARMED or
PENDING, and has none where the cue leaves in another state, as when its lane picks it in the same event (R16). -/
def State.noticeLeft (s : State) (b : NoticeBody) : NoticeBody :=
  match b with
  | .cueSkipped id number nextDue => .cueSkipped id number (if s.awaitsRelease id then nextDue else none)
  | b => b

/-- The notices of the event in the order of R163. -/
def State.raisedInOrder (s : State) : List NoticeBody :=
  sortBy (fun a b => decide (noticeRank a < noticeRank b)) (s.raised.map s.noticeLeft)

/-- The notices of the event offered one after another in the order of R163. -/
def State.offerRaised (s : State) : State :=
  { s with notices := s.raisedInOrder.foldl NoticeQueue.offer s.notices, raised := [] }

/-- A notice after a resend order (R164). -/
def Notice.resend (n : Notice) : Notice :=
  match n.send with
  | .due => n
  | .sending => { n with again := true }
  | .sent => { n with send := .due, lastSent := none }

/-- Every held notice brought to DUE (R165, R166). -/
def State.orderResend (s : State) : State :=
  { s with notices := { s.notices with held := s.notices.held.map Notice.resend } }

/-! ### Payload entries -/

/-- A payload freed: its blocks join the pool tail in list order and its entry returns to FREE (R86); it is no longer
among the payloads that a soft reset left to be freed. -/
def State.freePayload (s : State) (id : Nat) : State :=
  match s.payload? id with
  | none => s
  | some p =>
    { s with
      store :=
        { s.store with
          pool := s.store.pool ++ p.blocks, directory := tdel s.store.directory id,
          leaving := s.store.leaving.filter (fun k => decide (k ≠ id)) } }

/-- The payloads in DOOMED with no cue left, by rising id. -/
def doomedUnused (s : State) : List Nat :=
  (s.store.directory.filter (fun e => decide (e.2.state = .doomed) && decide (e.2.refs = 0))).map Prod.fst

/-- Every DOOMED payload whose reference count is 0 is freed, by rising id (R89). -/
def State.freeDoomed (s : State) : State := (doomedUnused s).foldl State.freePayload s

/-- A payload's reference count raised by 1 (R25). -/
def State.addRef (s : State) (id : Nat) : State :=
  match s.payload? id with
  | some p => s.setPayload id { p with refs := p.refs + 1 }
  | none => s

/-- A payload's reference count lowered by 1 (R25). -/
def State.dropRef (s : State) (id : Nat) : State :=
  match s.payload? id with
  | some p => s.setPayload id { p with refs := p.refs - 1 }
  | none => s

end Sys2Proof.Machine
end

