-- ==== Sys2Proof/Machine/Port.lean ====
section
/-!
DEFINITION. The memory port: the requests waiting at the arbiter and who has one outstanding (R37, R82, R104), giving
a request up (R40, R88, R94, R111), the grant order (R105, R106), and how an operation begins (R108, R112, R122).
-/

namespace Sys2Proof.Machine

/-! ### Outstanding requests -/

/-- Whether the transaction on the port belongs to `r` and its request is not over: it is not withdrawn and its
column phase has not ended (R37, R110, R111). -/
def inFlight (s : State) (r : Requester) : Bool :=
  match s.mc.port with
  | some (.transaction t) => decide (t.requester = r) && !t.withdrawn && decide (t.phase ≠ .closing)
  | _ => false

/-- Whether the transaction of `r` is in its column phase. -/
def inColumn (s : State) (r : Requester) : Bool :=
  match s.mc.port with
  | some (.transaction t) => decide (t.requester = r) && decide (t.phase = .column)
  | _ => false

/-- Whether a requester has a request waiting or in flight (R104). -/
def outstanding (s : State) : Requester → Bool
  | .lane l => (s.mc.laneReq.get l).isSome || inFlight s (.lane l)
  | .fill => s.mc.fillReq.isSome || inFlight s .fill
  | .readBack => s.mc.readReq.isSome || inFlight s .readBack

/-- The state without the waiting request of `r`. -/
def dropRequest (s : State) : Requester → State
  | .lane l => { s with mc := { s.mc with laneReq := s.mc.laneReq.set l none } }
  | .fill => { s with mc := { s.mc with fillReq := none } }
  | .readBack => { s with mc := { s.mc with readReq := none } }

/-- The state with a request of `r` waiting at the arbiter. -/
def placeRequest (s : State) (r : Requester) (q : MemRequest) : State :=
  match r with
  | .lane l => { s with mc := { s.mc with laneReq := s.mc.laneReq.set l (some q) } }
  | .fill => { s with mc := { s.mc with fillReq := some q } }
  | .readBack => { s with mc := { s.mc with readReq := some q } }

/-- A transaction in its row phase that belongs to `r` is withdrawn; any other is as it was (R111). -/
def Transaction.withdrawFor (t : Transaction) (r : Requester) : Transaction :=
  match t.phase with
  | .row _ => if t.requester = r then { t with withdrawn := true } else t
  | _ => t

/-- The requester gives its request up: one not yet granted is removed, one in its row phase is withdrawn, and one in
its column phase goes on (R40, R88, R94). -/
def giveUpRequest (s : State) (r : Requester) : State :=
  let s := dropRequest s r
  match s.mc.port with
  | some (.transaction t) => { s with mc := { s.mc with port := some (.transaction (t.withdrawFor r)) } }
  | _ => s

/-! ### Refresh requests -/

/-- Whether any lane is EMITTING (R106, R121). -/
def anyEmitting (s : State) : Bool := s.lanes.toList.any (fun l => decide (l.state = .emitting))

/-- The debt limit of the loaded profile. -/
def debtLimit (s : State) : Nat :=
  match s.mc.profile with
  | some p => p.debtLimit
  | none => 0

/-- The refresh scheduler places its request when the debt is above 0 and it has none (R120). -/
def placeRefresh (s : State) : State :=
  if 0 < s.refresh.debt ∧ s.refresh.request = .absent ∧ s.device = .ready then
    { s with refresh := { s.refresh with request := .waiting } }
  else s

/-- A waiting refresh request that is forced: the debt equals the limit (R121). -/
def refreshForced (s : State) : Bool :=
  decide (s.refresh.request = .waiting) && decide (s.refresh.debt = debtLimit s)

/-- A waiting refresh request that is postponable: the debt is above 0 and below the limit, and no lane is EMITTING
(R121). -/
def refreshPostponable (s : State) : Bool :=
  decide (s.refresh.request = .waiting) && decide (0 < s.refresh.debt) && decide (s.refresh.debt < debtLimit s)
    && !anyEmitting s

/-- The condition in which a lane's feeding leaves a WAITING refresh request that is neither forced nor
postponable (R121). -/
def refreshPostponed (s : State) : Bool :=
  decide (s.refresh.request = .waiting) && decide (0 < s.refresh.debt) && decide (s.refresh.debt < debtLimit s)
    && anyEmitting s

/-! ### The grant order -/

/-- The member of a list with the least key; the first of equal ones. -/
def leastBy (key : Fin 4 → Nat) : List (Fin 4) → Option (Fin 4)
  | [] => none
  | x :: t =>
    match leastBy key t with
    | none => some x
    | some y => if key y < key x then some y else some x

/-- The current due of a lane's held cue; 0 where there is none. -/
def heldDue (s : State) (l : Fin 4) : Nat :=
  match (s.lane l).held with
  | some h =>
    match s.cue? h.cue with
    | some c => c.due.getD 0
    | none => 0
  | none => 0

/-- The lanes in a state whose reads wait at the arbiter. -/
def waitingLanes (s : State) (st : LaneState) : List (Fin 4) :=
  fours.filter (fun l => (s.mc.laneReq.get l).isSome && decide ((s.lane l).state = st))

/-- What the arbiter grants. -/
inductive Grant where
  | refresh
  | access (r : Requester)
  deriving DecidableEq, Repr

/-- The first eligible request in the class order of R106. -/
def chooseGrant (s : State) : Option Grant :=
  if refreshForced s then some .refresh
  else
    match leastBy (fun l => (s.lane l).buffer.length) (waitingLanes s .emitting) with
    | some l => some (.access (.lane l))
    | none =>
      match leastBy (heldDue s) (waitingLanes s .staging) with
      | some l => some (.access (.lane l))
      | none =>
        match leastBy (heldDue s) (waitingLanes s .primed) with
        | some l => some (.access (.lane l))
        | none =>
          if s.mc.readReq.isSome then some (.access .readBack)
          else if s.mc.fillReq.isSome then some (.access .fill)
          else if refreshPostponable s then some .refresh
          else none

/-! ### Beginning an operation -/

/-- The words a column phase moves: every aligned burst that holds a byte of the transaction, at burst words words
each (R109). -/
def wordsMoved (burst pos size : Nat) : Nat :=
  ((pos + size - 1) / (2 * burst) - pos / (2 * burst) + 1) * burst

/-- The port clock periods of a column phase (R112). -/
def columnTime (p : Profile) (write : Bool) (pos size : Nat) : Nat :=
  if write then wordsMoved p.burst pos size + 2 else p.latency + wordsMoved p.burst pos size

/-- The column time under the loaded profile. -/
def columnTimeOf (s : State) (t : Transaction) : Nat :=
  match s.mc.profile with
  | some p => columnTime p (decide (t.requester = .fill)) t.pos t.size
  | none => 0

/-- A granted read or write begins: in COLUMN on a row hit, with a precharge where another row is open, with an
activate where the bank is CLOSED (R108). -/
def beginTransaction (s : State) (r : Requester) (q : MemRequest) : State :=
  let t : Transaction :=
    { requester := r, bank := bankOf q.block, row := rowOf q.block, pos := q.pos, size := q.size, phase := .column,
      withdrawn := false }
  match s.mc.banks.get t.bank with
  | some open_ =>
    if open_ = t.row then s.occupyPort (.transaction t) (columnTimeOf s t)
    else s.occupyPort (.transaction { t with phase := .row .precharge }) Config.prechargeTime
  | none => s.occupyPort (.transaction { t with phase := .row .activate }) Config.activateTime

/-- A granted refresh begins: with a precharge-all if any row is open, else with its command (R122). -/
def beginRefresh (s : State) : State :=
  let s := { s with refresh := { s.refresh with request := .inFlight } }
  if s.mc.banks.toList.all Option.isNone then s.occupyPort (.refresh .command) Config.refreshTime
  else s.occupyPort (.refresh .precharge) Config.prechargeTime

/-- The waiting request of a requester. -/
def requestOf (s : State) : Requester → Option MemRequest
  | .lane l => s.mc.laneReq.get l
  | .fill => s.mc.fillReq
  | .readBack => s.mc.readReq

/-- The grant is carried out: the request leaves the arbiter and its operation begins (R105). -/
def carryOutGrant (s : State) : Grant → State
  | .refresh => beginRefresh s
  | .access r =>
    match requestOf s r with
    | some q => beginTransaction (dropRequest s r) r q
    | none => s

/-- The command of the bring-up's present step is issued to a free port; WAIT issues none (R98). -/
def issueBringUp (s : State) : State :=
  match s.mc.bringUp with
  | some b =>
    match b.step with
    | .wait => s
    | .precharge => s.occupyPort (.bringUp .precharge false) Config.prechargeTime
    | .refresh => s.occupyPort (.bringUp .refresh false) Config.refreshTime
    | .modeSet => s.occupyPort (.bringUp .modeSet false) Config.modeSetTime
  | none => s

/-- The arbiter's test: a free port in READY goes to the first eligible request; in INITIALIZING it belongs to the
bring-up (R97, R105). -/
def arbitrate (s : State) : State :=
  match s.mc.port with
  | some _ => s
  | none =>
    match s.device with
    | .ready =>
      match chooseGrant s with
      | some g => carryOutGrant s g
      | none => s
    | .initializing => issueBringUp s
    | .unconfigured => s

end Sys2Proof.Machine
end

