-- ==== Sys2Proof/Machine/Scheduler.lean ====
section
/-!
DEFINITION. The cue scheduler: the due list and the pending queues (R8, R9), the states a cue enters, the end of an
occurrence (R15 to R19, R23), grouped skipping in closed form (R17, R18), and the release by a stamp (R12). The lane
orders that some of these give stand in Lanes.
-/

namespace Sys2Proof.Machine

/-! ### Derived collections -/

/-- The key of a cue in the due list: current due, then id (R8). -/
def dueBefore (a b : Nat × Cue) : Bool :=
  let x := a.2.due.getD 0
  let y := b.2.due.getD 0
  decide (x < y) || (decide (x = y) && decide (a.1 < b.1))

/-- The order of a pending queue: priority, highest first, then current due, then id (R9). -/
def pendingBefore (a b : Nat × Cue) : Bool :=
  decide (b.2.priority < a.2.priority) || (decide (a.2.priority = b.2.priority) && dueBefore a b)

/-- The due list: every ARMED cue in due order (R8). -/
def dueList (s : State) : List (Nat × Cue) :=
  sortBy dueBefore (s.cues.filter (fun e => decide (e.2.state = .armed)))

/-- The pending queue of a lane: its PENDING cues, head first (R9). -/
def pendingQueue (s : State) (l : Fin 4) : List (Nat × Cue) :=
  sortBy pendingBefore (s.cues.filter (fun e => decide (e.2.state = .pending) && decide (e.2.lane = l)))

/-! ### States a cue enters -/

/-- Whether the cue's level reports each occurrence (section 1.11). -/
def Cue.reports (c : Cue) : Bool := decide (c.report ≠ .endOnly)

/-- Whether a used count has reached a repeat count that is not 0 (R15). -/
def Cue.spent (c : Cue) : Bool := decide (c.repeatCount ≠ 0) && decide (c.used = c.repeatCount)

/-- HELD, with no current due. -/
def Cue.toHeld (c : Cue) : Cue := { c with state := .held, due := none, cut := .none, started := none }

/-- ARMED with a current due. -/
def Cue.toArmed (c : Cue) (due : Nat) : Cue :=
  { c with state := .armed, due := some due, cut := .none, started := none }

/-- PENDING with a current due. -/
def Cue.toPending (c : Cue) (due : Nat) : Cue :=
  { c with state := .pending, due := some due, cut := .none, started := none }

/-- TRIGGER_WAIT, with the arm moment placed after the stamps recorded so far (R7, R19, R70). -/
def Cue.toTriggerWait (c : Cue) (recorded : Nat) : Cue :=
  { c with state := .triggerWait, due := none, cut := .none, started := none, armMoment := some recorded }

/-- ENDED with its end reason, with no current due. -/
def Cue.toEnded (c : Cue) (reason : EndReason) : Cue :=
  { c with state := .ended, due := none, endReason := some reason, cut := .none, started := none }

/-- A cue enters ENDED: its payload reference is released, CUE_END is raised, and with AUTO_DISCARD the slot becomes
EMPTY (R23, R25). -/
def endCue (s : State) (id : Nat) (c : Cue) (reason : EndReason) : State :=
  let s := (s.dropRef c.payload).raise (.cueEnd id reason c.used c.skipped)
  if c.options.autoDiscard then s.dropCue id else s.setCue id (c.toEnded reason)

/-- One CUE_SKIPPED notice for the occurrences an event skipped, at a level that reports them (R15 to R19). -/
def raiseSkipped (s : State) (id : Nat) (c : Cue) (number : Nat) (nextDue : Option Nat) : State :=
  if 0 < number ∧ c.reports then s.raise (.cueSkipped id (min number 65535) nextDue) else s

/-! ### Recording occurrences -/

/-- A count raised by `n`; with repeat count 0 it stops at 65,535 (R15). -/
def countUp (c : Cue) (value n : Nat) : Nat := if c.repeatCount = 0 then min (value + n) 65535 else value + n

/-- The record of a released occurrence (R15). -/
def Cue.recordReleased (c : Cue) (result : OccResult) (late checkFault : Bool) (bytes : Nat) : Cue :=
  { c with
    used := countUp c c.used 1
    last := some
      { result := result, late := late, checkFault := checkFault, startTime := c.started.map StartReport.time,
        lateness := (c.started.map StartReport.lateness).getD 0, bytes := bytes } }

/-- The record of `k` occurrences skipped one after another, the last of them due at `due` (R15, R17, R18). -/
def Cue.recordSkipped (c : Cue) (k : Nat) (result : OccResult) (now due : Nat) : Cue :=
  if k = 0 then c
  else
    { c with
      used := countUp c c.used k
      skipped := countUp c c.skipped k
      last := some
        { result := result, late := false, checkFault := false, startTime := none, lateness := now - due,
          bytes := 0 } }

/-- How many of the values `x`, `x + period`, `x + 2 * period`, … lie below `bound`. -/
def countBelow (x bound period : Nat) : Nat := if x < bound then (bound - 1 - x) / period + 1 else 0

/-- How many of `n` occurrences the repeat count still allows (R17, R18). -/
def Cue.allowed (c : Cue) (n : Nat) : Nat := if c.repeatCount = 0 then n else min n (c.repeatCount - c.used)

/-- The occurrences that grouped skipping drops from a candidate due on: those whose due plus tolerance is earlier
than device time, as far as the repeat count allows (R17). -/
def Cue.groupedSkips (c : Cue) (candidate now : Nat) : Nat :=
  c.allowed (countBelow (candidate + c.tolerance) now c.period)

/-- The occurrences a STOPPED lane skips from a candidate due on: those already reached, as far as the repeat count
allows (R18). -/
def Cue.stoppedSkips (c : Cue) (candidate now : Nat) : Nat :=
  c.allowed (countBelow candidate (now + 1) c.period)

/-! ### What follows an occurrence -/

/-- Steps 1 to 4 of R16 from a candidate due, with the CUE_SKIPPED notice of the `skips` occurrences the event has
skipped. The notice names the current due that the cue takes here, and loses it where the cue does not leave the event
in ARMED or PENDING (`State.noticeLeft`). -/
def nextOccurrence (s : State) (id : Nat) (c : Cue) (candidate skips : Nat) : State :=
  if c.spent then endCue (raiseSkipped s id c skips none) id c .completed
  else if Config.maxTime < candidate then (raiseSkipped s id c skips none).setCue id c.toHeld
  else if s.time.device < candidate then
    (raiseSkipped s id c skips (some candidate)).setCue id (c.toArmed candidate)
  else (raiseSkipped s id c skips (some candidate)).setCue id (c.toPending candidate)

/-- R16 with the grouped skipping of R17 for a SKIP cue, from a candidate due; `skips` counts the ending occurrence
when that was a skip. -/
def nextTimed (s : State) (id : Nat) (c : Cue) (candidate skips : Nat) : State :=
  let now := s.time.device
  let k := if c.late = .skip then c.groupedSkips candidate now else 0
  nextOccurrence s id (c.recordSkipped k .skippedLate now (candidate + (k - 1) * c.period))
    (candidate + k * c.period) (skips + k)

/-- R18 from a candidate due: the occurrences already reached are skipped, then R16 from step 1. -/
def nextStopped (s : State) (id : Nat) (c : Cue) (candidate skips : Nat) : State :=
  let now := s.time.device
  let k := c.stoppedSkips candidate now
  nextOccurrence s id (c.recordSkipped k .skippedLaneStopped now (candidate + (k - 1) * c.period))
    (candidate + k * c.period) (skips + k)

/-- The end of an occurrence by skipping (R11, R14, R15): it is recorded, and what follows is decided. -/
def endSkipped (s : State) (id : Nat) (c : Cue) (result : OccResult) : State :=
  let due := c.due.getD 0
  let c1 := c.recordSkipped 1 result s.time.device due
  if c1.spent then endCue (raiseSkipped s id c1 1 none) id c1 .completed
  else
    match c1.start with
    | .time _ =>
      if result = .skippedLaneStopped then nextStopped s id c1 (due + c1.period) 1
      else nextTimed s id c1 (due + c1.period) 1
    | .trigger _ _ _ => (raiseSkipped s id c1 1 none).setCue id (c1.toTriggerWait s.triggers.recorded)

/-- What a CANCEL_CUE that waits for this cue has to report: the counts at the cue's end (R21). -/
def noteCancelled (s : State) (id : Nat) (c : Cue) : State :=
  match s.executing with
  | some { seq, code, wait := .cancel cue none } =>
    if cue = id then { s with executing := some { seq, code, wait := .cancel cue (some (c.used, c.skipped)) } } else s
  | _ => s

/-- A STOP_ALL that waits counts a cue brought to HELD or ended STOPPED (R24). -/
def noteStopped (s : State) (ended : Bool) : State :=
  match s.executing with
  | some { seq, code, wait := .stopAll held stopped } =>
    { s with
      executing := some
        { seq, code, wait := if ended then .stopAll held (stopped + 1) else .stopAll (held + 1) stopped } }
  | _ => s

/-- The end of a released occurrence (R15): it is recorded, CUE_OCCURRENCE is raised, and the cut disposition, the
repeat count and the start kind decide the cue's next state. DESIGN CHOICE (notes/assumptions/32.md): where the event
also skips later occurrences of the cue, CUE_OCCURRENCE comes before CUE_SKIPPED. -/
def endReleased (s : State) (id : Nat) (c : Cue) (result : OccResult) (late checkFault : Bool) (bytes : Nat) : State :=
  let c1 := c.recordReleased result late checkFault bytes
  let lateness := (c.started.map StartReport.lateness).getD 0
  let s := if c1.reports then s.raise (.cueOccurrence id result late checkFault bytes lateness c1.used) else s
  match c.cut with
  | .cancel => endCue (noteCancelled s id c1) id c1 .cancelled
  | .stop =>
    if c1.spent then endCue (noteStopped s true) id c1 .stopped
    else (noteStopped s false).setCue id c1.toHeld
  | .none =>
    if c1.spent then endCue s id c1 .completed
    else
      match c1.start with
      | .time _ => nextTimed s id c1 (c1.due.getD 0 + c1.period) 0
      | .trigger _ _ _ => s.setCue id (c1.toTriggerWait s.triggers.recorded)

/-! ### Dues and stamps -/

/-- The due of an ARMED cue is reached: tested in the order of R11. -/
def reachDue (s : State) (id : Nat) : State :=
  match s.cue? id with
  | some c =>
    let due := c.due.getD 0
    if c.state = .armed ∧ due ≤ s.time.device then
      if (s.lane c.lane).state = .stopped then endSkipped s id c .skippedLaneStopped
      else if c.late = .skip ∧ due + c.tolerance < s.time.device then endSkipped s id c .skippedLate
      else s.setCue id (c.toPending due)
    else s
  | none => s

/-- Whether a cue edge matches a stamp (R12). -/
def CueEdge.matchesStamp : CueEdge → StampEdge → Bool
  | .either, _ => true
  | .rising, .rising => true
  | .falling, .falling => true
  | _, _ => false

/-- Whether stamp number `number` releases the cue: it waits on the line, its edge matches, its arm moment is earlier,
and the due fits device time (R12, R70). -/
def Cue.releasedBy (c : Cue) (line : Fin 4) (stamp : Stamp) (number : Nat) : Bool :=
  match c.start with
  | .trigger l edge offset =>
    decide (c.state = .triggerWait) && decide (l = line) && edge.matchesStamp stamp.edge
      && decide (c.armMoment.getD 0 < number) && decide (stamp.time + offset ≤ Config.maxTime)
  | .time _ => false

/-- The trigger offset of a cue; 0 for a TIME cue. -/
def Cue.triggerOffset (c : Cue) : Nat :=
  match c.start with
  | .trigger _ _ offset => offset
  | .time _ => 0

/-- The cue table after stamp number `number`: every cue it releases goes to ARMED (R12). -/
def releaseByStamp (cues : List (Nat × Cue)) (line : Fin 4) (stamp : Stamp) (number : Nat) : List (Nat × Cue) :=
  cues.map (fun e =>
    if e.2.releasedBy line stamp number then (e.1, e.2.toArmed (stamp.time + e.2.triggerOffset)) else e)

end Sys2Proof.Machine
end

