-- ==== Sys2Proof/Machine/Lanes.lean ====
section
/-!
DEFINITION. The lane units: requesting and receiving bytes (R37, R39), starting, emitting and completing a release
(R41 to R47, R52, R53), unstaging, cutting and flushing (R35, R40, R49, R50), choosing a cue (R33, R34, R36), and what
every event that touches lanes or cues ends with.
-/

namespace Sys2Proof.Machine

/-! ### Fetching -/

/-- Whether a lane in this state fetches (R37). -/
def LaneState.fetches : LaneState → Bool
  | .staging => true
  | .primed => true
  | .emitting => true
  | _ => false

/-- Whether the lane holds a cue that has not started (R32). -/
def LaneState.holdsStaged : LaneState → Bool
  | .staging => true
  | .primed => true
  | _ => false

/-- Whether the lane is at rest: IDLE or STOPPED (R24, R30). -/
def LaneState.atRest : LaneState → Bool
  | .stopped => true
  | .idle => true
  | _ => false

/-- The bytes of the held range not yet fetched (R37). -/
def Lane.unfetched (x : Lane) (h : HeldCue) : Nat := h.offset + h.count - x.fetchPos

/-- The free space of the lane buffer (R37). -/
def Lane.space (x : Lane) : Nat := Config.blockBytes - x.buffer.length

/-- Whether the buffer has room for the lane's next request (R37). -/
def Lane.roomFor (x : Lane) (h : HeldCue) : Bool :=
  decide (Config.maxTransfer ≤ x.space) || decide (x.unfetched h ≤ x.space)

/-- The lane's next memory request, when the three conditions of R37 hold. -/
def laneRequest (s : State) (l : Fin 4) : Option MemRequest :=
  let x := s.lane l
  match x.held with
  | some h =>
    if x.state.fetches && !outstanding s (.lane l) && decide (0 < x.unfetched h) && x.roomFor h then
      requestAt h.blocks x.fetchPos (x.unfetched h)
    else none
  | none => none

/-- The lane tests for its next request (R37). -/
def placeLaneRead (s : State) (l : Fin 4) : State :=
  match laneRequest s l with
  | some q => placeRequest s (.lane l) q
  | none => s

/-! ### The end of a release -/

/-- A lane that holds no cue and enters IDLE. The hold timer stops as it leaves EMITTING (R46). -/
def Lane.toIdle (x : Lane) : Lane :=
  { x with
    state := .idle, held := none, release := none, verify := none, holdTimer := none, slotWaiting := false,
    slotIn := 0 }

/-- The payload's mismatch flag set (R93). -/
def markMismatch (s : State) (payload : Nat) : State :=
  match s.payload? payload with
  | some p => s.setPayload payload { p with mismatch := true }
  | none => s

/-- The LATE flag that the lane keeps with its release (R42). -/
def Lane.lateKept (x : Lane) : Bool := (x.release.map Release.late).getD false

/-- The completion of an occurrence when the END byte leaves: the comparison of R53, the lane's entry to IDLE and the
report SENT (R52). -/
def completeRelease (s : State) (l : Fin 4) : State :=
  let x := s.lane l
  match x.held with
  | some h =>
    let fault := checkFaultFlag h.check x.verify
    let s := if fault then markMismatch s h.payload else s
    let s := s.setLane l x.toIdle
    match s.cue? h.cue with
    | some c => endReleased s h.cue c .sent x.lateKept fault x.emitted
    | none => s
  | none => s

/-! ### Emission -/

/-- The pins in the period of a byte, with its marks (R44, R45). -/
def bytePins (b : Byte) (first last : Bool) : Pins :=
  { valid := true, data := b, start := first, last := last, abort := false }

/-- The pins in the period of an ABORT (R45). -/
def abortPins : Pins := { Pins.idle with abort := true }

/-- The head byte of the buffer leaves (R44): the fill falls by 1, the bytes emitted rise by 1, the next slot comes
pace periods later, and the END byte completes the occurrence. -/
def departByte (s : State) (l : Fin 4) : State :=
  let x := s.lane l
  match x.held, x.buffer with
  | some h, b :: rest =>
    let s1 := s.setLane l
      { x with
        buffer := rest, emitted := x.emitted + 1, slotWaiting := false, slotIn := x.config.pace,
        pins := bytePins b (decide (x.emitted = 0)) (decide (x.emitted + 1 = h.count)) }
    if x.emitted + 1 = h.count then completeRelease s1 l else placeLaneRead s1 l
  | _, _ => s

/-! ### Starting -/

/-- The current due of the lane's staged cue, when its three start conditions hold (R41). -/
def startDue (s : State) (l : Fin 4) : Option Nat :=
  let x := s.lane l
  match x.held with
  | some h =>
    match s.cue? h.cue with
    | some c =>
      match c.due with
      | some due =>
        if x.state.holdsStaged && decide (due ≤ s.time.device) && decide (startLevel x.config h ≤ x.buffer.length)
            && !x.hold then some due
        else none
      | none => none
    | none => none
  | none => none

/-- The release starts (R42): the cue goes to RELEASING with its start report, CUE_START is raised at START_EACH, the
lane enters EMITTING, and the first byte leaves. -/
def startRelease (s : State) (l : Fin 4) (due : Nat) : State :=
  let x := s.lane l
  match x.held with
  | some h =>
    match s.cue? h.cue with
    | some c =>
      let now := s.time.device
      let s1 := s.setCue h.cue { c with state := .releasing, started := some { time := now, lateness := now - due } }
      let s2 := if c.report = .startEach then s1.raise (.cueStart h.cue now (now - due)) else s1
      let s3 := s2.setLane l
        { x with
          state := .emitting,
          release := some { start := now, lateness := now - due, late := lateFlag (now - due) c.tolerance } }
      departByte s3 l
    | none => s
  | none => s

/-- The lane tests the start conditions (R41). -/
def tryStart (s : State) (l : Fin 4) : State :=
  match startDue s l with
  | some due => startRelease s l due
  | none => s

/-! ### Unstaging, cutting and flushing -/

/-- A lane that empties its buffer, discards the accumulator and enters FLUSHING (R35, R49). -/
def Lane.toFlushing (x : Lane) (held : Option HeldCue) : Lane :=
  { x with
    state := .flushing, held := held, buffer := [], verify := none, holdTimer := none, slotWaiting := false,
    slotIn := 0 }

/-- The scheduler's order to unstage: it reaches a lane that is STAGING or PRIMED (R35). -/
def unstage (s : State) (l : Fin 4) : State :=
  let x := s.lane l
  if x.state.holdsStaged then giveUpRequest (s.setLane l (x.toFlushing none)) (.lane l) else s

/-- ABORT on the pins: at once in a period that carries no byte, else in the next one (R49). -/
def Lane.showAbort (x : Lane) : Lane :=
  if x.pins.valid then { x with abortDue := true } else { x with pins := abortPins }

/-- A cut, which reaches a lane that is EMITTING (R48, R49). A cut by soft reset drops the cue, and the release with
it, so that LANE_STATUS shows neither (R31, R54). -/
def cutLane (s : State) (l : Fin 4) (cause : CutCause) : State :=
  let x := s.lane l
  if x.state = .emitting then
    let kept := if cause = .reset then none else x.held
    let release := if cause = .reset then none else x.release
    giveUpRequest
      (s.setLane l { (x.showAbort.toFlushing kept) with release := release, cutCause := some cause }) (.lane l)
  else s

/-- The result a cut cause reports; RESET reports none (R48). -/
def CutCause.result : CutCause → Option OccResult
  | .cancel => some .cutCancel
  | .stop => some .cutStop
  | .hold => some .cutHold
  | .underrun => some .cutUnderrun
  | .reset => none

/-- The report of a completed cut (R50). -/
def reportCut (s : State) (x : Lane) : State :=
  match x.held with
  | some h =>
    match s.cue? h.cue, x.cutCause.bind CutCause.result with
    | some c, some r => endReleased s h.cue c r x.lateKept false x.emitted
    | _, _ => s
  | none => s

/-- Whether the lane's flush is over: it is FLUSHING with no request outstanding (R40). -/
def flushOver (s : State) (l : Fin 4) : Bool :=
  decide ((s.lane l).state = .flushing) && !outstanding s (.lane l)

/-- The end of a flush: the lane enters IDLE, and a cut release is reported (R40, R50). -/
def endFlush (s : State) (l : Fin 4) : State :=
  if flushOver s l then reportCut (s.setLane l (s.lane l).toIdle) (s.lane l) else s

/-! ### Choosing a cue -/

/-- Whether a due lies within a lead window of the present device time (R34). -/
def withinWindow (s : State) (window due : Nat) : Bool := decide (due ≤ s.time.device + window)

/-- The first candidate of an IDLE lane: the head of its pending queue, else its first ARMED cue in due order that
lies within the lead window (R34). -/
def candidate (s : State) (l : Fin 4) : Option (Nat × Cue) :=
  match pendingQueue s l with
  | e :: _ => some e
  | [] =>
    (dueList s).find? (fun e =>
      decide (e.2.lane = l) && withinWindow s (s.lane l).config.leadWindow (e.2.due.getD 0))

/-- The range a cue releases: the whole payload where it is absent (R2). -/
def Cue.span (c : Cue) (p : Payload) : Range := c.range.getD { offset := 0, count := p.length }

/-- What the lane takes from the cue and the directory at a pick (R34). -/
def heldCueOf (id : Nat) (c : Cue) (p : Payload) : HeldCue :=
  { cue := id, payload := c.payload, blocks := p.blocks, offset := (c.span p).offset, count := (c.span p).count,
    check := if c.options.verify then p.check else none }

/-- The lane set up for a picked cue (R34). -/
def Lane.stagedFor (x : Lane) (h : HeldCue) (verify : Bool) : Lane :=
  { x with
    state := .staging, held := some h, buffer := [], fetchPos := h.offset, fetched := 0, emitted := 0,
    verify := if verify then some crc32Start else none, release := none, cutCause := none, holdTimer := none,
    slotWaiting := false, slotIn := 0 }

/-- The pick of a cue: it goes to STAGED with its due kept, and the lane's first request follows (R34). A cue in a
counted state names a payload of the directory (R25). -/
def pickCue (s : State) (l : Fin 4) (id : Nat) (c : Cue) : State :=
  match s.payload? c.payload with
  | some p =>
    let s := s.setCue id { c with state := .staged }
    placeLaneRead (s.setLane l ((s.lane l).stagedFor (heldCueOf id c p) c.options.verify)) l
  | none => s

/-- An IDLE lane picks its first candidate, if it has one (R34). -/
def pickFor (s : State) (l : Fin 4) : State :=
  if (s.lane l).state = .idle then
    match candidate s l with
    | some (id, c) => pickCue s l id c
    | none => s
  else s

/-- Whether cue `e` has entered its state with its due since `s0` (R33). -/
def enteredSince (s0 : State) (e : Nat × Cue) : Bool :=
  match s0.cue? e.1 with
  | some c => !(decide (c.state = e.2.state) && decide (c.due = e.2.due))
  | none => true

/-- Whether an ARMED cue has come within the lead window since `s0` (R33). -/
def cameWithin (s0 s : State) (window : Nat) (e : Nat × Cue) : Bool :=
  withinWindow s window (e.2.due.getD 0) && !withinWindow s0 window (e.2.due.getD 0)

/-- Whether the event that led from `s0` to `s` makes a staging lane evaluate its candidates (R33). -/
def evaluates (s0 s : State) (l : Fin 4) : Bool :=
  s.cues.any (fun e =>
    decide (e.2.lane = l)
      && ((decide (e.2.state = .pending) && enteredSince s0 e)
        || (decide (e.2.state = .armed)
          && (enteredSince s0 e || cameWithin s0 s (s.lane l).config.leadWindow e))))

/-- Whether an evaluation finds a cue that displaces a staged cue of due `due` (R36): one that has entered PENDING, or
an ARMED one within the window with a strictly earlier due. DESIGN CHOICE (notes/assumptions/36.md): "has entered
PENDING" is read as entered in the event that evaluates. A cue that is PENDING from an earlier event, beside a staged
cue whose due a backward STEP_TIME has made later again, displaces nothing. -/
def displacedBy (s0 s : State) (l : Fin 4) (due : Nat) : Bool :=
  s.cues.any (fun e =>
    decide (e.2.lane = l)
      && ((decide (e.2.state = .pending) && enteredSince s0 e)
        || (decide (e.2.state = .armed) && decide (e.2.due.getD 0 < due)
          && withinWindow s (s.lane l).config.leadWindow (e.2.due.getD 0))))

/-- The staged cue returns to the scheduler with its current due and the lane flushes (R10, R36). -/
def giveBack (s : State) (l : Fin 4) (id : Nat) (c : Cue) : State :=
  let due := c.due.getD 0
  unstage (s.setCue id (if s.time.device < due then c.toArmed due else c.toPending due)) l

/-- A STAGING or PRIMED lane evaluates: a staged cue whose due is later than device time gives way to a cue that
displaces it (R36). DESIGN CHOICE (notes/assumptions/34.md): the due is compared with the present device time, so that
a staged cue whose due was once reached gives way after a backward STEP_TIME has made its due later again. -/
def restage (s0 s : State) (l : Fin 4) : State :=
  if (s.lane l).state.holdsStaged && evaluates s0 s l then
    match (s.lane l).held with
    | some h =>
      match s.cue? h.cue with
      | some c =>
        if decide (s.time.device < c.due.getD 0) && displacedBy s0 s l (c.due.getD 0) then giveBack s l h.cue c else s
      | none => s
    | none => s
  else s

/-- What an event that led from `s0` to `s` ends with on one lane: the end of its flush, a restage, and a pick. -/
def settleLane (s0 s : State) (l : Fin 4) : State :=
  pickFor (endFlush (restage s0 (endFlush s l) l) l) l

/-- The same on the four lanes. -/
def settleLanes (s0 s : State) : State := fours.foldl (settleLane s0) s

/-! ### Deliveries, slots and holds -/

/-- The lane after bytes have joined its buffer (R39 steps 1 to 6). -/
def Lane.join (x : Lane) (h : HeldCue) (bytes : List Byte) : Lane :=
  let filled := x.buffer ++ bytes
  { x with
    buffer := filled, fetchPos := x.fetchPos + bytes.length, fetched := x.fetched + bytes.length,
    verify := x.verify.map (fun r => crc32Update r bytes),
    state := if x.state = .staging ∧ startLevel x.config h ≤ filled.length then .primed else x.state }

/-- A read delivered to a lane: the bytes join, the start and the next request are tested (R39); a FLUSHING lane
discards them (R40). -/
def deliverLane (s : State) (l : Fin 4) (bytes : List Byte) : State :=
  let x := s.lane l
  match x.held with
  | some h => if x.state.fetches then placeLaneRead (tryStart (s.setLane l (x.join h bytes)) l) l else s
  | none => s

/-- The byte of a slot leaves, or the release underruns on an empty buffer (R44, R47). -/
def resolveSlot (s : State) (l : Fin 4) : State :=
  if (s.lane l).buffer.isEmpty then cutLane s l .underrun else departByte s l

/-- A byte slot of an EMITTING lane: the byte waits while LnHOLD is asserted (R44, R46, R47). -/
def takeSlot (s : State) (l : Fin 4) : State :=
  let x := s.lane l
  if x.state = .emitting then
    if x.hold then s.setLane l { x with slotWaiting := true, slotIn := 0 } else resolveSlot s l
  else s

/-- LnHOLD is sampled asserted: in EMITTING the hold timer starts at the first such period (R46). -/
def holdOn (s : State) (l : Fin 4) : State :=
  let x := s.lane l
  if x.hold then s
  else s.setLane l { x with hold := true, holdTimer := if x.state = .emitting then some s.time.elapsed else none }

/-- LnHOLD is sampled deasserted: the timer stops, a waiting slot is resolved, a staged cue tests its start
(R41, R46). -/
def holdOff (s : State) (l : Fin 4) : State :=
  let x := s.lane l
  let s := s.setLane l { x with hold := false, holdTimer := none }
  if x.state = .emitting ∧ x.slotWaiting = true then resolveSlot s l else tryStart s l

/-- Whether the hold has outlasted the lane's hold limit (R46). -/
def holdExpired (s : State) (l : Fin 4) : Bool :=
  let x := s.lane l
  match x.holdTimer with
  | some t =>
    decide (x.state = .emitting) && x.hold && decide (x.config.holdLimit ≠ 0)
      && decide (x.config.holdLimit < elapsedSince s t)
  | none => false

/-! ### A forward change of device time -/

/-- The tolerance expiry of a STAGED or PENDING SKIP cue (R14): a STAGED one is unstaged. -/
def expireCue (s : State) (id : Nat) : State :=
  match s.cue? id with
  | some c =>
    if c.late = .skip ∧ c.due.getD 0 + c.tolerance < s.time.device then
      match c.state with
      | .staged => endSkipped (unstage s c.lane) id c .skippedLate
      | .pending => endSkipped s id c .skippedLate
      | _ => s
    else s
  | none => s

/-- What a forward change of device time does to one cue (R58). -/
def timeCue (s : State) (id : Nat) : State :=
  match s.cue? id with
  | some c => if c.state = .armed then reachDue s id else expireCue s id
  | none => s

/-- The tests of R58 on the cues, then the starts of the cues that stay staged. -/
def forwardChange (s : State) : State :=
  fours.foldl tryStart ((s.cues.map Prod.fst).foldl timeCue s)

end Sys2Proof.Machine
end

