-- ==== Sys2Proof/Machine/Store.lean ====
section
/-!
DEFINITION. The fill buffer of the payload store (R79 to R83, R88, R94): its write request, the entry of a chunk, the
acknowledgement of a write, and the removal of a payload's chunks.
-/

namespace Sys2Proof.Machine

/-! ### The write request -/

/-- The fill buffer's next write: of the head chunk's first unwritten bytes, within one block (R82). -/
def fillRequest (s : State) : Option MemRequest :=
  match s.store.chunks with
  | c :: _ =>
    match s.payload? c.payload with
    | some p =>
      if decide (c.written < c.data.length) && !outstanding s .fill then
        requestAt p.blocks (c.offset + c.written) (c.data.length - c.written)
      else none
    | none => none
  | [] => none

/-- The fill buffer tests for a new request (R82). -/
def placeFill (s : State) : State :=
  match fillRequest s with
  | some q => placeRequest s .fill q
  | none => s

/-- The fill buffer with its chunks replaced. -/
def State.setChunks (s : State) (cs : List Chunk) : State := { s with store := { s.store with chunks := cs } }

/-! ### Chunks -/

/-- Whether a slot of the fill buffer is free (R81). -/
def slotFree (s : State) : Bool := decide (s.store.chunks.length < Config.fillSlots)

/-- Whether the fill buffer holds a chunk of a payload (R85). -/
def holdsChunk (s : State) (payload : Nat) : Bool := s.store.chunks.any (fun c => decide (c.payload = payload))

/-- A PUT_DATA is taken: its chunk joins the tail, the fill offset rises and the running check is extended (R81).
DESIGN CHOICE (notes/assumptions/22.md): a PUT_DATA that has waited for a payload freed in the same event (R94) brings
no chunk. -/
def takeChunk (s : State) (payload offset : Nat) (data : List Byte) : State :=
  match s.payload? payload with
  | some p =>
    let s := s.setPayload payload
      { p with fillOffset := p.fillOffset + data.length, running := crc32Extend p.running data }
    placeFill
      (s.setChunks (s.store.chunks ++ [{ payload := payload, offset := offset, data := data, written := 0 }]))
  | none => s

/-- Whether the executing request is a DELETE_PAYLOAD of this payload (R88). -/
def deleting (s : State) (payload : Nat) : Bool :=
  match s.executing with
  | some { wait := .delete id, .. } => decide (id = payload)
  | _ => false

/-- The head chunk after `n` more bytes of it have been written, or the buffer without it: it leaves when it is wholly
written (R83), or when its payload is being deleted or freed (R88, R94). -/
def ackHead (s : State) (n : Nat) : State :=
  match s.store.chunks with
  | c :: t =>
    if c.data.length ≤ c.written + n ∨ deleting s c.payload = true ∨ c.payload ∈ s.store.leaving then s.setChunks t
    else s.setChunks ({ c with written := c.written + n } :: t)
  | [] => s

/-- The chunks of a payload removed from the fill buffer, the head chunk kept where `keepHead` says so. -/
def withoutChunks (cs : List Chunk) (payload : Nat) (keepHead : Bool) : List Chunk :=
  match cs with
  | [] => []
  | c :: t =>
    let rest := t.filter (fun k => decide (k.payload ≠ payload))
    if c.payload = payload ∧ keepHead = false then rest else c :: rest

/-- Whether the head chunk belongs to the payload. -/
def headIs (s : State) (payload : Nat) : Bool :=
  match s.store.chunks with
  | c :: _ => decide (c.payload = payload)
  | [] => false

/-- DELETE_PAYLOAD of a FILLING payload: its chunks leave, save a head chunk whose write is in column phase; a write
request in an earlier stage is given up (R88). -/
def deleteChunks (s : State) (payload : Nat) : State :=
  if headIs s payload then
    if inColumn s .fill then s.setChunks (withoutChunks s.store.chunks payload true)
    else placeFill ((giveUpRequest s .fill).setChunks (withoutChunks s.store.chunks payload false))
  else s.setChunks (withoutChunks s.store.chunks payload false)

/-! ### Payloads that a soft reset frees later -/

/-- The list of the payloads that a soft reset leaves to be freed. -/
def State.setLeaving (s : State) (ids : List Nat) : State := { s with store := { s.store with leaving := ids } }

/-- One payload of the list that a soft reset left is freed, and its chunks go with it (R94). DESIGN CHOICE
(notes/assumptions/22.md): one that a SEAL_PAYLOAD has sealed since is no longer FILLING, and stays. -/
def freeLeft (s : State) (payload : Nat) : State :=
  match s.payload? payload with
  | some p =>
    if p.state = .filling then (s.setChunks (withoutChunks s.store.chunks payload false)).freePayload payload else s
  | none => s

/-- The completion of the write that was in column phase at a soft reset: the FILLING payloads the reset left are
freed, by rising id (R94). -/
def freeLeaving (s : State) : State :=
  (s.store.leaving.foldl freeLeft s).setLeaving []

/-- The acknowledgement of a write of the fill buffer (R83, R88, R94). -/
def fillDone (s : State) (n : Nat) : State := placeFill (freeLeaving (ackHead s n))

/-- The FILLING payloads, by rising id. -/
def fillingIds (s : State) : List Nat :=
  (s.store.directory.filter (fun e => decide (e.2.state = .filling))).map Prod.fst

/-- The fill buffer and the FILLING payloads at a soft reset: every chunk leaves except a head chunk whose write is in
column phase, and the payloads are freed at once or in that write's completion event (R94 steps 2 and 3). -/
def resetFill (s : State) : State :=
  if inColumn s .fill then (s.setChunks (s.store.chunks.take 1)).setLeaving (fillingIds s)
  else ((fillingIds s).foldl State.freePayload ((giveUpRequest s .fill).setChunks [])).setLeaving []

/-- Every directory entry with its reference count 0 (R28). -/
def clearRefs (s : State) : State :=
  { s with
    store := { s.store with directory := s.store.directory.map (fun e => (e.1, { e.2 with refs := 0 })) } }

/-- The soft reset of the payload store: DOOMED payloads, then the fill buffer, then FILLING payloads (R94). -/
def resetStore (s : State) : State := resetFill (clearRefs s).freeDoomed

end Sys2Proof.Machine
end

