-- ==== Sys2Proof/Machine/Link.lean ====
section
/-!
DEFINITION. The link port: the receive framer (R143), the judging of a frame (R145), the sorting of a request (R146),
the reply memory and the reply queue (R150 to R152), SYNC (R152, R153), and the transmitter (R154, R155, R164).
-/

namespace Sys2Proof.Machine

/-! ### The receive framer -/

/-- A complete frame as received. -/
structure Received where
  frameType : Byte
  seq : Byte
  body : List Byte
  check : BitVec 16
  deriving DecidableEq, Repr

/-- The framer's next state after the two length bytes (R143). -/
def framerLength (frameType seq : Byte) (length : Nat) : Framer :=
  if Config.maxBody < length then .hunt
  else if length = 0 then .checkLow frameType seq []
  else .body frameType seq length []

/-- The framer takes a byte: its next state, and the frame that the byte completes (R143). -/
def Framer.take (f : Framer) (b : Byte) : Framer × Option Received :=
  match f with
  | .hunt => (if b = 0xC5 then .type else .hunt, none)
  | .type => (.seq b, none)
  | .seq t => (.lengthLow t b, none)
  | .lengthLow t q => (.lengthHigh t q b, none)
  | .lengthHigh t q low => (framerLength t q (low.toNat + 256 * b.toNat), none)
  | .body t q n bytes =>
    let got := bytes ++ [b]
    (if n ≤ got.length then .checkLow t q got else .body t q n got, none)
  | .checkLow t q bytes => (.checkHigh t q bytes b, none)
  | .checkHigh t q bytes low =>
    (.hunt, some { frameType := t, seq := q, body := bytes, check := BitVec.ofNat 16 (low.toNat + 256 * b.toNat) })

/-- The link with the framer in a state; the gap timer restarts outside HUNT and stops in HUNT (R143). -/
def setFramer (s : State) (f : Framer) : State :=
  { s with
    link := { s.link with framer := f, gapTimer := if f = .hunt then none else some s.time.elapsed } }

/-- Whether the gap timer has expired (R144). -/
def gapExpired (s : State) : Bool :=
  match s.link.gapTimer with
  | some t => decide (Config.gapTicks ≤ elapsedSince s t)
  | none => false

/-- What a complete frame is judged to be (R145). -/
inductive Judged where
  | request | sync | discarded
  deriving DecidableEq, Repr

/-- The tests of R145 in order: the check, the type, the body length. -/
def judge (r : Received) : Judged :=
  if r.check ≠ crc16 (coveredBytes r.frameType r.seq r.body) then .discarded
  else if r.frameType = 0x01 then (if r.body.isEmpty then .discarded else .request)
  else if r.frameType = 0x02 then (if r.body.isEmpty then .sync else .discarded)
  else .discarded

/-! ### Replies -/

/-- Whether a queued frame is an executed reply. -/
def QueuedReply.isExecuted : QueuedReply → Bool
  | .executed _ => true
  | .syncDone _ => false

/-- Whether the reply queue holds an executed reply (R149). -/
def replyWaits (s : State) : Bool := s.link.replyQueue.any QueuedReply.isExecuted

/-- The reply memory with a reply stored: the entry of the same seq leaves, else the oldest of 8 (R151). -/
def storeReply (m : List StoredReply) (r : StoredReply) : List StoredReply :=
  let others := m.filter (fun e => decide (e.seq ≠ r.seq))
  let kept :=
    if others.length = m.length ∧ Config.replyMemorySize ≤ m.length then m.drop (m.length + 1 - Config.replyMemorySize)
    else others
  kept ++ [r]

/-- A SYNC_DONE joins the tail of the reply queue, another one leaves it, and every held notice is brought to DUE
(R152, R153, R166). -/
def queueSyncDone (s : State) (seq : Byte) : State :=
  State.orderResend
    { s with link := { s.link with replyQueue := s.link.replyQueue.filter QueuedReply.isExecuted ++ [.syncDone seq] } }

/-- A pending SYNC whose execution has ended: its SYNC_DONE joins the reply queue (R152). -/
def syncDeferred (s : State) : State :=
  match s.link.pendingSync with
  | some q => queueSyncDone { s with link := { s.link with pendingSync := none } } q
  | none => s

/-- The reply is built, stored and placed in the reply queue (R150, R151). -/
def queueReply (s : State) (seq code : Byte) (status : Status) (results : List Byte) : State :=
  let f := replyFrame seq code status results
  { s with
    executing := none,
    link :=
      { s.link with
        replies := storeReply s.link.replies { seq := seq, code := code, frame := f },
        replyQueue := s.link.replyQueue ++ [.executed f] } }

/-- The end of an execution: its reply, then the SYNC_DONE that waited for it (R150, R152). -/
def endExecution (s : State) (seq code : Byte) (status : Status) (results : List Byte) : State :=
  syncDeferred (queueReply s seq code status results)

/-! ### Arrivals -/

/-- Whether a queued frame is an executed reply with this seq. -/
def QueuedReply.answers (q : QueuedReply) (seq : Byte) : Bool :=
  match q with
  | .executed f => decide (f.seq = seq)
  | .syncDone _ => false

/-- Whether a request with this seq is in progress (R146 test 1). -/
def inProgress (s : State) (seq : Byte) : Bool :=
  s.link.inbox.any (fun e => decide (e.seq = seq))
    || (match s.executing with
        | some e => decide (e.seq = seq)
        | none => false)
    || s.link.replyQueue.any (fun q => q.answers seq)

/-- The stored reply with this seq and request code (R146 test 2). -/
def storedFor (s : State) (seq code : Byte) : Option StoredReply :=
  s.link.replies.find? (fun e => decide (e.seq = seq) && decide (e.code = code))

/-- A frame joins the tail of the prompt list, which holds at most 4 (R146, R147). -/
def joinPrompt (s : State) (f : Frame) : State :=
  if s.link.prompt.length < Config.promptSize then { s with link := { s.link with prompt := s.link.prompt ++ [f] } }
  else s

/-- A stored reply is sent again, unless a copy of it waits (R146 test 2). DEDUCED (notes/assumptions/26.md): an equal
frame in the prompt list is taken as such a copy. -/
def resendStored (s : State) (f : Frame) : State := if f ∈ s.link.prompt then s else joinPrompt s f

/-- A well-formed REQUEST is sorted (R146, R147, R148). -/
def sortRequest (s : State) (seq : Byte) (body : List Byte) : State :=
  if inProgress s seq then s
  else
    match storedFor s seq (byteAt body 0) with
    | some e => resendStored s e.frame
    | none =>
      if Config.inboxSize ≤ s.link.inbox.length then joinPrompt s (replyFrame seq (byteAt body 0) .inboxFull [])
      else { s with link := { s.link with inbox := s.link.inbox ++ [{ seq := seq, body := body }] } }

/-- A well-formed SYNC is handled (R152). -/
def handleSync (s : State) (seq : Byte) : State :=
  let s := { s with link := { s.link with inbox := [], replies := [] } }
  match s.executing with
  | none => queueSyncDone s seq
  | some _ => { s with link := { s.link with pendingSync := some seq } }

/-- A complete frame is judged and, when well-formed, arrives (R145). -/
def arriveFrame (s : State) (r : Received) : State :=
  match judge r with
  | .request => sortRequest s r.seq r.body
  | .sync => handleSync s r.seq
  | .discarded => s

/-- A byte is received and handed to the framer; an ARMING line receives none (R140, R143). -/
def takeByte (s : State) (b : Byte) : State :=
  match s.link.line with
  | .arming => s
  | .on =>
    let taken := s.link.framer.take b
    let s := setFramer s taken.1
    match taken.2 with
    | some r => arriveFrame s r
    | none => s

/-! ### The transmitter -/

/-- The frame of a queued reply. -/
def QueuedReply.frame : QueuedReply → Frame
  | .executed f => f
  | .syncDone seq => syncDoneFrame seq

/-- The oldest held notice that is DUE (R164). -/
def nextDueNotice (q : NoticeQueue) : Option Notice := q.held.find? (fun n => decide (n.send = .due))

/-- The held notices with the first DUE one begun: SENDING, again clear (R164). -/
def beginFirstDue : List Notice → List Notice
  | [] => []
  | n :: t => if n.send = .due then { n with send := .sending, again := false } :: t else n :: beginFirstDue t

/-- The transmitter carries a frame. -/
def State.sendFrame (s : State) (f : Frame) : State :=
  { s with link := { s.link with tx := some { frame := f, clocks := 0 } } }

/-- A free transmitter begins the first frame it finds: the prompt list, the reply queue, the DUE notice (R154). -/
def txBegin (s : State) : State :=
  match s.link.tx with
  | some _ => s
  | none =>
    match s.link.prompt with
    | f :: t => State.sendFrame { s with link := { s.link with prompt := t } } f
    | [] =>
      match s.link.replyQueue with
      | q :: t => State.sendFrame { s with link := { s.link with replyQueue := t } } q.frame
      | [] =>
        match nextDueNotice s.notices with
        | some n =>
          State.sendFrame { s with notices := { s.notices with held := beginFirstDue s.notices.held } } (noticeFrame n)
        | none => s

/-- A held notice when the last character of its frame ends (R164). -/
def Notice.sent (n : Notice) (elapsed : Nat) : Notice :=
  match n.send with
  | .sending =>
    if n.again then { n with send := .due, again := false } else { n with send := .sent, lastSent := some elapsed }
  | _ => n

/-- The last character of the frame in transmission ends: the transmitter is free, and the queue is told of a notice's
sending (R154, R155, R164). -/
def txEnd (s : State) : State :=
  match s.link.tx with
  | some t =>
    let s := { s with link := { s.link with tx := none } }
    if t.frame.frameType = 0x12 then
      { s with
        notices := { s.notices with held := s.notices.held.map (fun n => n.sent s.time.elapsed) } }
    else s
  | none => s

end Sys2Proof.Machine
end

