-- ==== Sys2Proof/Machine/Time.lean ====
section
/-!
DEFINITION. The time base and the trigger unit: device time and its end (R56, R59), the tick and the slew adjustment
(R65, R66), and the sampling of a trigger line (R68, R70).
-/

namespace Sys2Proof.Machine

/-- The time base with device time replaced. -/
def State.setDevice (s : State) (t : Nat) : State := { s with time := { s.time with device := t } }

/-- The slew replaced or ended. -/
def State.setSlew (s : State) (w : Option Slew) : State := { s with time := { s.time with slew := w } }

/-- Device time has reached its maximum with the flag still false. -/
def atMaximum (s : State) : Bool := decide (s.time.device = Config.maxTime) && !s.time.atEnd

/-- The time end: the flag becomes true, a slew in progress ends, and TIME_END is raised (R59, R66). -/
def reachEnd (s : State) : State :=
  State.raise { s with time := { s.time with atEnd := true, slew := none } } .timeEnd

/-- The time end, when device time has just reached its maximum (R59). -/
def testEnd (s : State) : State := if atMaximum s then reachEnd s else s

/-- Device time after a rise of `n` ticks, at most the maximum (R56, R59, R65). -/
def risenTime (s : State) (n : Nat) : Nat := min (s.time.device + n) Config.maxTime

/-- A forward change of device time to `t`: the time end, then the tests of R58. -/
def advanceTo (s : State) (t : Nat) : State :=
  if s.time.device < t then forwardChange (testEnd (s.setDevice t)) else s.setDevice t

/-- The slew after an adjustment: its remaining offset moves toward 0, and the next adjustment moves on by the spacing;
at 0 the slew ends and SLEW_DONE is raised (R65, R66). -/
def countSlew (s : State) (w : Slew) : State :=
  let r := if 0 < w.remaining then w.remaining - 1 else w.remaining + 1
  if r = 0 then (s.setSlew none).raise .slewDone
  else s.setSlew (some { w with remaining := r, next := (w.next + w.spacing) % Config.elapsedModulus })

/-- A slew adjustment in the present tick: device time rises by 2, or stays (R65). -/
def adjustTime (s : State) (w : Slew) : State :=
  let s1 := countSlew s w
  if 0 < w.remaining then advanceTo s1 (risenTime s1 2) else s1

/-- The slew whose adjustment falls in the present elapsed time (R65). -/
def slewDue (s : State) : Option Slew :=
  match s.time.slew with
  | some w => if w.next = s.time.elapsed then some w else none
  | none => none

/-- Elapsed time rises by 1 (R55). -/
def countElapsed (s : State) : State :=
  { s with time := { s.time with elapsed := (s.time.elapsed + 1) % Config.elapsedModulus, phase := 0 } }

/-- The device time of a tick: an adjustment where one falls due, a rise of 1 otherwise, and no change during the time
end (R56). -/
def tickDevice (s : State) : State :=
  if s.time.atEnd then s
  else
    match slewDue s with
    | some w => adjustTime s w
    | none => advanceTo s (risenTime s 1)

/-- One tick (R55, R56). -/
def tickTime (s : State) : State := tickDevice (countElapsed s)

/-! ### Trigger lines -/

/-- Whether an edge mode records an edge (R68). -/
def EdgeMode.records : EdgeMode → StampEdge → Bool
  | .either, _ => true
  | .rising, .rising => true
  | .falling, .falling => true
  | _, _ => false

/-- The edge that two successive samples show; the first sample after a pin reset shows none (R68). -/
def edgeSeen (last : Option Bool) (level : Bool) : Option StampEdge :=
  match last, level with
  | some false, true => some .rising
  | some true, false => some .falling
  | _, _ => none

/-- A line after a stamp has joined its ring: at 8 stamps the oldest leaves and the gap flag is set (R70). -/
def TriggerLine.push (t : TriggerLine) (p : Stamp) : TriggerLine :=
  if t.ring.length < Config.ringSize then { t with ring := t.ring ++ [p] }
  else { t with ring := t.ring.drop (t.ring.length + 1 - Config.ringSize) ++ [p], gap := true }

/-- The state with one trigger line replaced. -/
def State.setLine (s : State) (i : Fin 4) (t : TriggerLine) : State :=
  { s with triggers := { s.triggers with lines := s.triggers.lines.set i t } }

/-- A stamp is recorded (R70): ring, gap flag, TRIGGER_EDGE, and the release of the cues that wait for it (R12). -/
def recordStamp (s : State) (i : Fin 4) (edge : StampEdge) : State :=
  let stamp : Stamp := { time := s.time.device, edge := edge }
  let t := s.triggers.lines.get i
  let n := s.triggers.recorded + 1
  let s := s.setLine i (t.push stamp)
  let s := if t.notify then s.raise (.triggerEdge i edge stamp.time) else s
  { s with cues := releaseByStamp s.cues i stamp n, triggers := { s.triggers with recorded := n } }

/-- A sample of a trigger line: the level is kept, and an edge that the mode records is stamped (R68). -/
def sampleLine (s : State) (i : Fin 4) (level : Bool) : State :=
  let t := s.triggers.lines.get i
  let s := s.setLine i { t with level := some level }
  match edgeSeen t.level level with
  | some edge => if t.mode.records edge then recordStamp s i edge else s
  | none => s

/-- A line at a soft reset: OFF, notify off, ring empty, gap clear; its last level stays (R72). -/
def TriggerLine.softReset (t : TriggerLine) : TriggerLine :=
  { t with mode := .off, notify := false, ring := [], gap := false }

end Sys2Proof.Machine
end

