-- ==== Sys2Proof/Machine/Memory.lean ====
section
/-!
DEFINITION. The memory port's operations as they end: row commands (R102, R108, R111), transactions (R110, R113, R114),
the closing precharge (R110), refreshes (R119, R122, R123), and the bring-up (R97 to R101).
-/

namespace Sys2Proof.Machine

/-! ### Transactions -/

/-- A withdrawn transaction frees the port as its command ends; another goes on with `next` (R108, R111). -/
def afterRowCommand (s : State) (t : Transaction) (next : Transaction) (time : Nat) : State :=
  if t.withdrawn then s.freePort else s.occupyPort (.transaction next) time

/-- The command of a row phase has been carried out (R102, R108, R111). -/
def rowCommandDone (s : State) : State :=
  match s.mc.port with
  | some (.transaction t) =>
    match t.phase with
    | .row .precharge =>
      afterRowCommand (s.setBank t.bank none) t { t with phase := .row .activate } Config.activateTime
    | .row .activate =>
      afterRowCommand (s.setBank t.bank (some t.row)) t { t with phase := .column } (columnTimeOf s t)
    | _ => s
  | _ => s

/-- The address of a transaction's first byte (R73). -/
def Transaction.address (t : Transaction) : Nat := sdramAddress t.bank t.row t.pos

/-- The bytes a read transaction delivers (R109, R113). -/
def bytesRead (s : State) (t : Transaction) : List Byte := readBytes s.mem s.freeReads t.address t.size

/-- The bytes a write transaction of the fill buffer writes: of the head chunk, from its first unwritten byte
(R82). -/
def bytesToWrite (s : State) (t : Transaction) : List Byte :=
  match s.store.chunks with
  | c :: _ => (c.data.drop c.written).take t.size
  | [] => []

/-- The count of reads of bytes that nothing has written moves on where the transaction met one. -/
def countFreeRead (s : State) (t : Transaction) : State :=
  if anyUnwritten s.mem t.address t.size then { s with freeReads := s.freeReads + 1 } else s

/-- A READ_BACK read's bytes are appended to the reply data (R90). -/
def appendReadBack (s : State) (bytes : List Byte) : State :=
  match s.executing with
  | some { seq, code, wait := .readBack blocks offset count got } =>
    { s with executing := some { seq, code, wait := .readBack blocks offset count (got ++ bytes) } }
  | _ => s

/-- The result of a transaction is handed to its requester (R110). -/
def handOver (s : State) (t : Transaction) : State :=
  match t.requester with
  | .lane l => deliverLane (countFreeRead s t) l (bytesRead s t)
  | .readBack => appendReadBack (countFreeRead s t) (bytesRead s t)
  | .fill => fillDone { s with mem := writeBytes s.mem t.address (bytesToWrite s t) } t.size

/-- The port after a column phase: free under OPEN_ROW, in the closing precharge under CLOSE_ROW (R103, R110). DESIGN
CHOICE (notes/assumptions/35.md): with no profile loaded, after a soft reset has abandoned the bring-up in WAIT while a
flushing lane's read was in column phase (R100, R101), the row is left open as under OPEN_ROW. -/
def portAfterColumn (s : State) (t : Transaction) : State :=
  match s.mc.profile with
  | some { policy := .closeRow, .. } => s.occupyPort (.transaction { t with phase := .closing }) Config.prechargeTime
  | _ => s.freePort

/-- The transaction in column phase completes (R110). -/
def transactionDone (s : State) : State :=
  match s.mc.port with
  | some (.transaction t) => if t.phase = .column then handOver (portAfterColumn s t) t else s
  | _ => s

/-- The closing precharge has been carried out: the bank is CLOSED and the port free (R110). -/
def closingDone (s : State) : State :=
  match s.mc.port with
  | some (.transaction t) => if t.phase = .closing then (s.setBank t.bank none).freePort else s
  | _ => s

/-! ### Refresh -/

/-- The port clock periods of the loaded profile's refresh interval, rounded up (R119). -/
def wholeInterval (s : State) : Nat :=
  match s.mc.profile with
  | some p => (p.interval + 9) / 10
  | none => 0

/-- The refresh scheduler with its timer replaced. -/
def setTimer (s : State) (t : RefreshTimer) : State := { s with refresh := { s.refresh with timer := t } }

/-- Whether the interval timer is RUNNING. -/
def timerRuns (s : State) : Bool :=
  match s.refresh.timer with
  | .running _ => true
  | _ => false

/-- The interval expires: the debt rises, the timer restarts or pauses at the limit, and a request is placed (R119). A
RUNNING timer finds the debt below the limit. -/
def intervalExpires (s : State) : State :=
  if timerRuns s ∧ s.refresh.debt < debtLimit s then
    let debt := s.refresh.debt + 1
    let timer := if debt < debtLimit s then RefreshTimer.running (wholeInterval s) else .paused
    placeRefresh { s with refresh := { s.refresh with debt := debt, timer := timer } }
  else s

/-- The precharge-all of a refresh has been carried out (R122). -/
def refreshPrecharged (s : State) : State :=
  match s.mc.port with
  | some (.refresh .precharge) => s.closeBanks.occupyPort (.refresh .command) Config.refreshTime
  | _ => s

/-- What the completion of the scheduler's own refresh does to it: the debt falls, a PAUSED timer restarts, and a new
request is placed while debt is left (R123). A refresh that a MEMORY_INIT has overtaken does nothing more (R125). -/
def repayRefresh (s : State) : State :=
  if s.refresh.request = .inFlight then
    let timer := if s.refresh.timer = .paused then RefreshTimer.running (wholeInterval s) else s.refresh.timer
    placeRefresh { s with refresh := { debt := s.refresh.debt - 1, timer := timer, request := .absent } }
  else s

/-- The refresh command has been carried out (R123). -/
def refreshDone (s : State) : State :=
  match s.mc.port with
  | some (.refresh .command) => repayRefresh s.freePort
  | _ => s

/-! ### Bring-up -/

/-- A MEMORY_INIT is accepted (R97): the profile is loaded, the pool emptied, the refresh scheduler stopped and the
bring-up begins with step WAIT. Nothing has been written since this bring-up began (R113). -/
def acceptInit (s : State) (p : Profile) : State :=
  { s with
    device := .initializing,
    store := { s.store with pool := [] },
    mc :=
      { s.mc with
        profile := some p, bringUp := some { step := .wait, waitEnd := elapsedIn s Config.waitTicks, refreshes := 0 } },
    refresh := { debt := 0, timer := .stopped, request := .absent },
    mem := [] }

/-- The bring-up with its step replaced. -/
def setStep (s : State) (b : BringUp) (step : BringStep) : State :=
  { s with mc := { s.mc with bringUp := some { b with step := step } } }

/-- Whether the stabilisation wait is over (R98). -/
def waitOver (s : State) : Bool :=
  match s.mc.bringUp with
  | some b => decide (b.step = .wait) && elapsedReached s b.waitEnd
  | none => false

/-- Step WAIT ends when its time has come (R98). DESIGN CHOICE (notes/assumptions/30.md): from then on the bring-up
progress shows step PRECHARGE, also while an earlier operation still holds the port and its command has not begun. -/
def waitEnds (s : State) : State :=
  match s.mc.bringUp with
  | some b => if waitOver s then setStep s b .precharge else s
  | none => s

/-- The precharge-all of the bring-up has been carried out; an abandoned one ends there (R98, R101). -/
def bringUpPrecharged (s : State) : State :=
  match s.mc.port with
  | some (.bringUp .precharge abandoned) =>
    let s := s.closeBanks.freePort
    match s.mc.bringUp with
    | some b => if abandoned then s else setStep s b .refresh
    | none => s
  | _ => s

/-- An init refresh has been carried out: it is counted, and step MODE_SET follows the last of them (R98). -/
def bringUpRefreshed (s : State) : State :=
  match s.mc.port with
  | some (.bringUp .refresh abandoned) =>
    let s := s.freePort
    match s.mc.bringUp, s.mc.profile with
    | some b, some p =>
      if abandoned then s
      else
        setStep s { b with refreshes := b.refreshes + 1 }
          (if p.initRefreshes ≤ b.refreshes + 1 then .modeSet else .refresh)
    | _, _ => s
  | _ => s

/-- The numbers from `n` on, `k` of them, in rising order. -/
def countFrom : Nat → Nat → List Nat
  | _, 0 => []
  | n, k + 1 => n :: countFrom (n + 1) k

/-- The bring-up finishes (R99). -/
def finishBringUp (s : State) (p : Profile) : State :=
  State.raise
    { s with
      device := .ready,
      store := { directory := [], pool := countFrom 0 (blockCount p), chunks := [], leaving := [] },
      mc := { s.mc with bringUp := none },
      refresh := { debt := 0, timer := .running (wholeInterval s), request := .absent } }
    (.memoryReady (blockCount p))

/-- The mode set has been carried out (R99); an abandoned one ends there (R101). -/
def modeSetDone (s : State) : State :=
  match s.mc.port with
  | some (.bringUp .modeSet abandoned) =>
    let s := s.freePort
    match s.mc.bringUp, s.mc.profile with
    | some _, some p => if abandoned then s else finishBringUp s p
    | _, _ => s
  | _ => s

/-- The port with a bring-up command marked abandoned (R101). -/
def PortOp.abandon : PortOp → PortOp
  | .bringUp command _ => .bringUp command true
  | op => op

/-- The memory controller and the device state at a soft reset: a bring-up is abandoned (R101, R117, R126). -/
def resetMemory (s : State) : State :=
  match s.device with
  | .initializing =>
    { s with
      device := .unconfigured,
      mc := { s.mc with profile := none, bringUp := none, port := s.mc.port.map PortOp.abandon },
      refresh := { debt := 0, timer := .stopped, request := .absent } }
  | _ => s

end Sys2Proof.Machine
end

