-- ==== Sys2Proof/Machine/Requests.lean ====
section
/-!
DEFINITION. What each of the 28 requests does when the interpreter executes it, from its own tests on (R129 test 4):
the state it leaves and what it answers, with the results in the layouts of R176 to R178.
-/

namespace Sys2Proof.Machine

/-- What a request answers. `says` is a reply that leaves lanes, cues and the port alone; `did` a reply after which the
event goes on in them; `waits` keeps the request executing (R149); `sent` says that the reply is already queued. -/
inductive Answer where
  | says (status : Status) (results : List Byte)
  | did (status : Status) (results : List Byte)
  | waits (wait : Wait)
  | sent
  deriving DecidableEq, Repr

/-- A request refused: nothing changes (R129). -/
def refuse (s : State) (status : Status) (results : List Byte := []) : State × Answer := (s, .says status results)

/-! ### The part as a whole -/

/-- IDENTIFY's results (R137, R176). -/
def identityBytes : List Byte :=
  u16 Config.vendorCode ++ u16 Config.partCode ++ u8 Config.siliconRevision ++ u32 Config.lineRate.bitsPerSecond
    ++ u8 Config.cueSlots ++ u16 256 ++ u8 4 ++ u8 4 ++ u16 32768 ++ u16 Config.blockBytes ++ u8 Config.fillSlots
    ++ u8 Config.inboxSize ++ u8 Config.replyMemorySize ++ u8 Config.noticeQueueSize ++ u8 Config.ringSize

/-- IDENTIFY (R137). -/
def runIdentify (s : State) : State × Answer := (s, .says .ok identityBytes)

/-- How many cues stand in a state. -/
def cuesIn (s : State) (st : CueState) : Nat := s.cues.countP (fun e => decide (e.2.state = st))

/-- The eight cue counts of GET_STATE, EMPTY first (R138). -/
def cueCounts (s : State) : List Byte :=
  u8 (Config.cueSlots - s.cues.length) ++ u8 (cuesIn s .held) ++ u8 (cuesIn s .armed) ++ u8 (cuesIn s .triggerWait)
    ++ u8 (cuesIn s .staged) ++ u8 (cuesIn s .pending) ++ u8 (cuesIn s .releasing) ++ u8 (cuesIn s .ended)

/-- GET_STATE's results (R138, R176). DESIGN CHOICE (notes/assumptions/31.md): R135 says that a GET_STATE taken while
a lane flushes reports the lane as FLUSHING, but R138 and R176 give the reply no field for a lane; they are followed
here, and LANE_STATUS alone reports a lane's state. -/
def stateBytes (s : State) : List Byte :=
  [deviceStateCode s.device, flagByte s.time.valid] ++ cueCounts s ++ u16 s.store.pool.length
    ++ u8 s.notices.held.length ++ u8 s.link.inbox.length

/-- GET_STATE (R138). -/
def runGetState (s : State) : State × Answer := (s, .says .ok (stateBytes s))

/-- The device state that a soft reset leaves (R133). -/
def deviceAfterReset : DeviceState → DeviceState
  | .initializing => .unconfigured
  | d => d

/-- Step 1 of a soft reset: the inbox, the reply memory and the notice queue (R134, R157, R159). -/
def resetLink (s : State) : State :=
  { s with link := { s.link with inbox := [], replies := [] }, notices := .restarted .soft, raised := [] }

/-- What a soft reset does to one lane (R54). -/
def resetLane (s : State) (l : Fin 4) : State :=
  match (s.lane l).state with
  | .emitting => cutLane s l .reset
  | .staging => unstage s l
  | .primed => unstage s l
  | .flushing => s.setLane l { s.lane l with held := none, release := none }
  | _ => s

/-- Steps 2 and 3 of a soft reset: the lanes and the cue table (R28, R54). -/
def resetCues (s : State) : State := { fours.foldl resetLane s with cues := [] }

/-- Steps 6 and 7 of a soft reset: the slew and the trigger lines (R72). -/
def resetTimeAndTriggers (s : State) : State :=
  { s with
    time := { s.time with slew := none },
    triggers := { s.triggers with lines := s.triggers.lines.map TriggerLine.softReset } }

/-- The soft reset, in the order of R134. -/
def softReset (s : State) : State :=
  resetTimeAndTriggers (resetMemory (resetStore (resetCues (resetLink s))))

/-- RESET: its reply is built, stored and queued, and the soft reset follows (R133, R134). -/
def runReset (s : State) (seq : Byte) : State × Answer :=
  (softReset (queueReply s seq 0x03 .ok [deviceStateCode (deviceAfterReset s.device)]), .sent)

/-- The number of the oldest held notice, or the next number (R167). -/
def oldestNumber (q : NoticeQueue) : BitVec 16 :=
  match q.held with
  | n :: _ => n.number
  | [] => q.next

/-- The results of a NOTICE_ACK refused with BAD_VALUE (R167, R176). -/
def ackRefusal (q : NoticeQueue) : List Byte :=
  u8 q.held.length
    ++ (match q.held.head?, q.held.getLast? with
        | some a, some b => 1 :: u16 a.number.toNat ++ u16 b.number.toNat
        | _, _ => [0])

/-- The notices that an acknowledgement of `n` removes: `none` for a number that was never given (R167). -/
def ackCount (q : NoticeQueue) (n : BitVec 16) : Option Nat :=
  let o := oldestNumber q
  if (n - o).toNat < q.held.length then some ((n - o).toNat + 1)
  else if 1 ≤ (o - n).toNat ∧ (o - n).toNat ≤ 32768 then some 0
  else none

/-- The queue without its `k` oldest notices; a resend is ordered at once when the new oldest one has waited 100 ms
(R165, R168). -/
def removeNotices (s : State) (k : Nat) : State :=
  if k = 0 then s
  else
    let s := { s with notices := { s.notices with held := s.notices.held.drop k } }
    if resendDue s then s.orderResend else s

/-- NOTICE_ACK (R167, R168). -/
def runNoticeAck (s : State) (n : BitVec 16) : State × Answer :=
  match ackCount s.notices n with
  | some k => (removeNotices s k, .says .ok (u8 k ++ u8 (s.notices.held.length - k)))
  | none => refuse s .badValue (ackRefusal s.notices)

/-! ### Memory -/

/-- MEMORY_INIT (R96, R97). -/
def runMemoryInit (s : State) (body : ProfileBody) : State × Answer :=
  if s.device = .ready ∧ s.store.directory ≠ [] then refuse s .inUse (u16 s.store.directory.length)
  else
    match profileOf body with
    | none => refuse s .badValue
    | some p => (acceptInit s p, .says .accepted [])

/-- One entry of the bank table (R172). -/
def bankBytes : Option Nat → List Byte
  | none => 0 :: u16 0
  | some row => 1 :: u16 row

/-- The profile, the bring-up step and the debt limit of MEMORY_STATUS, each when it stands (R115, R176). -/
def profilePart (s : State) : List Byte := (s.mc.profile.map profileBytes).getD []
def bringUpPart (s : State) : List Byte :=
  match s.mc.bringUp with
  | some b => bringStepCode b.step :: u8 b.refreshes
  | none => []
def limitPart (s : State) : List Byte := (s.mc.profile.map (fun p => u8 p.debtLimit)).getD []

/-- MEMORY_STATUS's results (R115, R176). -/
def memoryStatusBytes (s : State) : List Byte :=
  [deviceStateCode s.device, flagsByte s.mc.profile.isSome s.mc.bringUp.isSome false false] ++ profilePart s
    ++ bringUpPart s ++ u16 s.store.pool.length ++ (s.mc.banks.toList.map bankBytes).flatten ++ u8 s.refresh.debt
    ++ limitPart s

/-- MEMORY_STATUS (R115). -/
def runMemoryStatus (s : State) : State × Answer := (s, .says .ok (memoryStatusBytes s))

/-! ### Payloads -/

/-- The state of an entry, FREE included (R172). -/
def payloadStateOf (s : State) (id : Nat) : Option PayloadState := (s.payload? id).map Payload.state

/-- The entry of a payload just opened (R78). -/
def newPayload (length : Nat) (blocks : List Nat) : Payload :=
  { state := .filling, length := length, blocks := blocks, fillOffset := 0, running := 0, check := none, refs := 0,
    mismatch := false }

/-- OPEN_PAYLOAD (R78). -/
def runOpenPayload (s : State) (payload : Byte) (length : BitVec 32) : State × Answer :=
  let id := payload.toNat
  let n := blocksFor length.toNat
  match s.payload? id with
  | some p => refuse s .inUse [payloadStateCode (some p.state)]
  | none =>
    if length.toNat = 0 ∨ Config.maxPayload < length.toNat then refuse s .badValue
    else if s.store.pool.length < n then refuse s .noSpace (u16 s.store.pool.length)
    else
      let blocks := s.store.pool.take n
      let s := { s with store := { s.store with pool := s.store.pool.drop n } }
      (s.setPayload id (newPayload length.toNat blocks),
        .says .ok (u16 n ++ u16 (blocks.headD 0) ++ u16 s.store.pool.length))

/-- PUT_DATA, after the format check: its chunk is taken when a slot is free (R80, R81). -/
def runPutData (s : State) (payload : Byte) (offset : BitVec 32) (data : List Byte) : State × Answer :=
  match s.payload? payload.toNat with
  | none => refuse s .wrongState [payloadStateCode none]
  | some p =>
    if p.state ≠ .filling then refuse s .wrongState [payloadStateCode (some p.state)]
    else if offset.toNat ≠ p.fillOffset then refuse s .outOfOrder (u32 p.fillOffset)
    else if p.length < offset.toNat + data.length then refuse s .tooLong (u32 (p.length - p.fillOffset))
    else (s, .waits (.putData payload.toNat offset.toNat data))

/-- SEAL_PAYLOAD: it waits until no chunk of the payload remains (R84, R85). -/
def runSealPayload (s : State) (payload : Byte) (expected : Option (BitVec 32)) : State × Answer :=
  match s.payload? payload.toNat with
  | none => refuse s .wrongState [payloadStateCode none]
  | some p =>
    if p.state ≠ .filling then refuse s .wrongState [payloadStateCode (some p.state)]
    else if p.fillOffset ≠ p.length then
      refuse s .wrongState (payloadStateCode (some .filling) :: u32 p.fillOffset)
    else (s, .waits (.seal payload.toNat expected))

/-- DELETE_PAYLOAD (R87, R88). -/
def runDeletePayload (s : State) (payload : Byte) : State × Answer :=
  let id := payload.toNat
  match s.payload? id with
  | none => refuse s .noSuch
  | some p =>
    match p.state with
    | .filling => (deleteChunks s id, .waits (.delete id))
    | .sealed =>
      if p.refs = 0 then (s.freePayload id, .did .ok [payloadStateCode none])
      else (s.setPayload id { p with state := .doomed }, .did .ok [payloadStateCode (some .doomed)])
    | .doomed => (s, .says .ok [payloadStateCode (some .doomed)])

/-- READ_BACK: it reads the bytes one request after another (R90). -/
def runReadBack (s : State) (payload : Byte) (offset : BitVec 32) (count : BitVec 16) : State × Answer :=
  if count.toNat = 0 ∨ 1024 < count.toNat then refuse s .badValue
  else
    match s.payload? payload.toNat with
    | none => refuse s .noSuch
    | some p =>
      if p.state = .filling then refuse s .wrongState
      else if p.length ≤ offset.toNat ∨ p.length < offset.toNat + count.toNat then refuse s .badValue
      else (s, .waits (.readBack p.blocks offset.toNat count.toNat []))

/-- The payload entry of PAYLOAD_INFO (R178). -/
def payloadBytes (id : Nat) (p : Payload) : List Byte :=
  u8 id ++ [payloadStateCode (some p.state), flagsByte p.check.isSome p.mismatch false false] ++ u32 p.length
    ++ u16 p.blocks.length ++ u16 (p.blocks.headD 0) ++ u32 p.fillOffset ++ u32 p.running.toNat ++ u8 p.refs
    ++ (match p.check with
        | some k => 4 :: u32 k.toNat
        | none => [0])

/-- PAYLOAD_INFO (R91). -/
def runPayloadInfo (s : State) (payload : Byte) : State × Answer :=
  match s.payload? payload.toNat with
  | none => refuse s .noSuch
  | some p => (s, .says .ok (payloadBytes payload.toNat p))

/-- The directory entries from an id on, by rising id. -/
def entriesFrom (s : State) (start : Nat) : List (Nat × Payload) :=
  s.store.directory.filter (fun e => decide (start ≤ e.1))

/-- LIST_PAYLOADS's results: up to 128 entries, then the lowest id not listed (R92, R176). -/
def listPayloadsBytes (s : State) (start : Nat) : List Byte :=
  let es := (entriesFrom s start).take 128
  u8 es.length
    ++ (es.map (fun e => u8 e.1 ++ [payloadStateCode (some e.2.state)] ++ u32 e.2.length)).flatten
    ++ optField u8 (((entriesFrom s start).drop 128).head?.map Prod.fst)

/-- LIST_PAYLOADS (R92). -/
def runListPayloads (s : State) (start : Byte) : State × Answer :=
  (s, .says .ok (listPayloadsBytes s start.toNat))

/-! ### Cues -/

/-- Whether a range lies within a payload (R4 test 5). -/
def Range.fits (r : Range) (length : Nat) : Bool :=
  decide (r.offset < length) && decide (1 ≤ r.count) && decide (r.offset + r.count ≤ length)

/-- Whether a range describes the whole payload (R2). -/
def Range.whole (r : Range) (length : Nat) : Bool := decide (r.offset = 0) && decide (r.count = length)

/-- The start kind, when a trigger line and its edge are named values (R4 test 4). -/
def startOf : StartSpec → Option CueStart
  | .time due => some (.time due.toNat)
  | .trigger line edge offset =>
    match fourOf line, cueEdgeOf edge with
    | some l, some e => some (.trigger l e offset.toNat)
    | _, _ => none

/-- Whether a trigger offset is at least 2 (R4 test 7). -/
def CueStart.offsetOk : CueStart → Bool
  | .trigger _ _ offset => decide (2 ≤ offset)
  | .time _ => true

/-- Whether the period fits the kind (R4 test 8). -/
def periodFits (start : CueStart) (repeatCount period : Nat) : Bool :=
  match start with
  | .time _ => if repeatCount = 1 then decide (period = 0) || decide (10 ≤ period) else decide (10 ≤ period)
  | .trigger _ _ _ => decide (period = 0)

/-- The record of a FILE_CUE body in HELD, when the values of R4 test 4 are in their ranges (R2, R3). -/
def cueOf (b : CueBody) : Option Cue :=
  match fourOf b.lane, startOf b.start, latePolicyOf b.latePolicy, reportOf b.report with
  | some lane, some start, some late, some report =>
    if b.priority.toNat ≤ 3 then
      some
        { lane := lane, payload := b.payload.toNat,
          range := b.range.map (fun r => { offset := r.1.toNat, count := r.2.toNat }), start := start,
          repeatCount := b.repeatCount.toNat, period := b.period.toNat, late := late, tolerance := b.tolerance.toNat,
          priority := b.priority.toNat, report := report, options := optionsOf b.options, state := .held, due := none,
          used := 0, skipped := 0, last := none, endReason := none, armMoment := none, cut := .none, started := none }
    else none
  | _, _, _, _ => none

/-- The tests of ARM_CUE from the time-valid flag on (R6, R7). -/
def armRefusal (s : State) (c : Cue) (newDue : Option Nat) : Option Status :=
  match c.start with
  | .time filed =>
    if !s.time.valid then some .timeNotSet
    else if newDue.getD filed ≤ s.time.device then some .pastDue
    else none
  | .trigger _ _ _ => if newDue.isSome then some .badValue else none

/-- The cue armed (R6, R7): a TIME cue with its due, a new due replacing the filed one; a TRIGGER cue waiting. -/
def armCueRecord (s : State) (c : Cue) (newDue : Option Nat) : Cue :=
  match c.start with
  | .time filed => { c.toArmed (newDue.getD filed) with start := .time (newDue.getD filed) }
  | .trigger _ _ _ => c.toTriggerWait s.triggers.recorded

/-- The results of FILE_CUE and ARM_CUE (R175). -/
def armedBytes (c : Cue) : List Byte := cueStateCode (some c.state) :: optField u48 c.due

/-- Tests 5 to 8 of R4 on a record. -/
def fileValuesOk (c : Cue) (length : Nat) : Bool :=
  (match c.range with
   | some r => r.fits length && (!c.options.verify || r.whole length)
   | none => true)
    && c.start.offsetOk && periodFits c.start c.repeatCount c.period

/-- The tests of R4 in order: a refusal, or the record to file. -/
def fileTests (s : State) (b : CueBody) : Except Status Cue :=
  match s.cue? b.cue.toNat with
  | some _ => .error .inUse
  | none =>
    match s.payload? b.payload.toNat with
    | none => .error .noSuch
    | some p =>
      if p.state ≠ .sealed then .error .wrongState
      else
        match cueOf b with
        | none => .error .badValue
        | some c =>
          if !fileValuesOk c p.length then .error .badValue
          else if c.options.armNow then
            match armRefusal s c none with
            | some st => .error st
            | none => .ok (armCueRecord s c none)
          else .ok c

/-- FILE_CUE (R4, R5). -/
def runFileCue (s : State) (b : CueBody) : State × Answer :=
  match fileTests s b with
  | .error st => refuse s st
  | .ok c => ((s.addRef c.payload).setCue b.cue.toNat c, .did .ok (armedBytes c))

/-- ARM_CUE (R6, R7). -/
def runArmCue (s : State) (cue : Byte) (newDue : Option (BitVec 48)) : State × Answer :=
  let due := newDue.map BitVec.toNat
  match s.cue? cue.toNat with
  | none => refuse s .noSuch
  | some c =>
    if c.state ≠ .held then refuse s .wrongState
    else
      match armRefusal s c due with
      | some st => refuse s st
      | none =>
        let c1 := armCueRecord s c due
        (s.setCue cue.toNat c1, .did .ok (armedBytes c1))

/-- CANCEL_CUE: a cue that is not RELEASING ends at once, and a release is cut and waited for (R20, R21). -/
def runCancelCue (s : State) (cue : Byte) : State × Answer :=
  let id := cue.toNat
  match s.cue? id with
  | none => refuse s .noSuch
  | some c =>
    match c.state with
    | .ended => refuse s .wrongState
    | .releasing => (cutLane (s.setCue id { c with cut := .cancel }) c.lane .cancel, .waits (.cancel id none))
    | .staged => (endCue (unstage s c.lane) id c .cancelled, .did .ok (u16 c.used ++ u16 c.skipped))
    | _ => (endCue s id c .cancelled, .did .ok (u16 c.used ++ u16 c.skipped))

/-- DISCARD_CUE (R22). -/
def runDiscardCue (s : State) (cue : Byte) : State × Answer :=
  match s.cue? cue.toNat with
  | none => refuse s .noSuch
  | some c =>
    match c.state with
    | .held => ((s.dropRef c.payload).dropCue cue.toNat, .did .ok [])
    | .ended => (s.dropCue cue.toNat, .did .ok [])
    | _ => refuse s .wrongState

/-- The six bytes of the start kind in a cue record (R177). -/
def startBytes : CueStart → List Byte
  | .time due => u48 due
  | .trigger line edge offset => u8 line.val ++ [cueEdgeCode edge] ++ u32 offset

/-- The start kind's code (R172). -/
def startKindCode : CueStart → Byte
  | .time _ => 0
  | .trigger _ _ _ => 1

/-- The last occurrence in 18 bytes (R177). -/
def occurrenceBytes (o : Occurrence) : List Byte :=
  [resultCode o.result, flagsByte o.late o.checkFault o.startTime.isSome false] ++ u48 o.lateness ++ u32 o.bytes
    ++ u48 (o.startTime.getD 0)

/-- The optional fields of a cue record, in order (R177). -/
def cueTail (c : Cue) : List Byte :=
  ((c.range.map (fun r => u32 r.offset ++ u32 r.count)).getD []) ++ ((c.due.map u48).getD [])
    ++ ((c.last.map occurrenceBytes).getD []) ++ ((c.endReason.map (fun r => [endReasonCode r])).getD [])

/-- The cue record of CUE_INFO (R177). -/
def cueBytes (id : Nat) (c : Cue) : List Byte :=
  u8 id ++ [cueStateCode (some c.state)] ++ u8 c.lane.val ++ u8 c.payload
    ++ [startKindCode c.start, optionsByte c.options,
        flagsByte c.range.isSome c.due.isSome c.last.isSome c.endReason.isSome, latePolicyCode c.late]
    ++ u16 c.tolerance ++ u8 c.priority ++ [reportCode c.report] ++ u16 c.repeatCount ++ u32 c.period ++ u16 c.used
    ++ u16 c.skipped ++ startBytes c.start ++ u16 (cueTail c).length ++ cueTail c

/-- CUE_INFO (R26). -/
def runCueInfo (s : State) (cue : Byte) : State × Answer :=
  match s.cue? cue.toNat with
  | none => refuse s .noSuch
  | some c => (s, .says .ok (cueBytes cue.toNat c))

/-- LIST_CUES's results (R27, R176). -/
def listCuesBytes (s : State) : List Byte :=
  u8 s.cues.length
    ++ (s.cues.map (fun e => u8 e.1 ++ [cueStateCode (some e.2.state)] ++ u8 e.2.lane.val)).flatten

/-- LIST_CUES (R27). -/
def runListCues (s : State) : State × Answer := (s, .says .ok (listCuesBytes s))

/-- Whether STOP_ALL moves a cue to HELD at once (R24). -/
def Cue.stopsAtOnce (c : Cue) : Bool :=
  decide (c.state = .armed) || decide (c.state = .triggerWait) || decide (c.state = .pending)
    || decide (c.state = .staged)

/-- A cue as STOP_ALL leaves it (R24). -/
def Cue.stopped (c : Cue) : Cue :=
  if c.stopsAtOnce then c.toHeld
  else if c.state = .releasing then { c with cut := .stop }
  else c

/-- STOP_ALL's order to a lane: unstage, or cut its release (R24). -/
def stopLane (s : State) (l : Fin 4) : State := cutLane (unstage s l) l .stop

/-- STOP_ALL: every cue in use goes to HELD or is cut, and the request waits for the lanes to come to rest (R24). -/
def runStopAll (s : State) : State × Answer :=
  (fours.foldl stopLane { s with cues := s.cues.map (fun e => (e.1, e.2.stopped)) },
    .waits (.stopAll (s.cues.countP (fun e => e.2.stopsAtOnce)) 0))

/-! ### Time -/

/-- GET_TIME's results (R67, R176). -/
def timeBytes (t : TimeBase) : List Byte :=
  u48 t.device ++ [flagByte t.valid, flagByte t.atEnd]
    ++ (match t.slew with
        | some w => 1 :: i32 w.remaining ++ u16 w.spacing
        | none => [0])

/-- GET_TIME (R67). -/
def runGetTime (s : State) : State × Answer := (s, .says .ok (timeBytes s.time))

/-- Whether a cue holds SET_TIME back (R60). -/
def Cue.holdsTime (c : Cue) : Bool :=
  decide (c.state = .armed) || decide (c.state = .staged) || decide (c.state = .pending)
    || decide (c.state = .releasing)

/-- Device time set: it becomes valid, a slew ends, and the time-end flag follows the value (R60). -/
def setTimeTo (s : State) (v : Nat) : State :=
  let s :=
    { s with
      time := { s.time with device := v, valid := true, atEnd := decide (v = Config.maxTime), slew := none } }
  if v = Config.maxTime then s.raise .timeEnd else s

/-- SET_TIME (R60). -/
def runSetTime (s : State) (value : BitVec 48) : State × Answer :=
  if s.cues.any (fun e => e.2.holdsTime) then refuse s .inUse
  else (setTimeTo s value.toNat, .says .ok (u48 value.toNat))

/-- STEP_TIME (R61, R62, R63). -/
def runStepTime (s : State) (offset : BitVec 32) : State × Answer :=
  let k := offset.toInt
  let t := (s.time.device : Int) + k
  if k = 0 ∨ 2147483647 < k.natAbs then refuse s .badValue
  else if !s.time.valid then refuse s .timeNotSet
  else if t < 0 ∨ (Config.maxTime : Int) < t then refuse s .badValue
  else
    let s := s.setSlew none
    if 0 < k then (advanceTo s t.toNat, .did .ok (u48 t.toNat))
    else ({ s with time := { s.time with device := t.toNat, atEnd := false } }, .did .ok (u48 t.toNat))

/-- The remainder of a replaced slew in SLEW_TIME's reply (R64, R176). -/
def remainderBytes : Option Slew → List Byte
  | some w => 1 :: i32 w.remaining
  | none => [0]

/-- SLEW_TIME (R64). -/
def runSlewTime (s : State) (offset : BitVec 32) (spacing : BitVec 16) : State × Answer :=
  let k := offset.toInt
  if k = 0 ∨ 1000000 < k.natAbs then refuse s .badValue
  else if spacing.toNat < 100 then refuse s .badValue
  else if !s.time.valid then refuse s .timeNotSet
  else if s.time.atEnd then refuse s .badValue
  else
    (s.setSlew (some { remaining := k, spacing := spacing.toNat, next := elapsedIn s spacing.toNat }),
      .says .ok (remainderBytes s.time.slew))

/-! ### Trigger lines -/

/-- SET_TRIGGER (R69). -/
def runSetTrigger (s : State) (line mode notify : Byte) : State × Answer :=
  match fourOf line, edgeModeOf mode, flagOf notify with
  | some l, some m, some n => (s.setLine l { s.triggers.lines.get l with mode := m, notify := n }, .says .ok [])
  | _, _, _ => refuse s .badValue

/-- READ_STAMPS's results (R71, R176). -/
def stampBytes (stamps : List Stamp) (gap : Bool) : List Byte :=
  u8 stamps.length ++ (stamps.map (fun p => u48 p.time ++ [stampEdgeCode p.edge])).flatten ++ [flagByte gap]

/-- READ_STAMPS (R71). -/
def runReadStamps (s : State) (line n : Byte) : State × Answer :=
  match fourOf line with
  | none => refuse s .badValue
  | some l =>
    if n.toNat < 1 ∨ 8 < n.toNat then refuse s .badValue
    else
      let t := s.triggers.lines.get l
      (s.setLine l { t with ring := t.ring.drop n.toNat, gap := false },
        .says .ok (stampBytes (t.ring.take n.toNat) t.gap))

/-! ### Lanes -/

/-- SET_LANE: the settings are replaced and an enabled lane evaluates its candidates (R30). -/
def runSetLane (s : State) (lane : Byte) (settings : LaneBody) : State × Answer :=
  match fourOf lane, laneConfigOf settings with
  | some l, some config =>
    if !(s.lane l).state.atRest then refuse s .laneBusy
    else if pendingQueue s l ≠ [] then refuse s .laneBusy
    else
      let s := s.setLane l { s.lane l with config := config, state := if config.enabled then .idle else .stopped }
      let s := pickFor s l
      (s, .did .ok [laneStateCode (s.lane l).state])
  | _, _ => refuse s .badValue

/-- The five settings of a lane (R176). -/
def configBytes (c : LaneConfig) : List Byte :=
  [flagByte c.enabled] ++ u8 c.pace ++ u16 c.leadWindow ++ u16 c.startThreshold ++ u16 c.holdLimit

/-- The held cue of LANE_STATUS with its role, due and fetch progress (R31, R176). -/
def heldBytes (s : State) (x : Lane) : List Byte :=
  match x.held with
  | some h =>
    u8 h.cue ++ [cueStateCode (some (if x.state.holdsStaged then .staged else .releasing))]
      ++ u48 (((s.cue? h.cue).bind Cue.due).getD 0) ++ u32 x.fetched
  | none => []

/-- The release of LANE_STATUS (R31, R176). -/
def releaseBytes (x : Lane) : List Byte :=
  match x.release with
  | some r => u48 r.start ++ u48 r.lateness ++ [flagByte r.late] ++ u32 x.emitted
  | none => []

/-- LANE_STATUS's results (R31, R176). -/
def laneStatusBytes (s : State) (l : Fin 4) : List Byte :=
  let x := s.lane l
  let q := pendingQueue s l
  [laneStateCode x.state] ++ configBytes x.config ++ [flagsByte x.held.isSome x.release.isSome false false]
    ++ heldBytes s x ++ releaseBytes x ++ u16 x.buffer.length ++ [flagByte x.hold] ++ u8 q.length
    ++ (q.map (fun e => u8 e.1)).flatten

/-- LANE_STATUS (R31). -/
def runLaneStatus (s : State) (lane : Byte) : State × Answer :=
  match fourOf lane with
  | some l => (s, .says .ok (laneStatusBytes s l))
  | none => refuse s .badValue

end Sys2Proof.Machine
end

