-- ==== Sys2Proof/Machine/Interpreter.lean ====
section
/-!
DEFINITION. The request interpreter (R129, R149, R150): the tests of a taken request, the ends of the requests that
occupy it, the take of the inbox head, and the frame that every event runs in: what it ends with in the lanes, the
store, the port, the notice queue and the link.
-/

namespace Sys2Proof.Machine

/-! ### Requests that wait -/

/-- Whether every lane is at rest (R24). -/
def lanesAtRest (s : State) : Bool := s.lanes.toList.all (fun x => x.state.atRest)

/-- A SEAL_PAYLOAD whose wait is over: SEALED with its check value, or freed with CHECK_MISMATCH (R85). An entry that
is no longer FILLING, because a soft reset before the request has left it to be freed (R94), is answered WRONG_STATE
(R84; notes/assumptions/14.md). -/
def finishSeal (s : State) (seq code : Byte) (payload : Nat) (expected : Option (BitVec 32)) : State :=
  match s.payload? payload with
  | some p =>
    if p.state ≠ .filling then endExecution s seq code .wrongState [payloadStateCode (some p.state)]
    else if expected = none ∨ expected = some p.running then
      endExecution (s.setPayload payload { p with state := .sealed, check := some p.running }) seq code .ok
        (u32 p.running.toNat)
    else endExecution (s.freePayload payload) seq code .checkMismatch (u32 p.running.toNat)
  | none => endExecution s seq code .wrongState [payloadStateCode none]

/-- The next read of a READ_BACK (R90). -/
def placeReadBack (s : State) (blocks : List Nat) (offset count : Nat) (got : List Byte) : State :=
  if outstanding s .readBack then s
  else
    match requestAt blocks (offset + got.length) (count - got.length) with
    | some q => placeRequest s .readBack q
    | none => s

/-- The executing request ends if what it waits for has come (R149). -/
def resume (s : State) : State :=
  match s.executing with
  | some { seq, code, wait } =>
    match wait with
    | .putData payload offset data =>
      if slotFree s then
        endExecution (takeChunk s payload offset data) seq code .ok (u16 (offset + data.length))
      else s
    | .seal payload expected => if holdsChunk s payload then s else finishSeal s seq code payload expected
    | .delete payload =>
      if holdsChunk s payload then s
      else endExecution (s.freePayload payload) seq code .ok [payloadStateCode none]
    | .readBack blocks offset count got =>
      if count ≤ got.length then endExecution s seq code .ok (u16 count ++ got)
      else placeReadBack s blocks offset count got
    | .cancel _ counts =>
      match counts with
      | some (used, skipped) => endExecution s seq code .ok (u16 used ++ u16 skipped)
      | none => s
    | .stopAll held stopped =>
      if lanesAtRest s then endExecution s seq code .ok (u8 held ++ u8 stopped) else s
  | none => s

/-! ### What an event ends with -/

/-- What an event that led from `s0` to `s` ends with in the lanes, the store, the interpreter and the port: flushes end
and lanes choose (R33 to R40, R50), DOOMED payloads without cues are freed (R89), the executing request ends if it can
(R149), and the arbiter tests for a grant (R105). -/
def coreTail (s0 s : State) : State := arbitrate (resume (settleLanes s0 s).freeDoomed)

/-! ### Execution -/

/-- The grid of R129: whether a request is accepted in a device state. -/
def accepted (code : Byte) (d : DeviceState) : Bool :=
  match d with
  | .ready => true
  | .unconfigured => decide (code.toNat < 0x20) || decide (0x40 ≤ code.toNat)
  | .initializing => (decide (code.toNat < 0x20) || decide (0x40 ≤ code.toNat)) && decide (code ≠ 0x10)

/-- A request handed to the block that owns it (R149). -/
def runRequest (s : State) (seq : Byte) (r : Req) : State × Answer :=
  match r with
  | .identify => runIdentify s
  | .getState => runGetState s
  | .reset => runReset s seq
  | .noticeAck n => runNoticeAck s n
  | .memoryInit p => runMemoryInit s p
  | .memoryStatus => runMemoryStatus s
  | .openPayload p n => runOpenPayload s p n
  | .putData p o d => runPutData s p o d
  | .sealPayload p e => runSealPayload s p e
  | .deletePayload p => runDeletePayload s p
  | .readBack p o n => runReadBack s p o n
  | .payloadInfo p => runPayloadInfo s p
  | .listPayloads p => runListPayloads s p
  | .fileCue b => runFileCue s b
  | .armCue c d => runArmCue s c d
  | .cancelCue c => runCancelCue s c
  | .discardCue c => runDiscardCue s c
  | .cueInfo c => runCueInfo s c
  | .listCues => runListCues s
  | .stopAll => runStopAll s
  | .getTime => runGetTime s
  | .setTime v => runSetTime s v
  | .stepTime o => runStepTime s o
  | .slewTime o sp => runSlewTime s o sp
  | .setTrigger l m n => runSetTrigger s l m n
  | .readStamps l n => runReadStamps s l n
  | .setLane l b => runSetLane s l b
  | .laneStatus l => runLaneStatus s l

/-- What follows a request's answer: its reply, or its wait, and the rest of the event (R149, R150). -/
def conclude (s0 : State) (seq code : Byte) (out : State × Answer) : State :=
  match out.2 with
  | .says status results => endExecution out.1 seq code status results
  | .did status results => coreTail s0 (endExecution out.1 seq code status results)
  | .waits w => coreTail s0 { out.1 with executing := some { seq := seq, code := code, wait := w } }
  | .sent => coreTail s0 out.1

/-- The tests of R129 on a taken request: its code, the grid, the format check; then the request itself. -/
def execute (s : State) (seq : Byte) (body : List Byte) : State :=
  let code := byteAt body 0
  match readBody body with
  | none => endExecution s seq code .badKind []
  | some r =>
    if accepted code s.device then
      match formatCheck body with
      | some status => endExecution s seq code status []
      | none => conclude s seq code (runRequest s seq r)
    else endExecution s seq code .notReady [deviceStateCode s.device]

/-- The interpreter takes the inbox head when it is free and no executed reply waits (R149). -/
def takeNext (s : State) : State :=
  match s.executing, s.link.inbox with
  | none, e :: t =>
    if replyWaits s then s else (execute { s with link := { s.link with inbox := t } } e.seq e.body).offerRaised
  | _, _ => s

/-- One turn of the link: the free transmitter begins a frame, and the interpreter takes its next request. -/
def linkTurn (s : State) : State := takeNext (txBegin s)

/-- What an event ends with on the link. A second turn sends the reply of a request that the first one executed, and
takes the next request as that reply begins; the transmitter is then busy, or nothing waits. -/
def linkSettle (s : State) : State := linkTurn (linkTurn s)

/-- An event in a part that is not in pin reset: a free transmitter first begins what is due, the event takes place, its
notices join the queue in the order of R163, and the link goes on. -/
def event (f : State → State) (s : State) : State :=
  if s.inReset then s else linkSettle (f (txBegin s)).offerRaised

/-- An event that touches lanes, cues or the memory, with what it ends with there. -/
def coreEvent (f : State → State) (s : State) : State := event (fun a => coreTail a (f a)) s

/-- An event whose condition must hold: otherwise nothing takes place. -/
def eventIf (holds : State → Bool) (f : State → State) (s : State) : State := if holds s then event f s else s

/-- The same for an event that touches lanes, cues or the memory. -/
def coreEventIf (holds : State → Bool) (f : State → State) (s : State) : State :=
  if holds s then coreEvent f s else s

/-- A request's frame arrives: a well-formed REQUEST with this seq and body (R145, R146). A body that no frame can
carry is none. The framer ends the frame in HUNT (R143). -/
def requestFrame (s : State) (seq : Byte) (body : List Byte) : State :=
  if body.isEmpty ∨ Config.maxBody < body.length then s else sortRequest s seq body

/-- Whether the receive line is ON (R140). -/
def lineOn (s : State) : Bool := decide (s.link.line = .on)

/-- An event that a frame of the host brings: on an ARMING line no start bit is accepted, so no frame comes and nothing
takes place (R140). -/
def frameEvent (f : State → State) (s : State) : State := eventIf lineOn f s

/-- A request of the host by name: its frame arrives with the body of R173, and it is executed as soon as the
interpreter is free (notes/assumptions/7.md). -/
def hostRequest (seq : Byte) (r : Req) (s : State) : State := frameEvent (fun a => requestFrame a seq (encodeBody r)) s

end Sys2Proof.Machine
end

