-- ==== Sys2Proof/Machine/LaneCommands.lean ====
section
/-!
DEFINITION. The requests of the lane units (R30, R31) and their events (R40 to R47).
-/

namespace Sys2Proof.Machine

/-- SET_LANE (R30). -/
def execSetLane (seq lane : Byte) (settings : LaneBody) (s : State) : Host.Outcome State Fault Refusal :=
  .next (hostRequest seq (.setLane lane settings) s)

/-- LANE_STATUS (R31). -/
def execLaneStatus (seq lane : Byte) (s : State) : Host.Outcome State Fault Refusal :=
  .next (hostRequest seq (.laneStatus lane) s)

/-- The start of a staged cue whose three conditions hold (R41, R42). -/
def execReleaseStart (lane : Fin 4) (s : State) : Host.Outcome State Fault Refusal :=
  .next (coreEventIf (fun a => (startDue a lane).isSome) (fun a => tryStart a lane) s)

/-- A byte slot of an EMITTING lane (R44, R46, R47). -/
def execByteSlot (lane : Fin 4) (s : State) : Host.Outcome State Fault Refusal :=
  .next (coreEventIf (fun a => decide ((a.lane lane).state = .emitting)) (fun a => takeSlot a lane) s)

/-- The level of LnHOLD kept through a pin reset: the line is sampled in every LnCLK period (R45). -/
def keepLevel (s : State) (lane : Fin 4) (level : Bool) : State :=
  s.setLane lane { s.lane lane with hold := level }

/-- LnHOLD is sampled asserted (R46). -/
def execHoldAsserted (lane : Fin 4) (s : State) : Host.Outcome State Fault Refusal :=
  .next (if s.inReset then keepLevel s lane true else coreEvent (fun a => holdOn a lane) s)

/-- LnHOLD is sampled deasserted (R41, R46). -/
def execHoldDeasserted (lane : Fin 4) (s : State) : Host.Outcome State Fault Refusal :=
  .next (if s.inReset then keepLevel s lane false else coreEvent (fun a => holdOff a lane) s)

/-- A hold outlasts the hold limit and the release is cut (R46). -/
def execHoldLimitExpiry (lane : Fin 4) (s : State) : Host.Outcome State Fault Refusal :=
  .next (coreEventIf (fun a => holdExpired a lane) (fun a => cutLane a lane .hold) s)

/-- The end of a lane's flush (R40, R50). -/
def execFlushEnd (lane : Fin 4) (s : State) : Host.Outcome State Fault Refusal :=
  .next (coreEventIf (fun a => flushOver a lane) (fun a => endFlush a lane) s)

end Sys2Proof.Machine
end

