-- ==== Sys2Proof/Machine/LinkEvents.lean ====
section
/-!
DEFINITION. The events of the host link: frames and bytes from the host (R140 to R148, R152), the transmitter (R154,
R155), and the resend of notices (R165).
-/

namespace Sys2Proof.Machine

/-- The framer as a complete frame leaves it (R143). -/
def frameEnds (s : State) : State := setFramer s .hunt

/-- A well-formed REQUEST frame arrives (R140, R146). -/
def execRequestArrival (seq : Byte) (body : List Byte) (s : State) : Host.Outcome State Fault Refusal :=
  .next (frameEvent (fun a => requestFrame (frameEnds a) seq body) s)

/-- A well-formed SYNC frame arrives (R140, R152). -/
def execSyncArrival (seq : Byte) (s : State) : Host.Outcome State Fault Refusal :=
  .next (frameEvent (fun a => handleSync (frameEnds a) seq) s)

/-- A pending SYNC whose execution has ended (R152). -/
def execSyncDoneDeferred (s : State) : Host.Outcome State Fault Refusal :=
  .next (eventIf (fun a => a.executing.isNone && a.link.pendingSync.isSome) syncDeferred s)

/-- A complete frame is judged by R145, and a bad one is discarded. A body longer than a frame holds ends its frame
before it is complete (R143). -/
def execBadFrame (frameType seq : Byte) (body : List Byte) (check : BitVec 16) (s : State) :
    Host.Outcome State Fault Refusal :=
  .next
    (frameEvent (fun a =>
      if Config.maxBody < body.length then frameEnds a
      else arriveFrame (frameEnds a) { frameType := frameType, seq := seq, body := body, check := check }) s)

/-- The gap timer expires and the partial frame is discarded (R144). -/
def execPartialFrameTimeout (s : State) : Host.Outcome State Fault Refusal := .next (eventIf gapExpired frameEnds s)

/-- A line fault: a partial frame is discarded (R144). An ARMING line accepts no character (R140). -/
def execLineFault (s : State) : Host.Outcome State Fault Refusal :=
  .next (frameEvent frameEnds s)

/-- The receive line becomes ON (R140). -/
def execReceiveLineOn (s : State) : Host.Outcome State Fault Refusal :=
  .next (event (fun a => { a with link := { a.link with line := .on } }) s)

/-- The free transmitter begins the next frame (R154). -/
def execFrameTransmitStart (s : State) : Host.Outcome State Fault Refusal :=
  .next (eventIf (fun a => a.link.tx.isNone) txBegin s)

/-- The last character of the frame in transmission ends (R154, R155). -/
def execFrameTransmitEnd (s : State) : Host.Outcome State Fault Refusal :=
  .next (eventIf (fun a => a.link.tx.isSome) txEnd s)

/-- The resend timer expires and a resend is ordered (R165). -/
def execNoticeResendExpiry (s : State) : Host.Outcome State Fault Refusal :=
  .next (eventIf resendDue State.orderResend s)

/-- A byte is received (R143). -/
def execByteReceived (byte : Byte) (s : State) : Host.Outcome State Fault Refusal :=
  .next (event (fun a => takeByte a byte) s)

end Sys2Proof.Machine
end

