-- ==== Sys2Proof/Machine/PortEvents.lean ====
section
/-!
DEFINITION. The events of the memory port: the grant (R105), the ends of the operations it carries out (R98, R108 to
R112, R122, R123), the refresh interval (R119), and the ends of the requests that wait on the port (R81, R85, R88, R90).
-/

namespace Sys2Proof.Machine

/-- Whether the port carries a transaction in this phase. -/
def portPhase (phase : Phase) (s : State) : Bool :=
  match s.mc.port with
  | some (.transaction t) => decide (t.phase = phase)
  | _ => false

/-- Whether the port carries a transaction in its row phase. -/
def inRowPhase (s : State) : Bool := portPhase (.row .precharge) s || portPhase (.row .activate) s

/-- Whether the port carries a refresh in this step. -/
def refreshAt (step : RefreshStep) (s : State) : Bool := decide (s.mc.port = some (.refresh step))

/-- Whether the port carries this command of the bring-up. -/
def bringUpAt (command : BringCommand) (s : State) : Bool :=
  decide (s.mc.port = some (.bringUp command false)) || decide (s.mc.port = some (.bringUp command true))

/-- The arbiter grants a free port (R105, R106). -/
def execArbiterGrant (s : State) : Host.Outcome State Fault Refusal :=
  .next (eventIf (fun a => a.mc.port.isNone && decide (a.device = .ready)) arbitrate s)

/-- A command of a row phase has been carried out (R108, R111). -/
def execRowCommandDone (s : State) : Host.Outcome State Fault Refusal :=
  .next (coreEventIf inRowPhase rowCommandDone s)

/-- A transaction completes (R110). -/
def execTransactionComplete (s : State) : Host.Outcome State Fault Refusal :=
  .next (coreEventIf (portPhase .column) transactionDone s)

/-- A closing precharge has been carried out (R110). -/
def execClosingPrechargeDone (s : State) : Host.Outcome State Fault Refusal :=
  .next (coreEventIf (portPhase .closing) closingDone s)

/-- A waiting PUT_DATA is taken (R81). -/
def execPutDataTaken (s : State) : Host.Outcome State Fault Refusal :=
  .next
    (coreEventIf (fun a =>
      match a.executing with
      | some { wait := .putData _ _ _, .. } => slotFree a
      | _ => false) resume s)

/-- A waiting SEAL_PAYLOAD ends (R85). -/
def execSealFinish (s : State) : Host.Outcome State Fault Refusal :=
  .next
    (coreEventIf (fun a =>
      match a.executing with
      | some { wait := .seal payload _, .. } => !holdsChunk a payload
      | _ => false) resume s)

/-- A waiting DELETE_PAYLOAD ends (R88). -/
def execDeleteFinish (s : State) : Host.Outcome State Fault Refusal :=
  .next
    (coreEventIf (fun a =>
      match a.executing with
      | some { wait := .delete payload, .. } => !holdsChunk a payload
      | _ => false) resume s)

/-- A READ_BACK ends with its last read (R90). -/
def execReadBackFinish (s : State) : Host.Outcome State Fault Refusal :=
  .next
    (coreEventIf (fun a =>
      match a.executing with
      | some { wait := .readBack _ _ count got, .. } => decide (count ≤ got.length)
      | _ => false) resume s)

/-- The refresh interval expires (R119). -/
def execRefreshIntervalExpiry (s : State) : Host.Outcome State Fault Refusal :=
  .next (coreEventIf timerRuns intervalExpires s)

/-- The precharge-all of a refresh has been carried out (R122). -/
def execRefreshPrechargeDone (s : State) : Host.Outcome State Fault Refusal :=
  .next (coreEventIf (refreshAt .precharge) refreshPrecharged s)

/-- The refresh command has been carried out (R123). -/
def execRefreshComplete (s : State) : Host.Outcome State Fault Refusal :=
  .next (coreEventIf (refreshAt .command) refreshDone s)

/-- The stabilisation wait of the bring-up ends (R98). -/
def execBringupWaitEnd (s : State) : Host.Outcome State Fault Refusal := .next (coreEventIf waitOver waitEnds s)

/-- The precharge-all of the bring-up has been carried out (R98, R101). -/
def execBringupPrechargeDone (s : State) : Host.Outcome State Fault Refusal :=
  .next (coreEventIf (bringUpAt .precharge) bringUpPrecharged s)

/-- An init refresh has been carried out (R98, R101). -/
def execBringupRefreshDone (s : State) : Host.Outcome State Fault Refusal :=
  .next (coreEventIf (bringUpAt .refresh) bringUpRefreshed s)

/-- The mode set has been carried out (R99, R101). -/
def execModeSetDone (s : State) : Host.Outcome State Fault Refusal :=
  .next (coreEventIf (bringUpAt .modeSet) modeSetDone s)

end Sys2Proof.Machine
end

