-- ==== Sys2Proof/Machine/TimeCommands.lean ====
section
/-!
DEFINITION. The requests of the time base (R60 to R67), its events (R56, R59, R65), and what device time does to a cue
(R11, R14, R33).
-/

namespace Sys2Proof.Machine

/-- GET_TIME (R67). -/
def execGetTime (seq : Byte) (s : State) : Host.Outcome State Fault Refusal := .next (hostRequest seq .getTime s)

/-- SET_TIME (R60). -/
def execSetTime (seq : Byte) (value : BitVec 48) (s : State) : Host.Outcome State Fault Refusal :=
  .next (hostRequest seq (.setTime value) s)

/-- STEP_TIME (R61, R62, R63). -/
def execStepTime (seq : Byte) (offset : BitVec 32) (s : State) : Host.Outcome State Fault Refusal :=
  .next (hostRequest seq (.stepTime offset) s)

/-- SLEW_TIME (R64). -/
def execSlewTime (seq : Byte) (offset : BitVec 32) (spacing : BitVec 16) (s : State) :
    Host.Outcome State Fault Refusal :=
  .next (hostRequest seq (.slewTime offset spacing) s)

/-- A tick (R55, R56). -/
def execTick (s : State) : Host.Outcome State Fault Refusal := .next (coreEvent tickTime s)

/-- Whether the next tick is an adjustment of the slew in progress (R65). -/
def adjustmentNext (s : State) : Bool := (slewDue (countElapsed s)).isSome && !s.time.atEnd

/-- A slew adjustment: the tick in which elapsed time equals the next adjustment (R65). -/
def execSlewAdjustment (s : State) : Host.Outcome State Fault Refusal :=
  .next (coreEventIf adjustmentNext tickTime s)

/-- The time end, when device time stands at its maximum with the flag false (R59). -/
def execTimeEnd (s : State) : Host.Outcome State Fault Refusal := .next (coreEventIf atMaximum reachEnd s)

/-- Whether a cue's current due has been reached (R11). -/
def dueIsReached (cue : Nat) (s : State) : Bool :=
  match s.cue? cue with
  | some c => decide (c.state = .armed ∨ c.state = .staged) && decide (c.due.getD 0 ≤ s.time.device)
  | none => false

/-- The due of an ARMED or STAGED cue is reached (R11): an ARMED cue is skipped or goes to PENDING; the lane of a STAGED
one tests its start (R41). -/
def meetDue (cue : Nat) (s : State) : State :=
  match s.cue? cue with
  | some c => if c.state = .armed then reachDue s cue else tryStart s c.lane
  | none => s

/-- The due of a cue is reached (R11, R41). -/
def execDueReached (cue : Fin 64) (s : State) : Host.Outcome State Fault Refusal :=
  .next (coreEventIf (dueIsReached cue.val) (meetDue cue.val) s)

/-- Whether a cue's tolerance has run out before its start (R14). -/
def toleranceIsOver (cue : Nat) (s : State) : Bool :=
  match s.cue? cue with
  | some c =>
    decide (c.state = .staged ∨ c.state = .pending) && decide (c.late = .skip)
      && decide (c.due.getD 0 + c.tolerance < s.time.device)
  | none => false

/-- The tolerance expiry of a STAGED or PENDING SKIP cue (R14). -/
def execToleranceExpiry (cue : Fin 64) (s : State) : Host.Outcome State Fault Refusal :=
  .next (coreEventIf (toleranceIsOver cue.val) (fun a => expireCue a cue.val) s)

/-- Whether a cue is ARMED with its due within its lane's lead window (R33). -/
def insideWindow (cue : Nat) (s : State) : Bool :=
  match s.cue? cue with
  | some c => decide (c.state = .armed) && withinWindow s (s.lane c.lane).config.leadWindow (c.due.getD 0)
  | none => false

/-- The cue's lane evaluates its candidates, of which this cue is a new one (R33). -/
def enterWindow (cue : Nat) (s : State) : State :=
  match s.cue? cue with
  | some c => settleLane (s.dropCue cue) s c.lane
  | none => s

/-- The due of an ARMED cue comes within its lane's lead window (R33). -/
def execLeadWindowEntry (cue : Fin 64) (s : State) : Host.Outcome State Fault Refusal :=
  .next (coreEventIf (insideWindow cue.val) (enterWindow cue.val) s)

end Sys2Proof.Machine
end

