-- ==== Sys2Proof/Machine/Clock.lean ====
section
/-!
DEFINITION. One period of the 100 MHz clock of the lanes and the port, in which nothing is commanded: the counters move
(R44, R112, R119, R154) and the events that fall in the period take place. DESIGN CHOICE (notes/assumptions/5.md): this
is the step of a part whose queue of commands is empty, and events that fall together are taken in the order given here.
-/

namespace Sys2Proof.Machine

/-! ### Counters -/

/-- The pins in a period that carries no byte: ABORT where one is owed (R45, R49). -/
def Lane.nextPins (x : Lane) : Pins := if x.abortDue then abortPins else Pins.idle

/-- One LnCLK period of a lane: its pins go on, and its next slot comes nearer (R44, R45). -/
def Lane.countPeriod (x : Lane) : Lane :=
  { x with pins := x.nextPins, abortDue := false, slotIn := x.slotIn - 1 }

/-- One period of the refresh interval timer (R119). -/
def RefreshTimer.countPeriod : RefreshTimer → RefreshTimer
  | .running n => .running (n - 1)
  | t => t

/-- The counters after one period. -/
def countPeriod (s : State) : State :=
  { s with
    lanes := s.lanes.map Lane.countPeriod,
    mc := { s.mc with portLeft := s.mc.portLeft - 1 },
    refresh := { s.refresh with timer := s.refresh.timer.countPeriod },
    link := { s.link with tx := s.link.tx.map (fun t => { t with clocks := t.clocks + 1 }) },
    time := { s.time with phase := s.time.phase + 1 } }

/-! ### The events that fall in a period -/

/-- Whether the port's operation ends in this period (R112). -/
def portEnds (s : State) : Bool := s.mc.port.isSome && decide (s.mc.portLeft ≤ 1)

/-- Whether a byte slot of the lane falls in this period (R44); a slot that waits has come already (R46). -/
def slotFalls (s : State) (l : Fin 4) : Bool :=
  let x := s.lane l
  decide (x.state = .emitting) && !x.slotWaiting && decide (x.slotIn ≤ 1)

/-- Whether the refresh interval ends in this period (R119). -/
def intervalEnds (s : State) : Bool :=
  match s.refresh.timer with
  | .running n => decide (n ≤ 1)
  | _ => false

/-- Whether a tick falls in this period (R55). -/
def tickFalls (s : State) : Bool := decide (Config.periodsPerTick ≤ s.time.phase + 1)

/-- Whether the last character of the frame in transmission has ended (R140, R154). -/
def frameOver (s : State) : Bool :=
  match s.link.tx with
  | some t => decide (frameLength t.frame ≤ charsSent t)
  | none => false

/-- The end of the operation on the port, whichever it is (R98, R108, R110, R122). -/
def portStep (s : State) : State :=
  match s.mc.port with
  | some (.transaction t) =>
    match t.phase with
    | .row _ => rowCommandDone s
    | .column => transactionDone s
    | .closing => closingDone s
  | some (.refresh .precharge) => refreshPrecharged s
  | some (.refresh .command) => refreshDone s
  | some (.bringUp .precharge _) => bringUpPrecharged s
  | some (.bringUp .refresh _) => bringUpRefreshed s
  | some (.bringUp .modeSet _) => modeSetDone s
  | none => s

/-- The events of elapsed time that a tick may bring: the hold limits, the gap timer, the resend timer and the
stabilisation wait (R46, R144, R165, R98). -/
def tickChecks (s : State) : State :=
  let s := fours.foldl (fun a l => coreEventIf (fun b => holdExpired b l) (fun b => cutLane b l .hold) a) s
  let s := eventIf gapExpired frameEnds s
  let s := eventIf resendDue State.orderResend s
  coreEventIf waitOver waitEnds s

/-- A tick and what it brings (R55). -/
def tickPeriod (s : State) : State := tickChecks (coreEvent tickTime s)

/-- An event that falls in the period, or nothing. -/
def whenFalls (falls : Bool) (f : State → State) (s : State) : State := if falls then f s else s

/-- One period: a free transmitter first begins what is due (R132, R154), and what falls in the period is decided from
the state at its beginning. -/
def clockPeriod (s0 : State) : State :=
  if s0.inReset then s0
  else
    let s := countPeriod (txBegin s0)
    let s := whenFalls (portEnds s0) (coreEvent portStep) s
    let s := fours.foldl (fun a l => whenFalls (slotFalls s0 l) (coreEvent (fun b => takeSlot b l)) a) s
    let s := whenFalls (intervalEnds s0) (coreEvent intervalExpires) s
    let s := whenFalls (tickFalls s0) tickPeriod s
    eventIf frameOver txEnd s

end Sys2Proof.Machine
end

