-- ==== Sys2Proof/Machine/CueCommands.lean ====
section
/-!
DEFINITION. The requests of the cue scheduler (R4 to R7, R20 to R27).
-/

namespace Sys2Proof.Machine

/-- FILE_CUE (R4, R5). -/
def execFileCue (seq : Byte) (body : CueBody) (s : State) : Host.Outcome State Fault Refusal :=
  .next (hostRequest seq (.fileCue body) s)

/-- ARM_CUE (R6, R7). -/
def execArmCue (seq cue : Byte) (newDue : Option (BitVec 48)) (s : State) : Host.Outcome State Fault Refusal :=
  .next (hostRequest seq (.armCue cue newDue) s)

/-- CANCEL_CUE (R20, R21). -/
def execCancelCue (seq cue : Byte) (s : State) : Host.Outcome State Fault Refusal :=
  .next (hostRequest seq (.cancelCue cue) s)

/-- DISCARD_CUE (R22). -/
def execDiscardCue (seq cue : Byte) (s : State) : Host.Outcome State Fault Refusal :=
  .next (hostRequest seq (.discardCue cue) s)

/-- CUE_INFO (R26). -/
def execCueInfo (seq cue : Byte) (s : State) : Host.Outcome State Fault Refusal :=
  .next (hostRequest seq (.cueInfo cue) s)

/-- LIST_CUES (R27). -/
def execListCues (seq : Byte) (s : State) : Host.Outcome State Fault Refusal := .next (hostRequest seq .listCues s)

/-- STOP_ALL (R24). -/
def execStopAll (seq : Byte) (s : State) : Host.Outcome State Fault Refusal := .next (hostRequest seq .stopAll s)

/-- The cut ordered by CANCEL_CUE has completed and its reply is built (R21). -/
def execCancelCueDone (s : State) : Host.Outcome State Fault Refusal :=
  .next
    (coreEventIf (fun a =>
      match a.executing with
      | some { wait := .cancel _ (some _), .. } => true
      | _ => false) resume s)

/-- Every lane has come to rest and the STOP_ALL reply is built (R24). -/
def execStopAllDone (s : State) : Host.Outcome State Fault Refusal :=
  .next
    (coreEventIf (fun a =>
      match a.executing with
      | some { wait := .stopAll _ _, .. } => lanesAtRest a
      | _ => false) resume s)

end Sys2Proof.Machine
end

