-- ==== Sys2Proof/Machine/MemoryCommands.lean ====
section
/-!
DEFINITION. The requests about the memory: MEMORY_INIT and MEMORY_STATUS.
-/

namespace Sys2Proof.Machine

/-- MEMORY_INIT (R96, R97). -/
def execMemoryInit (seq : Byte) (profile : ProfileBody) (s : State) : Host.Outcome State Fault Refusal :=
  .next (hostRequest seq (.memoryInit profile) s)

/-- MEMORY_STATUS (R115). -/
def execMemoryStatus (seq : Byte) (s : State) : Host.Outcome State Fault Refusal :=
  .next (hostRequest seq .memoryStatus s)

end Sys2Proof.Machine
end

