-- ==== Sys2Proof/Machine/PayloadCommands.lean ====
section
/-!
DEFINITION. The requests of the payload store (R78 to R92).
-/

namespace Sys2Proof.Machine

/-- OPEN_PAYLOAD (R78). -/
def execOpenPayload (seq payload : Byte) (length : BitVec 32) (s : State) : Host.Outcome State Fault Refusal :=
  .next (hostRequest seq (.openPayload payload length) s)

/-- PUT_DATA (R80, R81). -/
def execPutData (seq payload : Byte) (offset : BitVec 32) (data : List Byte) (s : State) :
    Host.Outcome State Fault Refusal :=
  .next (hostRequest seq (.putData payload offset data) s)

/-- SEAL_PAYLOAD (R84, R85). -/
def execSealPayload (seq payload : Byte) (expected : Option (BitVec 32)) (s : State) :
    Host.Outcome State Fault Refusal :=
  .next (hostRequest seq (.sealPayload payload expected) s)

/-- DELETE_PAYLOAD (R87, R88). -/
def execDeletePayload (seq payload : Byte) (s : State) : Host.Outcome State Fault Refusal :=
  .next (hostRequest seq (.deletePayload payload) s)

/-- READ_BACK (R90). -/
def execReadBack (seq payload : Byte) (offset : BitVec 32) (count : BitVec 16) (s : State) :
    Host.Outcome State Fault Refusal :=
  .next (hostRequest seq (.readBack payload offset count) s)

/-- PAYLOAD_INFO (R91). -/
def execPayloadInfo (seq payload : Byte) (s : State) : Host.Outcome State Fault Refusal :=
  .next (hostRequest seq (.payloadInfo payload) s)

/-- LIST_PAYLOADS (R92). -/
def execListPayloads (seq start : Byte) (s : State) : Host.Outcome State Fault Refusal :=
  .next (hostRequest seq (.listPayloads start) s)

end Sys2Proof.Machine
end

