-- ==== Sys2Proof/Machine/ResetEvents.lean ====
section
/-!
DEFINITION. The pin reset (R131, R132, R156, R158).
-/

namespace Sys2Proof.Machine

/-- The lanes at their pin reset values; the consumers' levels on LnHOLD are theirs (R32). -/
def resetLanes (q : Quad Lane) : Quad Lane := q.map (fun x => { Lane.reset with hold := x.hold })

/-- The part at its pin reset values (R131, R132). What is not the part's is kept: the consumers' levels, the commands
that wait, and the count of reads of unwritten bytes. -/
def pinResetState (s : State) : State :=
  { State.reset with lanes := resetLanes s.lanes, freeReads := s.freeReads, pending := s.pending }

/-- During the pin reset the notice queue is empty (R158). The manual gives the next number only for the end of the
reset: 1 until then is a DESIGN CHOICE (notes/assumptions/33.md). -/
def beginReset (s : State) : State :=
  { pinResetState s with inReset := true, notices := { held := [], next := 1 } }

/-- A pin reset begins; one in progress is only lengthened (R131). -/
def execPinResetBegin (s : State) : Host.Outcome State Fault Refusal := .next (if s.inReset then s else beginReset s)

/-- A pin reset ends: the part takes up its first condition, with RESTARTED held (R132). -/
def execPinResetEnd (s : State) : Host.Outcome State Fault Refusal :=
  .next (if s.inReset then pinResetState s else s)

end Sys2Proof.Machine
end

