-- ==== Sys2Proof/Machine/SystemCommands.lean ====
section
/-!
DEFINITION. The requests about the part as a whole: IDENTIFY, GET_STATE, RESET, NOTICE_ACK, and a request whose code
names none.
-/

namespace Sys2Proof.Machine

/-- IDENTIFY (R137). -/
def execIdentify (seq : Byte) (s : State) : Host.Outcome State Fault Refusal := .next (hostRequest seq .identify s)

/-- GET_STATE (R138). -/
def execGetState (seq : Byte) (s : State) : Host.Outcome State Fault Refusal := .next (hostRequest seq .getState s)

/-- RESET (R133, R134). -/
def execReset (seq : Byte) (s : State) : Host.Outcome State Fault Refusal := .next (hostRequest seq .reset s)

/-- NOTICE_ACK (R167, R168). -/
def execNoticeAck (seq : Byte) (n : BitVec 16) (s : State) : Host.Outcome State Fault Refusal :=
  .next (hostRequest seq (.noticeAck n) s)

/-- A request whose code names none of the 28: it is admitted like any other and fails with BAD_KIND (R129, R145). -/
def execUnknownRequestCode (seq code : Byte) (params : List Byte) (s : State) : Host.Outcome State Fault Refusal :=
  .next (frameEvent (fun a => requestFrame a seq (code :: params)) s)

end Sys2Proof.Machine
end

