-- ==== Sys2Proof/Machine/TriggerCommands.lean ====
section
/-!
DEFINITION. The requests of the trigger unit (R69, R71) and the sampling of a line (R68, R70, R12).
-/

namespace Sys2Proof.Machine

/-- SET_TRIGGER (R69). -/
def execSetTrigger (seq line mode notify : Byte) (s : State) : Host.Outcome State Fault Refusal :=
  .next (hostRequest seq (.setTrigger line mode notify) s)

/-- READ_STAMPS (R71). -/
def execReadStamps (seq line n : Byte) (s : State) : Host.Outcome State Fault Refusal :=
  .next (hostRequest seq (.readStamps line n) s)

/-- A trigger line is sampled; two successive samples that differ are an edge (R68). -/
def execTriggerEdge (line : Fin 4) (level : Bool) (s : State) : Host.Outcome State Fault Refusal :=
  .next (coreEvent (fun a => sampleLine a line level) s)

end Sys2Proof.Machine
end

