-- ==== Sys2Proof/Machine/Dispatch.lean ====
section
/-!
DEFINITION. The command's meaning: one arm per row of the opcode table.
-/

namespace Sys2Proof.Machine

/-- The effect of a command on everything but the queue of commands. -/
def exec (i : Instr) (s : State) : Host.Outcome State Fault Refusal :=
  match i with
  | .identify seq => Sys2Proof.Machine.execIdentify seq s
  | .getState seq => Sys2Proof.Machine.execGetState seq s
  | .reset seq => Sys2Proof.Machine.execReset seq s
  | .noticeAck seq n => Sys2Proof.Machine.execNoticeAck seq n s
  | .memoryInit seq profile => Sys2Proof.Machine.execMemoryInit seq profile s
  | .memoryStatus seq => Sys2Proof.Machine.execMemoryStatus seq s
  | .openPayload seq payload length => Sys2Proof.Machine.execOpenPayload seq payload length s
  | .putData seq payload offset data => Sys2Proof.Machine.execPutData seq payload offset data s
  | .sealPayload seq payload expected => Sys2Proof.Machine.execSealPayload seq payload expected s
  | .deletePayload seq payload => Sys2Proof.Machine.execDeletePayload seq payload s
  | .readBack seq payload offset count => Sys2Proof.Machine.execReadBack seq payload offset count s
  | .payloadInfo seq payload => Sys2Proof.Machine.execPayloadInfo seq payload s
  | .listPayloads seq start => Sys2Proof.Machine.execListPayloads seq start s
  | .fileCue seq body => Sys2Proof.Machine.execFileCue seq body s
  | .armCue seq cue newDue => Sys2Proof.Machine.execArmCue seq cue newDue s
  | .cancelCue seq cue => Sys2Proof.Machine.execCancelCue seq cue s
  | .discardCue seq cue => Sys2Proof.Machine.execDiscardCue seq cue s
  | .cueInfo seq cue => Sys2Proof.Machine.execCueInfo seq cue s
  | .listCues seq => Sys2Proof.Machine.execListCues seq s
  | .stopAll seq => Sys2Proof.Machine.execStopAll seq s
  | .getTime seq => Sys2Proof.Machine.execGetTime seq s
  | .setTime seq value => Sys2Proof.Machine.execSetTime seq value s
  | .stepTime seq offset => Sys2Proof.Machine.execStepTime seq offset s
  | .slewTime seq offset spacing => Sys2Proof.Machine.execSlewTime seq offset spacing s
  | .setTrigger seq line mode notify => Sys2Proof.Machine.execSetTrigger seq line mode notify s
  | .readStamps seq line n => Sys2Proof.Machine.execReadStamps seq line n s
  | .setLane seq lane settings => Sys2Proof.Machine.execSetLane seq lane settings s
  | .laneStatus seq lane => Sys2Proof.Machine.execLaneStatus seq lane s
  | .unknownRequestCode seq code params => Sys2Proof.Machine.execUnknownRequestCode seq code params s
  | .requestArrival seq body => Sys2Proof.Machine.execRequestArrival seq body s
  | .syncArrival seq => Sys2Proof.Machine.execSyncArrival seq s
  | .syncDoneDeferred => Sys2Proof.Machine.execSyncDoneDeferred s
  | .badFrame frameType seq body check => Sys2Proof.Machine.execBadFrame frameType seq body check s
  | .partialFrameTimeout => Sys2Proof.Machine.execPartialFrameTimeout s
  | .lineFault => Sys2Proof.Machine.execLineFault s
  | .receiveLineOn => Sys2Proof.Machine.execReceiveLineOn s
  | .frameTransmitStart => Sys2Proof.Machine.execFrameTransmitStart s
  | .frameTransmitEnd => Sys2Proof.Machine.execFrameTransmitEnd s
  | .noticeResendExpiry => Sys2Proof.Machine.execNoticeResendExpiry s
  | .pinResetBegin => Sys2Proof.Machine.execPinResetBegin s
  | .pinResetEnd => Sys2Proof.Machine.execPinResetEnd s
  | .tick => Sys2Proof.Machine.execTick s
  | .slewAdjustment => Sys2Proof.Machine.execSlewAdjustment s
  | .timeEnd => Sys2Proof.Machine.execTimeEnd s
  | .dueReached cue => Sys2Proof.Machine.execDueReached cue s
  | .toleranceExpiry cue => Sys2Proof.Machine.execToleranceExpiry cue s
  | .leadWindowEntry cue => Sys2Proof.Machine.execLeadWindowEntry cue s
  | .triggerEdge line level => Sys2Proof.Machine.execTriggerEdge line level s
  | .releaseStart lane => Sys2Proof.Machine.execReleaseStart lane s
  | .byteSlot lane => Sys2Proof.Machine.execByteSlot lane s
  | .holdAsserted lane => Sys2Proof.Machine.execHoldAsserted lane s
  | .holdDeasserted lane => Sys2Proof.Machine.execHoldDeasserted lane s
  | .holdLimitExpiry lane => Sys2Proof.Machine.execHoldLimitExpiry lane s
  | .flushEnd lane => Sys2Proof.Machine.execFlushEnd lane s
  | .cancelCueDone => Sys2Proof.Machine.execCancelCueDone s
  | .stopAllDone => Sys2Proof.Machine.execStopAllDone s
  | .arbiterGrant => Sys2Proof.Machine.execArbiterGrant s
  | .rowCommandDone => Sys2Proof.Machine.execRowCommandDone s
  | .transactionComplete => Sys2Proof.Machine.execTransactionComplete s
  | .closingPrechargeDone => Sys2Proof.Machine.execClosingPrechargeDone s
  | .putDataTaken => Sys2Proof.Machine.execPutDataTaken s
  | .sealFinish => Sys2Proof.Machine.execSealFinish s
  | .deleteFinish => Sys2Proof.Machine.execDeleteFinish s
  | .readBackFinish => Sys2Proof.Machine.execReadBackFinish s
  | .refreshIntervalExpiry => Sys2Proof.Machine.execRefreshIntervalExpiry s
  | .refreshPrechargeDone => Sys2Proof.Machine.execRefreshPrechargeDone s
  | .refreshComplete => Sys2Proof.Machine.execRefreshComplete s
  | .bringupWaitEnd => Sys2Proof.Machine.execBringupWaitEnd s
  | .bringupPrechargeDone => Sys2Proof.Machine.execBringupPrechargeDone s
  | .bringupRefreshDone => Sys2Proof.Machine.execBringupRefreshDone s
  | .modeSetDone => Sys2Proof.Machine.execModeSetDone s
  | .byteReceived byte => Sys2Proof.Machine.execByteReceived byte s

end Sys2Proof.Machine
end

