-- ==== Sys2Proof/Safety.lean ====
section
/-!
DEFINITION. The terms that claims use: when the part attends to a request at once, when an event leaves nothing for the
lanes, the store and the port to do, what a reply and a notice do on the link, and the invariants of the state.
-/

namespace Sys2Proof

/-! ### Requests -/

/-- A request whose body passes the format check (R174): its cue id is a slot, its options are defined, and a PUT_DATA
carries 1 to 1,024 bytes. -/
def Req.fits : Req → Bool
  | .putData _ _ data => decide (1 ≤ data.length) && decide (data.length ≤ 1024)
  | .fileCue b => decide (b.cue.toNat < Config.cueSlots) && decide (b.options.toNat < 8)
  | .armCue cue _ => decide (cue.toNat < Config.cueSlots)
  | .cancelCue cue => decide (cue.toNat < Config.cueSlots)
  | .discardCue cue => decide (cue.toNat < Config.cueSlots)
  | .cueInfo cue => decide (cue.toNat < Config.cueSlots)
  | _ => true

/-- The command by which the host makes a request. -/
def Req.command (seq : Byte) : Req → Instr
  | .identify => .identify seq
  | .getState => .getState seq
  | .reset => .reset seq
  | .noticeAck n => .noticeAck seq n
  | .memoryInit p => .memoryInit seq p
  | .memoryStatus => .memoryStatus seq
  | .openPayload p n => .openPayload seq p n
  | .putData p o d => .putData seq p o d
  | .sealPayload p e => .sealPayload seq p e
  | .deletePayload p => .deletePayload seq p
  | .readBack p o n => .readBack seq p o n
  | .payloadInfo p => .payloadInfo seq p
  | .listPayloads p => .listPayloads seq p
  | .fileCue b => .fileCue seq b
  | .armCue c d => .armCue seq c d
  | .cancelCue c => .cancelCue seq c
  | .discardCue c => .discardCue seq c
  | .cueInfo c => .cueInfo seq c
  | .listCues => .listCues seq
  | .stopAll => .stopAll seq
  | .getTime => .getTime seq
  | .setTime v => .setTime seq v
  | .stepTime o => .stepTime seq o
  | .slewTime o sp => .slewTime seq o sp
  | .setTrigger l m n => .setTrigger seq l m n
  | .readStamps l n => .readStamps seq l n
  | .setLane l b => .setLane seq l b
  | .laneStatus l => .laneStatus seq l

end Sys2Proof

namespace Sys2Proof.Machine

/-! ### The link around an event -/

/-- The part runs and no admitted request waits: an event takes place, and the interpreter takes nothing after it. -/
def listens (s : State) : Bool := !s.inReset && s.raised.isEmpty && s.link.inbox.isEmpty

/-- The interpreter takes nothing from the inbox: it is empty, or a request executes. -/
def takesNothing (s : State) : Bool := s.link.inbox.isEmpty || s.executing.isSome

/-- The receive line is ON, the interpreter is free, and a request with this seq and code is neither in progress nor
answered before: it is admitted and executed in the event in which it arrives (R140, R146, R149). -/
def attends (s : State) (seq code : Byte) : Bool :=
  listens s && lineOn s && s.executing.isNone && s.link.pendingSync.isNone && !replyWaits s
    && (storedFor s seq code).isNone

/-- The end on the link of an event after which the interpreter takes nothing: the event's notices join the queue
(R163), and a free transmitter begins (R154). -/
def heard (s : State) : State := txBegin s.offerRaised

/-- The end on the link of any event: the same, and the interpreter takes the inbox head where it is free and no
executed reply waits (R149). -/
def ended (s : State) : State := linkSettle s.offerRaised

/-- A reply is built, stored and queued, and the event ends on the link (R150, R151). -/
def replied (s : State) (seq code : Byte) (status : Status) (results : List Byte) : State :=
  ended (queueReply s seq code status results)

/-! ### What an event leaves to do -/

/-- Lane `l` has nothing to finish or to choose after an event that led from `s0` to `s`: no flush is over, no staged
cue is evaluated, and an IDLE lane has no candidate (R33, R34, R36, R40). -/
def laneRests (s0 s : State) (l : Fin 4) : Bool :=
  !flushOver s l && !((s.lane l).state.holdsStaged && evaluates s0 s l)
    && !(decide ((s.lane l).state = .idle) && (candidate s l).isSome)

/-- The arbiter has nothing to grant, and the bring-up has no command to issue (R98, R105). -/
def portRests (s : State) : Bool :=
  s.mc.port.isSome
    || (match s.device with
        | .ready => (chooseGrant s).isNone
        | .initializing =>
          match s.mc.bringUp with
          | some b => decide (b.step = .wait)
          | none => true
        | .unconfigured => true)

/-- What the executing request waits for has not come (R149). -/
def waitGoesOn (s : State) : Bool :=
  match s.executing with
  | none => true
  | some e =>
    match e.wait with
    | .putData _ _ _ => !slotFree s
    | .seal payload _ => holdsChunk s payload
    | .delete payload => holdsChunk s payload
    | .readBack _ _ count got => decide (got.length < count) && outstanding s .readBack
    | .cancel _ counts => counts.isNone
    | .stopAll _ _ => !lanesAtRest s

/-- An event that led from `s0` to `s` leaves nothing more to do in the lanes and the store. -/
def calm (s0 s : State) : Bool := fours.all (laneRests s0 s) && (doomedUnused s).isEmpty

/-- The same, and the executing request, if any, waits on. -/
def goesOn (s0 s : State) : Bool := calm s0 s && waitGoesOn s

/-- The lanes other than `l` rest. -/
def othersRest (s0 s : State) (l : Fin 4) : Bool := fours.all (fun m => decide (m = l) || laneRests s0 s m)

/-- The same as `goesOn`, but lane `l` holds a staged cue that is not to be given back: its due is reached, or nothing
displaces it (R36). -/
def goesOnStaged (s0 s : State) (l : Fin 4) : Bool :=
  (s.lane l).state.holdsStaged
    && (decide (heldDue s l ≤ s.time.device) || !displacedBy s0 s l (heldDue s l))
    && othersRest s0 s l && (doomedUnused s).isEmpty && waitGoesOn s

/-- After an event that led from `s0` to `t` lane `l` alone has something left to do, which leads to `u`, and from there
the event goes on. -/
def laneLeads (s0 t u : State) (l : Fin 4) : Bool := othersRest s0 t l && (goesOn s0 u || goesOnStaged s0 u l)

/-- `goesOn`, and the port has nothing to begin. -/
def settled (s0 s : State) : Bool := goesOn s0 s && portRests s

/-- The end of an event that left the lanes and the store calm: the arbiter tests for a grant (R105), and the event
ends on the link. -/
def concluded (s : State) : State := ended (arbitrate s)

/-- The end of any event that led from `s0` to `s`: the same after what it ends with in the lanes, the store and the
executing request. -/
def finished (s0 s : State) : State := ended (coreTail s0 s)

/-- The end of an event that led from `s0` to `s` and answers a request. -/
def answered (s0 s : State) (seq code : Byte) (status : Status) (results : List Byte) : State :=
  finished s0 (queueReply s seq code status results)

/-! ### A row of commands -/

/-- The commands one after another. -/
def execAll : List Instr → State → Host.Outcome State Fault Refusal
  | [], s => .next s
  | c :: t, s =>
    match exec c s with
    | .next s' => execAll t s'
    | .fault r => .fault r
    | .refused r => .refused r

/-- The bytes received one after another, each by BYTE_RECEIVED. -/
def receiveAll (bytes : List Byte) (s : State) : Host.Outcome State Fault Refusal :=
  execAll (bytes.map Instr.byteReceived) s

/-! ### Invariants -/

/-- Device time stays within its maximum, the time-end flag says that it stands there, no slew runs then, and a slew in
progress has offset left within what SLEW_TIME accepts (R56, R59, R64, R66). -/
def timeInvariant (s : State) : Prop :=
  s.time.device ≤ Config.maxTime ∧ (s.time.atEnd = true ↔ s.time.device = Config.maxTime)
    ∧ ∀ w, s.time.slew = some w →
        s.time.atEnd = false ∧ w.remaining ≠ 0 ∧ w.remaining.natAbs ≤ 1000000 ∧ 100 ≤ w.spacing ∧ w.spacing ≤ 65535

/-- The capacities of the link (R137, R146, R151, R152): inbox, prompt list and reply memory are no longer than their
sizes, at most one reply of an execution waits or is being made, and at most one SYNC_DONE waits. -/
def linkInvariant (s : State) : Prop :=
  s.link.inbox.length ≤ Config.inboxSize ∧ s.link.prompt.length ≤ Config.promptSize
    ∧ s.link.replies.length ≤ Config.replyMemorySize
    ∧ (s.link.replyQueue.filter QueuedReply.isExecuted).length + (if s.executing.isSome then 1 else 0) ≤ 1
    ∧ (s.link.replyQueue.filter (fun q => !q.isExecuted)).length ≤ 1

/-- The numbers from `n` on, one after another, wrapping at 16 bits. -/
def consecutive (n : BitVec 16) : List Notice → Prop
  | [] => True
  | x :: t => x.number = n ∧ consecutive (n + 1) t

/-- The notice queue holds at most 32 notices, a 32nd only if it holds OVERFLOW, under consecutive numbers that end
before the next number (R158, R161, R162). -/
def noticeInvariant (s : State) : Prop :=
  s.notices.held.length ≤ Config.noticeQueueSize
    ∧ (s.notices.held.length = Config.noticeQueueSize → s.notices.held.any Notice.isOverflow = true)
    ∧ consecutive (s.notices.next - BitVec.ofNat 16 s.notices.held.length) s.notices.held

/-- A cue record has a current due in exactly the states ARMED, STAGED, PENDING and RELEASING (R3). -/
def Cue.dueFits (c : Cue) : Prop :=
  c.due.isSome = true ↔ c.state = .armed ∨ c.state = .staged ∨ c.state = .pending ∨ c.state = .releasing

/-- The cue table lists slots 0 to 63 in rising order, and each record has a due where its state has one (R1, R3). -/
def cueInvariant (s : State) : Prop :=
  sortedKeys s.cues = true ∧ ∀ e ∈ s.cues, e.1 < Config.cueSlots ∧ e.2.dueFits

/-- No stamp ring holds more than 8 stamps (R70). -/
def ringInvariant (s : State) : Prop := ∀ l : Fin 4, (s.triggers.lines.get l).ring.length ≤ Config.ringSize

/-! ### Invariants of the memory port, the refresh scheduler, the lanes and the payload store -/

/-- A profile within the ranges that MEMORY_INIT accepts (R95, R96). -/
def Profile.legal (p : Profile) : Prop :=
  (p.rows = 2048 ∨ p.rows = 4096 ∨ p.rows = 8192) ∧ 1000 ≤ p.interval ∧ 1 ≤ p.debtLimit ∧ p.debtLimit ≤ 8
    ∧ 2 ≤ p.initRefreshes ∧ p.initRefreshes ≤ 16 ∧ (p.latency = 2 ∨ p.latency = 3) ∧ (p.burst = 4 ∨ p.burst = 8)

/-- A span of 1 to 256 bytes within one block (R37, R82, R90). -/
def spanFits (pos size : Nat) : Prop := 1 ≤ size ∧ size ≤ Config.maxTransfer ∧ pos + size ≤ Config.blockBytes

/-- The bring-up progress stands exactly in INITIALIZING and a legal profile exactly outside UNCONFIGURED; a bring-up
command that is not abandoned is that of the present step (R97, R98, R101, R116). -/
def bringUpInvariant (s : State) : Prop :=
  (s.mc.bringUp.isSome = true ↔ s.device = .initializing) ∧ (s.mc.profile.isSome = true ↔ s.device ≠ .unconfigured)
    ∧ (∀ p, s.mc.profile = some p → p.legal)
    ∧ ∀ c, s.mc.port = some (.bringUp c false) →
        ∃ b, s.mc.bringUp = some b
          ∧ b.step = match c with
            | .precharge => BringStep.precharge
            | .refresh => .refresh
            | .modeSet => .modeSet

/-- Outside READY the refresh scheduler rests. In READY the debt is at most the limit, the timer is PAUSED exactly at
the limit and RUNNING below it, a debt has its request, and the request is IN_FLIGHT exactly while a refresh holds the
port (R118 to R123). -/
def refreshInvariant (s : State) : Prop :=
  (s.device ≠ .ready → s.refresh = { debt := 0, timer := .stopped, request := .absent })
    ∧ (s.device = .ready →
        s.refresh.debt ≤ debtLimit s ∧ s.refresh.timer ≠ .stopped
          ∧ (s.refresh.timer = .paused ↔ s.refresh.debt = debtLimit s)
          ∧ (0 < s.refresh.debt → s.refresh.request ≠ .absent)
          ∧ (s.refresh.request = .inFlight ↔ ∃ step, s.mc.port = some (.refresh step)))

/-- Every request at the arbiter and every transaction moves 1 to 256 bytes of one block, no requester has two, and a
transaction past its row phase is not withdrawn and has its row open (R37, R82, R90, R104, R108, R111). -/
def portInvariant (s : State) : Prop :=
  (∀ r q, requestOf s r = some q → spanFits q.pos q.size ∧ inFlight s r = false)
    ∧ ∀ t, s.mc.port = some (.transaction t) →
        spanFits t.pos t.size
          ∧ (t.phase = .column ∨ t.phase = .closing → t.withdrawn = false ∧ s.mc.banks.get t.bank = some t.row)

/-- The memory controller, the refresh scheduler and the fill buffer of at most four chunks (R79). -/
def controllerInvariant (s : State) : Prop :=
  bringUpInvariant s ∧ refreshInvariant s ∧ portInvariant s ∧ s.store.chunks.length ≤ Config.fillSlots

/-- Lane `l` holds the cue that `h` names: it names this lane and is in this state. -/
def holdsCue (s : State) (l : Fin 4) (h : HeldCue) (st : CueState) : Prop :=
  ∃ c, s.cue? h.cue = some c ∧ c.lane = l ∧ c.state = st

/-- What each lane state holds: no cue at rest, the staged cue in STAGING and PRIMED, the releasing cue in EMITTING and,
after a cut that is to be reported, in FLUSHING; a release exactly beside a releasing cue; STOPPED exactly while
disabled; and every STAGED or RELEASING cue is the one its lane holds (R29, R31, R32, R48). -/
def laneInvariant (s : State) : Prop :=
  (∀ l,
    let x := s.lane l
    (x.state = .stopped ↔ x.config.enabled = false) ∧ (x.state.atRest = true → x.held = none)
      ∧ (x.state.holdsStaged = true → ∃ h, x.held = some h ∧ holdsCue s l h .staged)
      ∧ (x.state = .emitting → ∃ h, x.held = some h ∧ holdsCue s l h .releasing)
      ∧ (x.state = .flushing → ∀ h, x.held = some h →
          holdsCue s l h .releasing ∧ (x.cutCause.bind CutCause.result).isSome = true)
      ∧ (x.release.isSome = true ↔ (x.state = .emitting ∨ x.state = .flushing) ∧ x.held.isSome = true))
    ∧ ∀ id c, s.cue? id = some c → c.state = .staged ∨ c.state = .releasing →
        ∃ h, (s.lane c.lane).held = some h ∧ h.cue = id

/-- Whether a cue counts towards its payload's reference count (R25). -/
def Cue.counted (c : Cue) : Bool := decide (c.state ≠ .ended)

/-- The payload that the executing request fills, seals or deletes (R80, R84, R88). -/
def Executing.fills (e : Executing) : Option Nat :=
  match e.wait with
  | .putData payload _ _ => some payload
  | .seal payload _ => some payload
  | .delete payload => some payload
  | _ => none

/-- The payload store: the directory lists ids 0 to 255 by rising id; outside READY it and the pool are empty, and in
READY every block is in the pool or in one block list, once; a reference count is the number of counted cues that name
the payload, above 0 in DOOMED, and such a cue names a SEALED or DOOMED one; a chunk, and a request that fills, seals or
deletes, names a FILLING one, unless it has been freed (R25, R75, R76, R79, R89). -/
def storeInvariant (s : State) : Prop :=
  sortedKeys s.store.directory = true ∧ (∀ e ∈ s.store.directory, e.1 < 256)
    ∧ (s.device ≠ .ready → s.store.directory = [] ∧ s.store.pool = [])
    ∧ (∀ p, s.device = .ready → s.mc.profile = some p →
        (s.store.pool ++ (s.store.directory.map (fun e => e.2.blocks)).flatten).Perm (List.range (blockCount p)))
    ∧ (∀ e ∈ s.store.directory,
        e.2.refs = s.cues.countP (fun c => c.2.counted && decide (c.2.payload = e.1))
          ∧ (e.2.state = .doomed → 0 < e.2.refs))
    ∧ (∀ e ∈ s.cues, e.2.counted = true → ∃ p, s.payload? e.2.payload = some p ∧ p.state ≠ .filling)
    ∧ (∀ k ∈ s.store.chunks, ∃ p, s.payload? k.payload = some p ∧ p.state = .filling)
    ∧ ∀ e id p, s.executing = some e → e.fills = some id → s.payload? id = some p → p.state = .filling

end Sys2Proof.Machine
end

