-- ==== Sys2Proof/Certificates/Slice0/Obligations.lean ====
section
/-!
DEFINITION. The statements about the WH440: what each command does where it completes, what it leaves as it was, the
encodings of the requests, and the invariants that every step keeps. An equation for the next state is also the frame:
every field it does not name is as it was.
-/

open Sys2Proof Sys2Proof.Machine

/-! ### The step and the queue of commands -/

/-- The step takes the command at the front of the queue and is that command's meaning on the rest. -/
def Obligations.StepTakesFrontCommand : Prop :=
  ∀ (c : Instr) (rest : List Instr) (s : State), s.pending = c :: rest → step s = exec c { s with pending := rest }

/-- With no command waiting one 10 ns period passes: in a pin reset nothing moves; a free transmitter first begins the
frame that is due; the counters move; and where one event falls in the period it takes place after them. Without one,
nothing else does. An operation of the port whose last period this is ends; a byte slot of an EMITTING lane comes; the
refresh interval expires; a tick comes, with what elapsed time brings at it, the hold limits, the gap timer, the resend
timer and the wait of the bring-up, each of which does nothing before its time; and the last character of a frame ends,
10 bits after another at the line rate. The model's choice (notes/assumptions/5.md, 21.md, 29.md). -/
def Obligations.EmptyQueueIsOnePeriod : Prop :=
  ∀ s : State, s.pending = [] →
    let a := txBegin s
    let m : State :=
      { a with
        lanes := s.lanes.map (fun x =>
          { x with
            pins := if x.abortDue then { Pins.idle with abort := true } else Pins.idle
            abortDue := false, slotIn := x.slotIn - 1 }),
        mc := { s.mc with portLeft := s.mc.portLeft - 1 },
        refresh :=
          { s.refresh with
            timer := match s.refresh.timer with
              | .running n => .running (n - 1)
              | t => t },
        link := { a.link with tx := a.link.tx.map (fun t => { t with clocks := t.clocks + 1 }) },
        time := { s.time with phase := s.time.phase + 1 } }
    let portDue := s.mc.port ≠ none ∧ s.mc.portLeft ≤ 1
    let slotDue := fun l => (s.lane l).state = .emitting ∧ (s.lane l).slotWaiting = false ∧ (s.lane l).slotIn ≤ 1
    let intervalDue := ∃ n, s.refresh.timer = .running n ∧ n ≤ 1
    let tickDue := 100 ≤ s.time.phase + 1
    let frameDue := ∃ t, m.link.tx = some t
      ∧ 7 + t.frame.body.length ≤ t.clocks * Config.lineRate.bitsPerSecond / 1000000000
    let noSlot := ∀ l, ¬slotDue l
    (s.inReset = true → step s = .next s)
      ∧ (s.inReset = false →
          (¬portDue → noSlot → ¬intervalDue → ¬tickDue → ¬frameDue → step s = .next m)
            ∧ (portDue → noSlot → ¬intervalDue → ¬tickDue → ¬frameDue →
                (∀ t, s.mc.port = some (.transaction t) →
                    ((∃ c, t.phase = .row c) → step s = exec .rowCommandDone m)
                      ∧ (t.phase = .column → step s = exec .transactionComplete m)
                      ∧ (t.phase = .closing → step s = exec .closingPrechargeDone m))
                  ∧ (s.mc.port = some (.refresh .precharge) → step s = exec .refreshPrechargeDone m)
                  ∧ (s.mc.port = some (.refresh .command) → step s = exec .refreshComplete m)
                  ∧ ∀ b, (s.mc.port = some (.bringUp .precharge b) → step s = exec .bringupPrechargeDone m)
                      ∧ (s.mc.port = some (.bringUp .refresh b) → step s = exec .bringupRefreshDone m)
                      ∧ (s.mc.port = some (.bringUp .modeSet b) → step s = exec .modeSetDone m))
            ∧ (∀ l, ¬portDue → slotDue l → (∀ k, k ≠ l → ¬slotDue k) → ¬intervalDue → ¬tickDue → ¬frameDue →
                step s = exec (.byteSlot l) m)
            ∧ (¬portDue → noSlot → intervalDue → ¬tickDue → ¬frameDue → step s = exec .refreshIntervalExpiry m)
            ∧ (¬portDue → noSlot → ¬intervalDue → tickDue → ¬frameDue →
                step s
                  = execAll
                      [.tick, .holdLimitExpiry 0, .holdLimitExpiry 1, .holdLimitExpiry 2, .holdLimitExpiry 3,
                        .partialFrameTimeout, .noticeResendExpiry, .bringupWaitEnd] m)
            ∧ (¬portDue → noSlot → ¬intervalDue → ¬tickDue → frameDue → step s = exec .frameTransmitEnd m))

/-- No command stops, and none touches the queue: in every state each answers a next state, with the commands that wait
as they were. -/
def Obligations.EveryCommandGoesOn : Prop :=
  ∀ (c : Instr) (s : State), ∃ t, exec c s = .next t ∧ t.pending = s.pending

/-! ### Reset -/

/-- What a pin reset leaves: the values the manual gives each block. -/
def Obligations.ResetValues : Prop :=
  let s := State.reset
  s.device = .unconfigured ∧ s.executing = none ∧ s.cues = [] ∧ dueList s = [] ∧ (∀ l, pendingQueue s l = [])
    ∧ s.link =
        { line := .arming, framer := .hunt, gapTimer := none, inbox := [], replies := [], pendingSync := none,
          tx := none, prompt := [], replyQueue := [] }
    ∧ s.notices =
        { held := [{ number := 1, body := .restarted .pin, send := .due, again := false, lastSent := none }],
          next := 2 }
    ∧ atn s = true
    ∧ s.time.elapsed = 0 ∧ s.time.device = 0 ∧ s.time.valid = false ∧ s.time.atEnd = false ∧ s.time.slew = none
    ∧ (∀ l, (s.lane l).state = .stopped ∧ (s.lane l).held = none ∧ (s.lane l).buffer = []
        ∧ (s.lane l).holdTimer = none ∧ (s.lane l).cutCause = none
        ∧ (s.lane l).config =
            { enabled := false, pace := 100, leadWindow := 500, startThreshold := 256, holdLimit := 1000 }
        ∧ (s.lane l).pins = { valid := false, data := 0, start := false, last := false, abort := false })
    ∧ (∀ l, (s.triggers.lines.get l).mode = .off ∧ (s.triggers.lines.get l).notify = false
        ∧ (s.triggers.lines.get l).ring = [] ∧ (s.triggers.lines.get l).gap = false)
    ∧ s.store.directory = [] ∧ s.store.pool = [] ∧ s.store.chunks = []
    ∧ s.mc.port = none ∧ (∀ r, outstanding s r = false) ∧ s.mc.profile = none ∧ s.mc.bringUp = none
    ∧ (∀ b, s.mc.banks.get b = none)
    ∧ s.refresh = { debt := 0, timer := .stopped, request := .absent }

/-- A pin reset from any state: at its beginning the part takes its reset values and holds no notice; a second
beginning changes nothing; at its end RESTARTED of kind PIN is held, numbered 1 and DUE; an end without a beginning
changes nothing. The levels on LnHOLD, the queue of commands and the count of reads of unwritten bytes are not the
part's and stay (notes/assumptions/3.md, 16.md). During a pin reset every command but the end of the reset and the two
levels of LnHOLD changes nothing. The model's choices: the next number is 1 during the reset (notes/assumptions/33.md),
a level of LnHOLD given during it is kept (notes/assumptions/23.md), and a second beginning and an end without one do
nothing (notes/assumptions/6.md). -/
def Obligations.PinReset : Prop :=
  (∀ s : State,
     let r : State :=
       { State.reset with
         lanes := s.lanes.map (fun x => { Lane.reset with hold := x.hold }), freeReads := s.freeReads,
         pending := s.pending }
     (s.inReset = false →
         exec .pinResetBegin s = .next { r with inReset := true, notices := { held := [], next := 1 } })
       ∧ (s.inReset = true → exec .pinResetBegin s = .next s)
       ∧ (s.inReset = true → exec .pinResetEnd s = .next r)
       ∧ (s.inReset = false → exec .pinResetEnd s = .next s))
    ∧ (∀ (c : Instr) (s : State), s.inReset = true →
         (match c with
           | .pinResetEnd => True
           | .holdAsserted l => exec c s = .next (s.setLane l { s.lane l with hold := true })
           | .holdDeasserted l => exec c s = .next (s.setLane l { s.lane l with hold := false })
           | _ => exec c s = .next s))

/-! ### Requests: encoding, arrival and the interpreter's tests -/

/-- Decoding and encoding of the requests agree: a body is decoded to a request exactly when it is that request's
encoding and the request passes the format check. Every field keeps every value it may have, no byte is dropped, and no
other body spells the request. -/
def Obligations.RequestsRoundTrip : Prop :=
  ∀ (body : List Byte) (r : Req), decodeBody body = .ok r ↔ encodeBody r = body ∧ r.fits = true

/-- A code that names none of the 28 requests is answered BAD_KIND in every device state. A request that the grid does
not accept in the present device state is refused with NOT_READY, the reply carrying the device state, and changes
nothing else. A body that the format check turns away is answered with the status of the first test that fails, and
changes nothing else: too short, an undefined flag bit or start kind, a length that does not fit, a cue id above 63. That this
order holds for a body of 1,031 to 1,040 bytes too, for which R171 names BAD_LENGTH alone, is the model's choice between
two rules (notes/assumptions/37.md). -/
def Obligations.InterpreterTests : Prop :=
  (∀ (seq code : Byte) (params : List Byte) (s : State), knownCode code = false →
     params.length + 1 ≤ Config.maxBody → attends s seq code = true →
     exec (.unknownRequestCode seq code params) s = .next (replied (txBegin s) seq code .badKind []))
    ∧ (∀ (r : Req) (seq : Byte) (s : State), (encodeBody r).length ≤ Config.maxBody → attends s seq r.code = true →
         (match r with
           | .memoryInit _ => s.device = .initializing
           | .openPayload _ _ | .putData _ _ _ | .sealPayload _ _ | .deletePayload _ | .readBack _ _ _ | .payloadInfo _
           | .listPayloads _ | .fileCue _ | .armCue _ _ | .cancelCue _ | .discardCue _ | .cueInfo _ | .listCues
           | .stopAll => s.device ≠ .ready
           | _ => False) →
         exec (r.command seq) s
           = .next (replied (txBegin s) seq r.code .notReady [deviceStateCode s.device]))
    ∧ (∀ (seq : Byte) (body : List Byte) (st : Status) (s : State), knownCode (byteAt body 0) = true → body ≠ [] →
         body.length ≤ Config.maxBody → attends s seq (byteAt body 0) = true →
         accepted (byteAt body 0) s.device = true →
         ((body.length < fixedPart (byteAt body 0) ∧ st = .badLength)
           ∨ (fixedPart (byteAt body 0) ≤ body.length ∧ flagBytesOk body = false ∧ st = .badValue)
           ∨ (fixedPart (byteAt body 0) ≤ body.length ∧ flagBytesOk body = true ∧ lengthOk body = false ∧ st = .badLength)
           ∨ (fixedPart (byteAt body 0) ≤ body.length ∧ flagBytesOk body = true ∧ lengthOk body = true
               ∧ cueIdOk body = false ∧ st = .badValue)) →
         exec (.requestArrival seq body) s = .next (replied (setFramer (txBegin s) .hunt) seq (byteAt body 0) st []))

/-! ### Requests that read -/

/-- The requests accepted in every device state that only read: each replies OK with its values at that moment.
GET_STATE has no field for a lane: the model's choice between two rules (notes/assumptions/31.md). MEMORY_STATUS
replies with the state of the memory controller at the moment it is executed. LANE_STATUS replies with the state of one
lane, and refuses a lane above 3. -/
def Obligations.PartReadersReply : Prop :=
  (∀ (seq : Byte) (s : State),
     (attends s seq 0x01 = true →
         exec (.identify seq) s
           = .next (replied (txBegin s) seq 0x01 .ok
               ([0x17, 0x0A, 0x40, 0x04, 0x01] ++ toLE 4 Config.lineRate.bitsPerSecond
                 ++ [64, 0, 1, 4, 4, 0, 0x80, 0, 8, 4, 4, 8, 32, 8])))
       ∧ (attends s seq 0x02 = true →
           exec (.getState seq) s
             = .next (replied (txBegin s) seq 0x02 .ok
                 ([deviceStateCode s.device, flagByte s.time.valid]
                   ++ toLE 1 (64 - s.cues.length)
                   ++ ([CueState.held, .armed, .triggerWait, .staged, .pending, .releasing, .ended].map (fun st =>
                       BitVec.ofNat 8 (s.cues.countP (fun e => decide (e.2.state = st)))))
                   ++ toLE 2 s.store.pool.length ++ toLE 1 s.notices.held.length ++ [0])))
       ∧ (attends s seq 0x40 = true →
           exec (.getTime seq) s
             = .next (replied (txBegin s) seq 0x40 .ok
                 (toLE 6 s.time.device ++ [flagByte s.time.valid, flagByte s.time.atEnd]
                   ++ (match s.time.slew with
                       | some w => 1 :: (toLE 4 (BitVec.ofInt 32 w.remaining).toNat ++ toLE 2 w.spacing)
                       | none => [0])))))
    ∧ (∀ (seq : Byte) (s : State), attends s seq 0x11 = true →
         exec (.memoryStatus seq) s
           = .next (replied (txBegin s) seq 0x11 .ok
               ([deviceStateCode s.device, flagsByte s.mc.profile.isSome s.mc.bringUp.isSome false false]
                 ++ (match s.mc.profile with
                     | some p =>
                       toLE 2 p.rows ++ [rowPolicyCode p.policy] ++ toLE 2 p.interval ++ toLE 1 p.debtLimit
                         ++ toLE 1 p.initRefreshes ++ toLE 1 p.latency ++ toLE 1 p.burst
                     | none => [])
                 ++ (match s.mc.bringUp with
                     | some b => bringStepCode b.step :: toLE 1 b.refreshes
                     | none => [])
                 ++ toLE 2 s.store.pool.length
                 ++ (fours.map (fun b =>
                       match s.mc.banks.get b with
                       | some row => 1 :: toLE 2 row
                       | none => [0, 0, 0])).flatten
                 ++ toLE 1 s.refresh.debt
                 ++ (match s.mc.profile with
                     | some p => toLE 1 p.debtLimit
                     | none => []))))
    ∧ (∀ (seq lane : Byte) (s : State), attends s seq 0x51 = true →
         (∀ l : Fin 4, lane.toNat = l.val →
             exec (.laneStatus seq lane) s
               = .next (replied (txBegin s) seq 0x51 .ok
                   ([laneStateCode (s.lane l).state, flagByte (s.lane l).config.enabled] ++ toLE 1 (s.lane l).config.pace
                     ++ toLE 2 (s.lane l).config.leadWindow ++ toLE 2 (s.lane l).config.startThreshold
                     ++ toLE 2 (s.lane l).config.holdLimit
                     ++ [flagsByte (s.lane l).held.isSome (s.lane l).release.isSome false false]
                     ++ (match (s.lane l).held with
                         | some h =>
                           toLE 1 h.cue ++ [if (s.lane l).state.holdsStaged then 4 else 6]
                             ++ toLE 6 (((s.cue? h.cue).bind Cue.due).getD 0) ++ toLE 4 (s.lane l).fetched
                         | none => [])
                     ++ (match (s.lane l).release with
                         | some r => toLE 6 r.start ++ toLE 6 r.lateness ++ [flagByte r.late] ++ toLE 4 (s.lane l).emitted
                         | none => [])
                     ++ toLE 2 (s.lane l).buffer.length ++ [flagByte (s.lane l).hold]
                     ++ toLE 1 (pendingQueue s l).length ++ (pendingQueue s l).map (fun e => BitVec.ofNat 8 e.1))))
           ∧ (4 ≤ lane.toNat → exec (.laneStatus seq lane) s = .next (replied (txBegin s) seq 0x51 .badValue [])))

/-- PAYLOAD_INFO and LIST_PAYLOADS reply with the directory as it stands; LIST_PAYLOADS lists by rising id where the
directory keeps its order (LanesAndStoreKept). -/
def Obligations.DirectoryReadersReply : Prop :=
  ∀ (seq id : Byte) (s : State), s.device = .ready →
    (attends s seq 0x25 = true →
        (s.payload? id.toNat = none →
            exec (.payloadInfo seq id) s = .next (replied (txBegin s) seq 0x25 .noSuch []))
          ∧ ∀ p, s.payload? id.toNat = some p →
              exec (.payloadInfo seq id) s
                = .next (replied (txBegin s) seq 0x25 .ok
                    ([id, payloadStateCode (some p.state), flagsByte p.check.isSome p.mismatch false false]
                      ++ toLE 4 p.length ++ toLE 2 p.blocks.length ++ toLE 2 (p.blocks.headD 0)
                      ++ toLE 4 p.fillOffset ++ toLE 4 p.running.toNat ++ toLE 1 p.refs
                      ++ (match p.check with
                          | some k => 4 :: toLE 4 k.toNat
                          | none => [0]))))
      ∧ (attends s seq 0x26 = true →
          let es := s.store.directory.filter (fun e => decide (id.toNat ≤ e.1))
          exec (.listPayloads seq id) s
            = .next (replied (txBegin s) seq 0x26 .ok
                (toLE 1 (min es.length 128)
                  ++ ((es.take 128).map (fun e =>
                      BitVec.ofNat 8 e.1 :: payloadStateCode (some e.2.state) :: toLE 4 e.2.length)).flatten
                  ++ (match es[128]? with
                      | some e => [1, BitVec.ofNat 8 e.1]
                      | none => [0])))
            ∧ (sortedKeys s.store.directory = true → (es.map Prod.fst).Pairwise (· < ·)))

/-- CUE_INFO replies with the whole record of a slot in use, and refuses an EMPTY one. LIST_CUES replies with one entry
for every slot in use, in the order of the table, which is rising cue id where the table keeps its order
(CueTableKept). -/
def Obligations.CueReadersReply : Prop :=
  (∀ (seq id : Byte) (s : State), s.device = .ready → id.toNat < 64 → attends s seq 0x34 = true →
     (s.cue? id.toNat = none → exec (.cueInfo seq id) s = .next (replied (txBegin s) seq 0x34 .noSuch []))
       ∧ ∀ c, s.cue? id.toNat = some c →
           let tail :=
             (match c.range with
               | some r => toLE 4 r.offset ++ toLE 4 r.count
               | none => [])
               ++ (match c.due with
                   | some d => toLE 6 d
                   | none => [])
               ++ (match c.last with
                   | some o =>
                     [resultCode o.result, flagsByte o.late o.checkFault o.startTime.isSome false]
                       ++ toLE 6 o.lateness ++ toLE 4 o.bytes ++ toLE 6 (o.startTime.getD 0)
                   | none => [])
               ++ (match c.endReason with
                   | some r => [endReasonCode r]
                   | none => [])
           exec (.cueInfo seq id) s
             = .next (replied (txBegin s) seq 0x34 .ok
                 ([id, cueStateCode (some c.state)] ++ toLE 1 c.lane.val ++ toLE 1 c.payload
                   ++ [(match c.start with
                       | .time _ => 0
                       | .trigger _ _ _ => 1), optionsByte c.options,
                     flagsByte c.range.isSome c.due.isSome c.last.isSome c.endReason.isSome, latePolicyCode c.late]
                   ++ toLE 2 c.tolerance ++ toLE 1 c.priority ++ [reportCode c.report] ++ toLE 2 c.repeatCount
                   ++ toLE 4 c.period ++ toLE 2 c.used ++ toLE 2 c.skipped
                   ++ (match c.start with
                       | .time d => toLE 6 d
                       | .trigger line edge offset => toLE 1 line.val ++ [cueEdgeCode edge] ++ toLE 4 offset)
                   ++ toLE 2 tail.length ++ tail)))
    ∧ (∀ (seq : Byte) (s : State), s.device = .ready → attends s seq 0x35 = true →
         exec (.listCues seq) s
           = .next (replied (txBegin s) seq 0x35 .ok
               (toLE 1 s.cues.length
                 ++ (s.cues.map (fun e =>
                     [BitVec.ofNat 8 e.1, cueStateCode (some e.2.state), BitVec.ofNat 8 e.2.lane.val])).flatten))
           ∧ (sortedKeys s.cues = true → (s.cues.map Prod.fst).Pairwise (· < ·)))

/-! ### Requests about the part and the memory -/

/-- NOTICE_ACK by position, counted from the oldest held notice, or from the next number when none is held: a held
number removes every notice up to it, an older one removes nothing, and a number that was never given is refused with
BAD_VALUE. When the new oldest notice has waited 100 ms since it was sent, the resend is ordered in the same event: the
model's reading of R165 (notes/assumptions/17.md). -/
def Obligations.NoticeAckByPosition : Prop :=
  ∀ (seq : Byte) (n : BitVec 16) (s : State), attends s seq 0x04 = true →
    let a := txBegin s
    let held := a.notices.held
    let d := held.length
    let o := oldestNumber a.notices
    let k := (n - o).toNat + 1
    let b : State := { a with notices := { a.notices with held := held.drop k } }
    ((n - o).toNat < d →
        exec (.noticeAck seq n) s
          = .next (replied (if resendDue b then b.orderResend else b) seq 0x04 .ok (toLE 1 k ++ toLE 1 (d - k))))
      ∧ (d ≤ (n - o).toNat → 1 ≤ (o - n).toNat → (o - n).toNat ≤ 32768 →
          exec (.noticeAck seq n) s = .next (replied a seq 0x04 .ok (toLE 1 0 ++ toLE 1 d)))
      ∧ (d ≤ (n - o).toNat → ((o - n).toNat = 0 ∨ 32768 < (o - n).toNat) →
          exec (.noticeAck seq n) s
            = .next (replied a seq 0x04 .badValue
                (toLE 1 d
                  ++ (match held.head?, held.getLast? with
                      | some x, some y => 1 :: (toLE 2 x.number.toNat ++ toLE 2 y.number.toNat)
                      | _, _ => [0]))))

/-- MEMORY_INIT: refused with IN_USE in READY while a payload id is in use, refused with BAD_VALUE where a field of the
profile is outside its values, and accepted otherwise: the profile is loaded and the bring-up begins with step WAIT,
its end 200 ticks away. The model's choices: what the memory held is not kept (notes/assumptions/13.md), and the
refresh request is absent also where a refresh is IN_FLIGHT (notes/assumptions/15.md). -/
def Obligations.MemoryInitBeginsBringUp : Prop :=
  ∀ (seq : Byte) (p : ProfileBody) (s : State), attends s seq 0x10 = true →
    let a := txBegin s
    let inRange :=
      (p.rows.toNat = 2048 ∨ p.rows.toNat = 4096 ∨ p.rows.toNat = 8192)
        ∧ (p.policy.toNat = 0 ∨ p.policy.toNat = 1) ∧ 1000 ≤ p.interval.toNat
        ∧ 1 ≤ p.debtLimit.toNat ∧ p.debtLimit.toNat ≤ 8 ∧ 2 ≤ p.initRefreshes.toNat ∧ p.initRefreshes.toNat ≤ 16
        ∧ (p.latency.toNat = 2 ∨ p.latency.toNat = 3) ∧ (p.burst.toNat = 4 ∨ p.burst.toNat = 8)
    (s.device = .ready → s.store.directory ≠ [] →
        exec (.memoryInit seq p) s
          = .next (replied a seq 0x10 .inUse (toLE 2 s.store.directory.length)))
      ∧ (s.device ≠ .initializing → (s.device = .ready → s.store.directory = []) → ¬inRange →
          exec (.memoryInit seq p) s = .next (replied a seq 0x10 .badValue []))
      ∧ (s.device ≠ .initializing → (s.device = .ready → s.store.directory = []) → inRange →
          exec (.memoryInit seq p) s
            = .next (replied
                { a with
                  device := .initializing,
                  store := { a.store with pool := [] },
                  mc :=
                    { a.mc with
                      profile := some
                        { rows := p.rows.toNat, policy := if p.policy.toNat = 0 then .openRow else .closeRow,
                          interval := p.interval.toNat, debtLimit := p.debtLimit.toNat,
                          initRefreshes := p.initRefreshes.toNat, latency := p.latency.toNat,
                          burst := p.burst.toNat },
                      bringUp := some
                        { step := .wait, waitEnd := (s.time.elapsed + 200) % Config.elapsedModulus,
                          refreshes := 0 } },
                  refresh := { debt := 0, timer := .stopped, request := .absent },
                  mem := [] } seq 0x10 .accepted []))

/-- RESET: in every state in which it is attended to, its reply is built, stored and queued, the soft reset follows in
the order of its steps, and flushes that have nothing outstanding end in the same event. What the soft reset leaves:
the cue table empty; device time, its flags, the levels of the trigger lines, the bank table, the loaded profile in
READY, the frames that wait and the frame in transmission as they were. The payload store: SEALED payloads stay with
count 0, DOOMED ones are freed, and so are the FILLING ones with every chunk, the write request given up; while a write
is in column phase its chunk stays and the FILLING ones are listed, to be freed when it completes (the reading of R94
in notes/assumptions/22.md). What a soft reset does to one lane: a release is cut with cause RESET, its cue and its
release report dropped, a staged cue is unstaged, a flushing lane drops its cue, and a lane at rest is left as it is;
the settings stay, and each lane that gives its cue up gives its request up. ABORT shows in a period without a byte
(notes/assumptions/20.md). -/
def Obligations.SoftReset : Prop :=
  (∀ (seq : Byte) (s : State), attends s seq 0x03 = true →
     let a := txBegin s
     let after := if s.device = .initializing then .unconfigured else s.device
     let t := softReset (queueReply a seq 0x03 .ok [deviceStateCode after])
     let active := fun l : Fin 4 =>
       (s.lane l).state = .emitting ∨ (s.lane l).state = .staging ∨ (s.lane l).state = .primed
     exec (.reset seq) s = .next (concluded (fours.foldl endFlush t))
       ∧ t.cues = [] ∧ t.executing = none ∧ t.raised = []
       ∧ t.link = { (queueReply a seq 0x03 .ok [deviceStateCode after]).link with inbox := [], replies := [] }
       ∧ t.notices =
           { held := [{ number := 1, body := .restarted .soft, send := .due, again := false, lastSent := none }],
             next := 2 }
       ∧ t.device = after
       ∧ t.time = { s.time with slew := none }
       ∧ (∀ l, t.triggers.lines.get l
           = { s.triggers.lines.get l with mode := .off, notify := false, ring := [], gap := false })
       ∧ t.mem = s.mem ∧ t.inReset = false ∧ (∀ l, t.lane l = (resetLane s l).lane l)
       ∧ (s.device = .initializing → t.mc.profile = none ∧ t.mc.bringUp = none
           ∧ t.refresh = { debt := 0, timer := .stopped, request := .absent })
       ∧ (s.device ≠ .initializing → t.mc.profile = s.mc.profile ∧ t.refresh = s.refresh)
       ∧ t.mc.banks = s.mc.banks ∧ t.mc.portLeft = s.mc.portLeft ∧ t.mc.readReq = s.mc.readReq
       ∧ (∀ l, (active l → t.mc.laneReq.get l = none) ∧ (¬active l → t.mc.laneReq.get l = s.mc.laneReq.get l))
       ∧ (s.mc.port = none → t.mc.port = none)
       ∧ (∀ x, s.mc.port = some (.refresh x) → t.mc.port = some (.refresh x))
       ∧ (∀ c b, s.mc.port = some (.bringUp c b) →
           t.mc.port = some (.bringUp c (b || decide (s.device = .initializing))))
       ∧ (∀ x, s.mc.port = some (.transaction x) →
           let givenUp :=
             (∃ c, x.phase = .row c) ∧ (x.requester = .fill ∨ ∃ l, x.requester = .lane l ∧ active l)
           (givenUp → t.mc.port = some (.transaction { x with withdrawn := true }))
             ∧ (¬givenUp → t.mc.port = some (.transaction x)))
       ∧ (sortedKeys s.store.directory = true →
           let kept := fun keep : PayloadState → Bool =>
             (s.store.directory.filter (fun e => keep e.2.state)).map (fun e => (e.1, { e.2 with refs := 0 }))
           let blocks := fun st : PayloadState =>
             ((s.store.directory.filter (fun e => decide (e.2.state = st))).map (fun e => e.2.blocks)).flatten
           (inColumn s .fill = false →
               t.mc.fillReq = none
                 ∧ t.store =
                   { directory := kept (fun st => decide (st = .sealed)),
                     pool := s.store.pool ++ blocks .doomed ++ blocks .filling, chunks := [], leaving := [] })
             ∧ (inColumn s .fill = true →
                 t.mc.fillReq = s.mc.fillReq
                   ∧ t.store =
                     { directory := kept (fun st => decide (st ≠ .doomed)), pool := s.store.pool ++ blocks .doomed,
                       chunks := s.store.chunks.take 1,
                       leaving := (s.store.directory.filter (fun e => decide (e.2.state = .filling))).map Prod.fst })))
    ∧ (∀ (s : State) (l : Fin 4),
         let x := s.lane l
         let emptied : Lane :=
           { x with
             state := .flushing, held := none, buffer := [], verify := none, holdTimer := none, slotWaiting := false,
             slotIn := 0 }
         (x.state = .emitting →
             (resetLane s l).lane l
               = { emptied with
                   release := none, cutCause := some .reset, abortDue := x.pins.valid || x.abortDue,
                   pins := if x.pins.valid then x.pins else { Pins.idle with abort := true } })
           ∧ ((x.state = .staging ∨ x.state = .primed) → (resetLane s l).lane l = emptied)
           ∧ (x.state = .flushing → (resetLane s l).lane l = { x with held := none, release := none })
           ∧ ((x.state = .idle ∨ x.state = .stopped) → resetLane s l = s)
           ∧ (∀ m, m ≠ l → (resetLane s l).lane m = s.lane m))

/-! ### Payloads -/

/-- OPEN_PAYLOAD: accepted in READY alone; its tests in order; and the entry it opens, with its blocks taken from the
head of the pool. -/
def Obligations.OpenPayloadReserves : Prop :=
  ∀ (seq id : Byte) (len : BitVec 32) (s : State), attends s seq 0x20 = true →
    let a := txBegin s
    let n := (len.toNat + 2047) / 2048
    (s.device ≠ .ready →
        exec (.openPayload seq id len) s = .next (replied a seq 0x20 .notReady [deviceStateCode s.device]))
      ∧ (s.device = .ready → ∀ p, s.payload? id.toNat = some p →
          exec (.openPayload seq id len) s
            = .next (replied a seq 0x20 .inUse [payloadStateCode (some p.state)]))
      ∧ (s.device = .ready → s.payload? id.toNat = none → (len.toNat = 0 ∨ 16777216 < len.toNat) →
          exec (.openPayload seq id len) s = .next (replied a seq 0x20 .badValue []))
      ∧ (s.device = .ready → s.payload? id.toNat = none → 1 ≤ len.toNat → len.toNat ≤ 16777216 →
          s.store.pool.length < n →
          exec (.openPayload seq id len) s
            = .next (replied a seq 0x20 .noSpace (toLE 2 s.store.pool.length)))
      ∧ (s.device = .ready → s.payload? id.toNat = none → 1 ≤ len.toNat → len.toNat ≤ 16777216 →
          n ≤ s.store.pool.length →
          exec (.openPayload seq id len) s
            = .next (replied
                { a with
                  store :=
                    { a.store with
                      pool := s.store.pool.drop n,
                      directory := tput s.store.directory id.toNat
                        { state := .filling, length := len.toNat, blocks := s.store.pool.take n, fillOffset := 0,
                          running := 0, check := none, refs := 0, mismatch := false } } }
                seq 0x20 .ok
                (toLE 2 n ++ toLE 2 ((s.store.pool.take n).headD 0) ++ toLE 2 (s.store.pool.length - n))))

/-- PUT_DATA: its tests in order; a chunk that fits is taken when a slot of the fill buffer is free, the fill offset
rises, the running check is extended and a write is requested; with no slot free the request waits. -/
def Obligations.PutDataIsTaken : Prop :=
  ∀ (seq id : Byte) (off : BitVec 32) (data : List Byte) (s : State), s.device = .ready →
    1 ≤ data.length → data.length ≤ 1024 → attends s seq 0x21 = true →
    let a := txBegin s
    (s.payload? id.toNat = none →
        exec (.putData seq id off data) s = .next (replied a seq 0x21 .wrongState [0]))
      ∧ ∀ p, s.payload? id.toNat = some p →
          (p.state ≠ .filling →
              exec (.putData seq id off data) s
                = .next (replied a seq 0x21 .wrongState [payloadStateCode (some p.state)]))
            ∧ (p.state = .filling → off.toNat ≠ p.fillOffset →
                exec (.putData seq id off data) s
                  = .next (replied a seq 0x21 .outOfOrder (toLE 4 p.fillOffset)))
            ∧ (p.state = .filling → off.toNat = p.fillOffset → p.length < off.toNat + data.length →
                exec (.putData seq id off data) s
                  = .next (replied a seq 0x21 .tooLong (toLE 4 (p.length - p.fillOffset))))
            ∧ (p.state = .filling → off.toNat = p.fillOffset → off.toNat + data.length ≤ p.length →
                calm a a = true →
                (s.store.chunks.length < 4 →
                    let b := a.setPayload id.toNat
                      { p with
                        fillOffset := off.toNat + data.length, running := crc32Extend p.running data }
                    let t := placeFill
                      (b.setChunks
                        (s.store.chunks ++ [{ payload := id.toNat, offset := off.toNat, data := data, written := 0 }]))
                    exec (.putData seq id off data) s
                      = .next (concluded
                          (queueReply t seq 0x21 .ok (toLE 2 (off.toNat + data.length)))))
                  ∧ (4 ≤ s.store.chunks.length →
                      exec (.putData seq id off data) s
                        = .next (concluded
                            { a with
                              executing := some
                                { seq := seq, code := 0x21, wait := .putData id.toNat off.toNat data } })))

/-- SEAL_PAYLOAD: its tests in order; with no chunk of the payload left it is SEALED with its running check as its
check value, or freed with CHECK_MISMATCH where an expected check differs; with a chunk left the request waits. -/
def Obligations.SealPayloadCloses : Prop :=
  ∀ (seq id : Byte) (want : Option (BitVec 32)) (s : State), s.device = .ready → attends s seq 0x22 = true →
    let a := txBegin s
    (s.payload? id.toNat = none → exec (.sealPayload seq id want) s = .next (replied a seq 0x22 .wrongState [0]))
      ∧ ∀ p, s.payload? id.toNat = some p →
          (p.state ≠ .filling →
              exec (.sealPayload seq id want) s
                = .next (replied a seq 0x22 .wrongState [payloadStateCode (some p.state)]))
            ∧ (p.state = .filling → p.fillOffset ≠ p.length →
                exec (.sealPayload seq id want) s
                  = .next (replied a seq 0x22 .wrongState (1 :: toLE 4 p.fillOffset)))
            ∧ (p.state = .filling → p.fillOffset = p.length → calm a a = true →
                (holdsChunk s id.toNat = false → (want = none ∨ want = some p.running) →
                    exec (.sealPayload seq id want) s
                      = .next (concluded
                          (queueReply (a.setPayload id.toNat { p with state := .sealed, check := some p.running })
                            seq 0x22 .ok (toLE 4 p.running.toNat))))
                  ∧ (holdsChunk s id.toNat = false → (∃ k, want = some k ∧ k ≠ p.running) →
                      exec (.sealPayload seq id want) s
                        = .next (concluded
                            (queueReply (a.freePayload id.toNat) seq 0x22 .checkMismatch
                              (toLE 4 p.running.toNat))))
                  ∧ (holdsChunk s id.toNat = true →
                      exec (.sealPayload seq id want) s
                        = .next (concluded
                            { a with
                              executing := some { seq := seq, code := 0x22, wait := .seal id.toNat want } })))

/-- DELETE_PAYLOAD by the entry's state: a FREE id is refused, a SEALED payload is freed or becomes DOOMED, a DOOMED
one is left, and a FILLING one leaves the fill buffer with all its chunks and is freed. Where its head chunk has a
write request that waits or is in row phase, that request is given up and the new head's is made; where the write is in
column phase, that chunk stays and the request waits. -/
def Obligations.DeletePayload : Prop :=
  (∀ (seq id : Byte) (s : State), s.device = .ready → attends s seq 0x23 = true →
     let a := txBegin s
     (s.payload? id.toNat = none → exec (.deletePayload seq id) s = .next (replied a seq 0x23 .noSuch []))
       ∧ ∀ p, s.payload? id.toNat = some p →
           (p.state = .sealed → p.refs = 0 →
               let t : State :=
                 { a with
                   store :=
                     { a.store with
                       pool := s.store.pool ++ p.blocks, directory := tdel s.store.directory id.toNat,
                       leaving := s.store.leaving.filter (fun k => decide (k ≠ id.toNat)) } }
               exec (.deletePayload seq id) s = .next (answered a t seq 0x23 .ok [0]))
             ∧ (p.state = .sealed → 0 < p.refs →
                 let t := a.setPayload id.toNat { p with state := .doomed }
                 exec (.deletePayload seq id) s = .next (answered a t seq 0x23 .ok [3]))
             ∧ (p.state = .doomed → exec (.deletePayload seq id) s = .next (replied a seq 0x23 .ok [3]))
             ∧ (p.state = .filling → holdsChunk s id.toNat = false → calm a a = true →
                 exec (.deletePayload seq id) s
                   = .next (concluded (queueReply (a.freePayload id.toNat) seq 0x23 .ok [0])))
             ∧ (p.state = .filling → ∀ c rest, s.store.chunks = c :: rest → calm a a = true →
                 let others := rest.filter (fun k => decide (k.payload ≠ id.toNat))
                 (c.payload ≠ id.toNat →
                     exec (.deletePayload seq id) s
                       = .next (concluded
                           (queueReply ((a.setChunks (c :: others)).freePayload id.toNat) seq 0x23 .ok [0])))
                   ∧ (c.payload = id.toNat → inColumn s .fill = false →
                       exec (.deletePayload seq id) s
                         = .next (concluded
                             (queueReply ((placeFill ((giveUpRequest a .fill).setChunks others)).freePayload id.toNat)
                               seq 0x23 .ok [0])))))
    ∧ (∀ (seq id : Byte) (p : Payload) (c : Chunk) (rest : List Chunk) (s : State), s.device = .ready →
         attends s seq 0x23 = true → s.payload? id.toNat = some p → p.state = .filling →
         s.store.chunks = c :: rest → c.payload = id.toNat → inColumn s .fill = true →
         let a := txBegin s
         calm a a = true →
         exec (.deletePayload seq id) s
           = .next (heard
               { a with
                 store := { a.store with chunks := c :: rest.filter (fun k => decide (k.payload ≠ id.toNat)) },
                 executing := some { seq := seq, code := 0x23, wait := .delete id.toNat } }))

/-- READ_BACK: its tests in order; one that passes stays executing and its first read is requested, of at most 256
bytes within one block. -/
def Obligations.ReadBackBegins : Prop :=
  ∀ (seq id : Byte) (off : BitVec 32) (n : BitVec 16) (s : State), s.device = .ready → attends s seq 0x24 = true →
    let a := txBegin s
    ((n.toNat = 0 ∨ 1024 < n.toNat) →
        exec (.readBack seq id off n) s = .next (replied a seq 0x24 .badValue []))
      ∧ (1 ≤ n.toNat → n.toNat ≤ 1024 →
          (s.payload? id.toNat = none → exec (.readBack seq id off n) s = .next (replied a seq 0x24 .noSuch []))
            ∧ ∀ p, s.payload? id.toNat = some p →
                (p.state = .filling → exec (.readBack seq id off n) s = .next (replied a seq 0x24 .wrongState []))
                  ∧ (p.state ≠ .filling → p.length < off.toNat + n.toNat →
                      exec (.readBack seq id off n) s = .next (replied a seq 0x24 .badValue []))
                  ∧ (p.state ≠ .filling → off.toNat + n.toNat ≤ p.length → calm a a = true →
                      outstanding a .readBack = false →
                      ∀ b, p.blocks[off.toNat / 2048]? = some b →
                        exec (.readBack seq id off n) s
                          = .next (concluded
                              { a with
                                executing := some
                                  { seq := seq, code := 0x24,
                                    wait := .readBack p.blocks off.toNat n.toNat [] },
                                mc :=
                                  { a.mc with
                                    readReq := some
                                      { block := b, pos := off.toNat % 2048,
                                        size := min 256 (min n.toNat (2048 - off.toNat % 2048)) } } })))

/-! ### Cues -/

/-- The record that FILE_CUE writes: HELD with nothing counted, its filed fields as sent; and the values that test 4 of
the filing refuses: lane or priority or trigger line above 3, or an edge, late policy or report level without a name.
FILE_CUE is refused by the first of its tests that fails, and changes nothing else. -/
def Obligations.FileCueRefusals : Prop :=
  (∀ b : CueBody,
     ((cueOf b).isSome = true ↔
         b.lane.toNat ≤ 3 ∧ b.priority.toNat ≤ 3 ∧ b.latePolicy.toNat ≤ 1 ∧ b.report.toNat ≤ 2
           ∧ ∀ line edge offset, b.start = .trigger line edge offset → line.toNat ≤ 3 ∧ edge.toNat ≤ 2)
       ∧ ∀ c, cueOf b = some c →
           c.lane.val = b.lane.toNat ∧ c.payload = b.payload.toNat
             ∧ c.range = b.range.map (fun r => { offset := r.1.toNat, count := r.2.toNat })
             ∧ (∀ due, b.start = .time due → c.start = .time due.toNat)
             ∧ (∀ line edge offset, b.start = .trigger line edge offset →
                 ∃ l e, c.start = .trigger l e offset.toNat ∧ l.val = line.toNat ∧ cueEdgeCode e = edge)
             ∧ c.repeatCount = b.repeatCount.toNat ∧ c.period = b.period.toNat
             ∧ latePolicyCode c.late = b.latePolicy ∧ c.tolerance = b.tolerance.toNat
             ∧ c.priority = b.priority.toNat ∧ reportCode c.report = b.report
             ∧ c.options.verify = b.options.getLsbD 0 ∧ c.options.autoDiscard = b.options.getLsbD 1
             ∧ c.options.armNow = b.options.getLsbD 2
             ∧ c.state = .held ∧ c.due = none ∧ c.used = 0 ∧ c.skipped = 0 ∧ c.last = none ∧ c.endReason = none
             ∧ c.cut = .none)
    ∧ (∀ (seq : Byte) (b : CueBody) (s : State), s.device = .ready → b.cue.toNat < 64 → b.options.toNat < 8 →
         attends s seq 0x30 = true →
         let refused := fun st => exec (.fileCue seq b) s = .next (replied (txBegin s) seq 0x30 st [])
         ((s.cue? b.cue.toNat).isSome = true → refused .inUse)
           ∧ (s.cue? b.cue.toNat = none → s.payload? b.payload.toNat = none → refused .noSuch)
           ∧ ∀ p, s.cue? b.cue.toNat = none → s.payload? b.payload.toNat = some p →
               (p.state ≠ .sealed → refused .wrongState)
                 ∧ (p.state = .sealed →
                     (cueOf b = none → refused .badValue)
                       ∧ ∀ c, cueOf b = some c →
                           ((∃ r, c.range = some r ∧ (p.length ≤ r.offset ∨ r.count = 0 ∨ p.length < r.offset + r.count)) →
                               refused .badValue)
                             ∧ ((∃ r, c.range = some r ∧ c.options.verify = true ∧ (r.offset ≠ 0 ∨ r.count ≠ p.length)) →
                                 refused .badValue)
                             ∧ ((∃ l e o, c.start = .trigger l e o ∧ (o < 2 ∨ c.period ≠ 0)) → refused .badValue)
                             ∧ ((∃ d, c.start = .time d ∧ c.period < 10 ∧ (c.repeatCount = 1 → c.period ≠ 0)) →
                                 refused .badValue)
                             ∧ (fileValuesOk c p.length = true → c.options.armNow = true → ∀ d, c.start = .time d →
                                 (s.time.valid = false → refused .timeNotSet)
                                   ∧ (s.time.valid = true → d ≤ s.time.device → refused .pastDue))))

/-- FILE_CUE that passes its tests writes the record and raises the payload's reference count: HELD, or with ARM_NOW
ARMED at its filed due, or waiting for a trigger. A lane may pick the cue, or give another one back for it, in the same
event, after the reply is built: that the reply carries the state and the due from before the pick is the model's
reading (notes/assumptions/12.md). What an event then ends with in the lanes, the store and the port is spelled out in
LeadWindowEntered. -/
def Obligations.FileCueFiles : Prop :=
  ∀ (seq : Byte) (b : CueBody) (p : Payload) (c : Cue) (s : State), s.device = .ready → b.cue.toNat < 64 →
    b.options.toNat < 8 → attends s seq 0x30 = true → s.cue? b.cue.toNat = none →
    s.payload? b.payload.toNat = some p → p.state = .sealed → cueOf b = some c → fileValuesOk c p.length = true →
    let a := (txBegin s).setPayload b.payload.toNat { p with refs := p.refs + 1 }
    (c.options.armNow = false →
        let t := a.setCue b.cue.toNat c
        exec (.fileCue seq b) s = .next (answered (txBegin s) t seq 0x30 .ok [1, 0]))
      ∧ (∀ d, c.options.armNow = true → c.start = .time d → s.time.valid = true → s.time.device < d →
          let t := a.setCue b.cue.toNat { c with state := .armed, due := some d }
          exec (.fileCue seq b) s = .next (answered (txBegin s) t seq 0x30 .ok (2 :: 1 :: toLE 6 d)))
      ∧ (∀ l e o, c.options.armNow = true → c.start = .trigger l e o →
          let t := a.setCue b.cue.toNat { c with state := .triggerWait, armMoment := some s.triggers.recorded }
          exec (.fileCue seq b) s = .next (answered (txBegin s) t seq 0x30 .ok [3, 0]))

/-- ARM_CUE: a HELD TIME cue goes to ARMED at the new due, which replaces the filed one, or at the filed due; a HELD
TRIGGER cue goes to TRIGGER_WAIT, its arm moment now. A lane may pick the cue, or give another one back for it, in the
same event, after the reply is built: that the reply carries the state and the due from before the pick is the model's
reading (notes/assumptions/12.md). What an event then ends with in the lanes, the store and the port is spelled out in
LeadWindowEntered. Its refusals come in their order and change nothing else. -/
def Obligations.ArmCueArms : Prop :=
  ∀ (seq id : Byte) (new : Option (BitVec 48)) (s : State), s.device = .ready → id.toNat < 64 →
    attends s seq 0x31 = true →
    let a := txBegin s
    let refused := fun st => exec (.armCue seq id new) s = .next (replied a seq 0x31 st [])
    (s.cue? id.toNat = none → refused .noSuch)
      ∧ ∀ c, s.cue? id.toNat = some c →
          (c.state ≠ .held → refused .wrongState)
            ∧ (∀ filed, c.state = .held → c.start = .time filed →
                let d := (new.map BitVec.toNat).getD filed
                (s.time.valid = false → refused .timeNotSet)
                  ∧ (s.time.valid = true → d ≤ s.time.device → refused .pastDue)
                  ∧ (s.time.valid = true → s.time.device < d →
                      let t := a.setCue id.toNat
                        { c with state := .armed, due := some d, start := .time d, cut := .none, started := none }
                      exec (.armCue seq id new) s = .next (answered a t seq 0x31 .ok (2 :: 1 :: toLE 6 d))))
            ∧ (∀ l e o, c.state = .held → c.start = .trigger l e o →
                (new.isSome = true → refused .badValue)
                  ∧ (new = none →
                      let t := a.setCue id.toNat
                        { c with
                          state := .triggerWait, due := none, cut := .none, started := none,
                          armMoment := some s.triggers.recorded }
                      exec (.armCue seq id new) s = .next (answered a t seq 0x31 .ok [3, 0])))

/-- CANCEL_CUE of a cue that has not begun to release ends it CANCELLED at once: its payload reference falls, CUE_END
is raised, and with AUTO_DISCARD the slot is EMPTY; the lane of a STAGED cue is unstaged, and its flush ends in the
same event when it has nothing outstanding. An EMPTY slot and an ENDED cue are refused. CANCEL_CUE of a RELEASING cue
sets the cut disposition, cuts the release of its EMITTING lane with cause CANCEL, and waits: the buffer is emptied,
ABORT is shown in the first period without a byte (notes/assumptions/20.md), and the lane flushes. When that flush ends
in the same event, the reply carries the counts at the cue's end. A lane that flushes already goes on with its cut. A
lane whose flush ends may pick its next cue in the same event. What an event then ends with in the lanes, the store and
the port is spelled out in LeadWindowEntered. -/
def Obligations.CancelCue : Prop :=
  (∀ (seq id : Byte) (s : State), s.device = .ready → id.toNat < 64 → attends s seq 0x32 = true →
     (s.cue? id.toNat = none → exec (.cancelCue seq id) s = .next (replied (txBegin s) seq 0x32 .noSuch []))
       ∧ ∀ c, s.cue? id.toNat = some c →
           let ended := fun a : State =>
             let b := (a.dropRef c.payload).raise (.cueEnd id.toNat .cancelled c.used c.skipped)
             if c.options.autoDiscard then b.dropCue id.toNat
             else
               b.setCue id.toNat
                 { c with state := .ended, due := none, endReason := some .cancelled, cut := .none, started := none }
           (c.state = .ended →
               exec (.cancelCue seq id) s = .next (replied (txBegin s) seq 0x32 .wrongState []))
             ∧ ((c.state = .held ∨ c.state = .armed ∨ c.state = .triggerWait ∨ c.state = .pending) →
                 exec (.cancelCue seq id) s
                   = .next (answered (txBegin s) (ended (txBegin s)) seq 0x32 .ok
                       (toLE 2 c.used ++ toLE 2 c.skipped)))
             ∧ (c.state = .staged →
                 exec (.cancelCue seq id) s
                   = .next (answered (txBegin s) (ended (unstage (txBegin s) c.lane)) seq 0x32 .ok
                       (toLE 2 c.used ++ toLE 2 c.skipped)))
             ∧ (c.state = .staged → ((s.lane c.lane).state = .staging ∨ (s.lane c.lane).state = .primed) →
                 let t := ended (unstage (txBegin s) c.lane)
                 let u := pickFor (endFlush t c.lane) c.lane
                 laneLeads (txBegin s) t u c.lane = true →
                 exec (.cancelCue seq id) s
                   = .next (concluded (queueReply u seq 0x32 .ok (toLE 2 c.used ++ toLE 2 c.skipped)))))
    ∧ (∀ (seq id : Byte) (c : Cue) (s : State), s.device = .ready → id.toNat < 64 → attends s seq 0x32 = true →
         s.cue? id.toNat = some c → c.state = .releasing → (s.lane c.lane).state = .emitting →
         let a := txBegin s
         let x := s.lane c.lane
         let y : Lane :=
           { x with
             state := .flushing, buffer := [], verify := none, holdTimer := none, slotWaiting := false, slotIn := 0,
             cutCause := some .cancel, abortDue := if x.pins.valid then true else x.abortDue,
             pins := if x.pins.valid then x.pins else { Pins.idle with abort := true } }
         let b := giveUpRequest ((a.setCue id.toNat { c with cut := .cancel }).setLane c.lane y) (.lane c.lane)
         let t : State := { b with executing := some { seq := seq, code := 0x32, wait := .cancel id.toNat none } }
         let u := endFlush t c.lane
         let used := if c.repeatCount = 0 then min (c.used + 1) 65535 else c.used + 1
         exec (.cancelCue seq id) s = .next (finished a t)
           ∧ (∀ h, x.held = some h → h.cue = id.toNat → sortedKeys s.cues = true →
               outstanding t (.lane c.lane) = false → calm a u = true →
               exec (.cancelCue seq id) s
                 = .next (concluded (queueReply u seq 0x32 .ok (toLE 2 used ++ toLE 2 c.skipped)))))
    ∧ (∀ (seq id : Byte) (c : Cue) (s : State), s.device = .ready → id.toNat < 64 → attends s seq 0x32 = true →
         s.cue? id.toNat = some c → c.state = .releasing → (s.lane c.lane).state ≠ .emitting →
         let a := txBegin s
         let t : State :=
           { a.setCue id.toNat { c with cut := .cancel } with
             executing := some { seq := seq, code := 0x32, wait := .cancel id.toNat none } }
         exec (.cancelCue seq id) s = .next (finished a t))

/-- DISCARD_CUE: a HELD cue's slot becomes EMPTY and its payload reference falls, and a DOOMED payload that no cue
names any longer is freed; an ENDED cue's slot becomes EMPTY, an EMPTY slot is refused with NO_SUCH and a cue in any
other state with WRONG_STATE. -/
def Obligations.DiscardCueEmpties : Prop :=
  ∀ (seq id : Byte) (s : State), s.device = .ready → id.toNat < 64 → attends s seq 0x33 = true →
    let a := txBegin s
    (s.cue? id.toNat = none → exec (.discardCue seq id) s = .next (replied a seq 0x33 .noSuch []))
      ∧ ∀ c, s.cue? id.toNat = some c →
          (c.state = .held → ∀ p, s.payload? c.payload = some p →
              let t := (a.setPayload c.payload { p with refs := p.refs - 1 }).dropCue id.toNat
              exec (.discardCue seq id) s = .next (answered a t seq 0x33 .ok [])
                ∧ (p.state = .doomed → p.refs = 1 → settled a (t.freePayload c.payload) = true →
                    exec (.discardCue seq id) s = .next (replied (t.freePayload c.payload) seq 0x33 .ok [])))
            ∧ (c.state = .ended →
                exec (.discardCue seq id) s = .next (answered a (a.dropCue id.toNat) seq 0x33 .ok []))
            ∧ (c.state ≠ .held → c.state ≠ .ended →
                exec (.discardCue seq id) s = .next (replied a seq 0x33 .wrongState []))

/-- STOP_ALL: every ARMED, TRIGGER_WAIT, PENDING and STAGED cue goes to HELD without a due, every RELEASING cue gets
cut disposition STOP, and the lanes are unstaged or cut. With every lane at rest it replies at once with the cues it
moved; else the flushes that have nothing outstanding end in the same event, and it replies when every lane has come to
rest, with the cues it moved and those that went to HELD or ended since, or waits. What an event then ends with in the
lanes, the store and the port is spelled out in LeadWindowEntered. -/
def Obligations.StopAllStops : Prop :=
  ∀ (seq : Byte) (s : State), s.device = .ready → attends s seq 0x36 = true →
    let a := txBegin s
    let atOnce := fun c : Cue => c.state = .armed ∨ c.state = .triggerWait ∨ c.state = .pending ∨ c.state = .staged
    let b : State :=
      { a with
        cues := s.cues.map (fun e =>
          (e.1,
            if atOnce e.2 then { e.2 with state := .held, due := none, cut := .none, started := none }
            else if e.2.state = .releasing then { e.2 with cut := .stop }
            else e.2)) }
    let n := s.cues.countP (fun e => decide (atOnce e.2))
    (lanesAtRest s = true → calm a b = true →
        exec (.stopAll seq) s
          = .next (concluded (queueReply b seq 0x36 .ok (toLE 1 n ++ [0]))))
      ∧ (let t : State :=
          { fours.foldl stopLane b with
            executing := some { seq := seq, code := 0x36, wait := .stopAll n 0 } }
        let u := (fours.foldl endFlush t).freeDoomed
        exec (.stopAll seq) s = .next (finished a t)
          ∧ (calm a t = true → lanesAtRest t = false → exec (.stopAll seq) s = .next (concluded t))
          ∧ (laneInvariant s →
              ∃ held stopped,
                u.executing = some { seq := seq, code := 0x36, wait := .stopAll held stopped }
                  ∧ (lanesAtRest u = true →
                      exec (.stopAll seq) s
                        = .next (concluded (queueReply u seq 0x36 .ok (toLE 1 held ++ toLE 1 stopped))))
                  ∧ (lanesAtRest u = false → exec (.stopAll seq) s = .next (concluded u))))

/-! ### Device time -/

/-- SET_TIME: refused with IN_USE while a cue is ARMED, STAGED, PENDING or RELEASING; else device time is the value,
the time-valid flag is set, a slew ends without a notice, and the time-end flag follows the value, with TIME_END at the
maximum. SLEW_TIME: its tests in order; one that passes replaces any slew, whose remaining offset the reply carries,
and the next adjustment is a spacing away. -/
def Obligations.SetAndSlewTime : Prop :=
  (∀ (seq : Byte) (v : BitVec 48) (s : State), attends s seq 0x41 = true →
     let a := txBegin s
     let held := fun c : Cue => c.state = .armed ∨ c.state = .staged ∨ c.state = .pending ∨ c.state = .releasing
     ((∃ e ∈ s.cues, held e.2) → exec (.setTime seq v) s = .next (replied a seq 0x41 .inUse []))
       ∧ ((∀ e ∈ s.cues, ¬held e.2) →
           let t : State :=
             { a with
               time :=
                 { s.time with
                   device := v.toNat, valid := true, atEnd := decide (v.toNat = Config.maxTime), slew := none },
               raised := if v.toNat = Config.maxTime then [.timeEnd] else [] }
           exec (.setTime seq v) s = .next (replied t seq 0x41 .ok (toLE 6 v.toNat))))
    ∧ (∀ (seq : Byte) (k : BitVec 32) (sp : BitVec 16) (s : State), attends s seq 0x43 = true →
         let a := txBegin s
         let refused := fun st => exec (.slewTime seq k sp) s = .next (replied a seq 0x43 st [])
         ((k.toInt = 0 ∨ 1000000 < k.toInt.natAbs ∨ sp.toNat < 100) → refused .badValue)
           ∧ (k.toInt ≠ 0 → k.toInt.natAbs ≤ 1000000 → 100 ≤ sp.toNat →
               (s.time.valid = false → refused .timeNotSet)
                 ∧ (s.time.valid = true → s.time.atEnd = true → refused .badValue)
                 ∧ (s.time.valid = true → s.time.atEnd = false →
                     let t : State :=
                       { a with
                         time :=
                           { s.time with
                             slew := some
                               { remaining := k.toInt, spacing := sp.toNat,
                                 next := (s.time.elapsed + sp.toNat) % Config.elapsedModulus } } }
                     exec (.slewTime seq k sp) s
                       = .next (replied t seq 0x43 .ok
                           (match s.time.slew with
                             | some w => 1 :: toLE 4 (BitVec.ofInt 32 w.remaining).toNat
                             | none => [0])))))

/-- STEP_TIME: its tests in order, a backward step, and a forward step, which meets the time end first and then the
tests that a forward change makes on every cue (DuesAndTolerances). What an event then ends with in the lanes, the
store and the port is spelled out in LeadWindowEntered. -/
def Obligations.StepTimeSteps : Prop :=
  ∀ (seq : Byte) (k : BitVec 32) (s : State), attends s seq 0x42 = true →
    let a := txBegin s
    let v := ((s.time.device : Int) + k.toInt).toNat
    let refused := fun st => exec (.stepTime seq k) s = .next (replied a seq 0x42 st [])
    let moved : State := { a with time := { s.time with device := v, slew := none } }
    let b : State :=
      if v = Config.maxTime ∧ s.time.atEnd = false then
        { moved with time := { s.time with device := v, slew := none, atEnd := true }, raised := [.timeEnd] }
      else moved
    ((k.toInt = 0 ∨ 2147483647 < k.toInt.natAbs) → refused .badValue)
      ∧ (k.toInt ≠ 0 → k.toInt.natAbs ≤ 2147483647 →
          (s.time.valid = false → refused .timeNotSet)
            ∧ (s.time.valid = true →
                ((s.time.device : Int) + k.toInt < 0 ∨ (Config.maxTime : Int) < s.time.device + k.toInt) →
                refused .badValue)
            ∧ (s.time.valid = true → 0 ≤ (s.time.device : Int) + k.toInt →
                (s.time.device : Int) + k.toInt ≤ Config.maxTime →
                (k.toInt < 0 →
                    let t : State := { a with time := { s.time with device := v, slew := none, atEnd := false } }
                    exec (.stepTime seq k) s = .next (answered a t seq 0x42 .ok (toLE 6 v)))
                  ∧ (0 < k.toInt →
                      exec (.stepTime seq k) s = .next (answered a (forwardChange b) seq 0x42 .ok (toLE 6 v)))))

/-! ### Trigger lines and lane settings -/

/-- SET_TRIGGER replaces a line's edge mode and notify flag and nothing else of it; a line, a mode or a notify value
outside its values is refused. READ_STAMPS removes the oldest stamps of a line, as many as asked or as there are, and
answers them oldest first with the gap flag as it stood, which is then cleared. -/
def Obligations.TriggerRequests : Prop :=
  (∀ (seq line mode notify : Byte) (s : State), attends s seq 0x44 = true →
     let a := txBegin s
     ((4 ≤ line.toNat ∨ 4 ≤ mode.toNat ∨ 2 ≤ notify.toNat) →
         exec (.setTrigger seq line mode notify) s = .next (replied a seq 0x44 .badValue []))
       ∧ ∀ (l : Fin 4) (m : EdgeMode) (n : Bool), line.toNat = l.val → edgeModeOf mode = some m →
           notify.toNat = n.toNat →
           exec (.setTrigger seq line mode notify) s
             = .next (replied (a.setLine l { s.triggers.lines.get l with mode := m, notify := n }) seq 0x44 .ok []))
    ∧ (∀ (seq line n : Byte) (s : State), attends s seq 0x45 = true →
         let a := txBegin s
         ((4 ≤ line.toNat ∨ n.toNat = 0 ∨ 8 < n.toNat) →
             exec (.readStamps seq line n) s = .next (replied a seq 0x45 .badValue []))
           ∧ ∀ l : Fin 4, line.toNat = l.val → 1 ≤ n.toNat → n.toNat ≤ 8 →
               let x := s.triggers.lines.get l
               exec (.readStamps seq line n) s
                 = .next (replied (a.setLine l { x with ring := x.ring.drop n.toNat, gap := false }) seq 0x45 .ok
                     (toLE 1 (min n.toNat x.ring.length)
                       ++ ((x.ring.take n.toNat).map (fun p => toLE 6 p.time ++ [stampEdgeCode p.edge])).flatten
                       ++ [flagByte x.gap])))

/-- SET_LANE: its tests in order; a request that passes replaces the five settings, an enabled lane is IDLE and takes
its first candidate, another is STOPPED, and the reply carries the lane's state. That this is the state after the pick
of the same event is the model's choice (notes/assumptions/12.md). What an event then ends with in the lanes, the store
and the port is spelled out in LeadWindowEntered. -/
def Obligations.SetLaneConfigures : Prop :=
  ∀ (seq lane : Byte) (b : LaneBody) (s : State), attends s seq 0x50 = true →
    let a := txBegin s
    let refused := fun st => exec (.setLane seq lane b) s = .next (replied a seq 0x50 st [])
    let outOfRange :=
      2 ≤ b.enabled.toNat ∨ b.pace.toNat = 0 ∨ b.leadWindow.toNat < 20 ∨ b.startThreshold.toNat < 32
        ∨ 2048 < b.startThreshold.toNat
    ((4 ≤ lane.toNat ∨ outOfRange) → refused .badValue)
      ∧ ∀ l : Fin 4, lane.toNat = l.val → ¬outOfRange →
          ((s.lane l).state ≠ .idle → (s.lane l).state ≠ .stopped → refused .laneBusy)
            ∧ ((s.lane l).state = .idle ∨ (s.lane l).state = .stopped →
                (pendingQueue s l ≠ [] → refused .laneBusy)
                  ∧ (pendingQueue s l = [] →
                      let set := a.setLane l
                        { s.lane l with
                          config :=
                            { enabled := decide (b.enabled.toNat = 1), pace := b.pace.toNat,
                              leadWindow := b.leadWindow.toNat, startThreshold := b.startThreshold.toNat,
                              holdLimit := b.holdLimit.toNat },
                          state := if b.enabled.toNat = 1 then .idle else .stopped }
                      let t := pickFor set l
                      (b.enabled.toNat = 0 → t = set)
                        ∧ (candidate set l = none → t = set)
                        ∧ exec (.setLane seq lane b) s
                          = .next (answered a t seq 0x50 .ok [laneStateCode (t.lane l).state])))

/-! ### The link -/

/-- A well-formed REQUEST that arrives on an ON line is sorted, whether the interpreter is free or not: one whose seq
is in progress (it waits, executes, or its executed reply has not begun to leave) is dropped; one with a stored reply
is answered from the reply memory, once; with four waiting it is answered INBOX_FULL, where the prompt list has room;
else it joins the inbox. That an equal frame in the prompt list counts as a copy of the same stored reply is the model's
reading (notes/assumptions/26.md). The event then ends on the link, where a free interpreter takes its next request
(TransmitterOrder): while a request executes, and while an executed reply waits, it takes none. An ARMING line accepts
no start bit, so there nothing arrives. -/
def Obligations.RequestArrivalIsSorted : Prop :=
  ∀ (seq : Byte) (body : List Byte) (s : State), s.inReset = false → body ≠ [] → body.length ≤ 1040 →
    let a := setFramer (txBegin s) .hunt
    let code := byteAt body 0
    let full : Frame := { frameType := 0x11, seq := seq, body := [code, 0x1E] }
    let waits := ∃ f, QueuedReply.executed f ∈ a.link.replyQueue
    let arrives := fun u : State =>
      exec (.requestArrival seq body) s = .next (ended u)
        ∧ ((s.executing.isSome = true ∨ waits) → exec (.requestArrival seq body) s = .next (heard u))
    let prompted := fun f : Frame => ({ a with link := { a.link with prompt := a.link.prompt ++ [f] } } : State)
    let busy :=
      (∃ e ∈ a.link.inbox, e.seq = seq) ∨ (∃ e, a.executing = some e ∧ e.seq = seq)
        ∨ (∃ f, QueuedReply.executed f ∈ a.link.replyQueue ∧ f.seq = seq)
    let stored := fun e : StoredReply => e ∈ a.link.replies ∧ e.seq = seq ∧ e.code = code
    (s.link.line = .arming → exec (.requestArrival seq body) s = .next s)
      ∧ (s.link.line = .on → busy → arrives a)
      ∧ (s.link.line = .on → ¬busy →
          (∀ older e newer, a.link.replies = older ++ e :: newer → (∀ x ∈ older, ¬stored x) → stored e →
              ((e.frame ∈ a.link.prompt ∨ 4 ≤ a.link.prompt.length) → arrives a)
                ∧ (e.frame ∉ a.link.prompt → a.link.prompt.length < 4 → arrives (prompted e.frame)))
            ∧ ((∀ e, ¬stored e) → 4 ≤ a.link.inbox.length →
                (a.link.prompt.length < 4 → arrives (prompted full)) ∧ (4 ≤ a.link.prompt.length → arrives a))
            ∧ ((∀ e, ¬stored e) → a.link.inbox.length < 4 →
                arrives
                  { a with link := { a.link with inbox := a.link.inbox ++ [{ seq := seq, body := body }] } }))

/-- A SYNC that arrives on an ON line empties the inbox and the reply memory. With no request executing its SYNC_DONE
joins the reply queue, in place of one that waits, and every held notice is brought to DUE; while one executes it is
kept as the pending SYNC. A pending SYNC with no request executing is answered: its SYNC_DONE joins the reply queue in
place of one that waits, every held notice is brought to DUE, and the pending SYNC is absent. On an ARMING line no SYNC
arrives. Without a pending SYNC nothing takes place (the model's choice, notes/assumptions/6.md). -/
def Obligations.SyncIsAnswered : Prop :=
  (∀ (seq : Byte) (s : State), s.inReset = false →
     let a := setFramer (txBegin s) .hunt
     (s.link.line = .arming → exec (.syncArrival seq) s = .next s)
       ∧ (s.link.line = .on → s.executing = none →
         exec (.syncArrival seq) s
           = .next (heard
               { a with
                 link :=
                   { a.link with
                     inbox := [], replies := [],
                     replyQueue := a.link.replyQueue.filter QueuedReply.isExecuted ++ [.syncDone seq] },
                 notices := { a.notices with held := a.notices.held.map Notice.resend } }))
       ∧ (s.link.line = .on → s.executing.isSome = true →
           exec (.syncArrival seq) s
             = .next (heard { a with link := { a.link with inbox := [], replies := [], pendingSync := some seq } })))
    ∧ (∀ s : State, s.inReset = false →
         let a := txBegin s
         (∀ q, s.executing = none → s.link.pendingSync = some q →
             exec .syncDoneDeferred s
               = .next (ended
                   { a with
                     link :=
                       { a.link with
                         pendingSync := none,
                         replyQueue := a.link.replyQueue.filter QueuedReply.isExecuted ++ [.syncDone q] },
                     notices := { a.notices with held := a.notices.held.map Notice.resend } }))
           ∧ ((s.executing.isSome = true ∨ s.link.pendingSync = none) → exec .syncDoneDeferred s = .next s))

/-- A complete frame on an ON line that is not well-formed is discarded: a wrong check, a type that the host does not
send, a REQUEST with an empty body, a SYNC with a body. Nothing but the framer changes. A partial frame is discarded
when 2,000 ticks have passed since its last byte, and at a line fault while the line is ON. On an ARMING line neither a
frame nor a fault does anything. RECEIVE_LINE_ON makes the line ON. That PARTIAL_FRAME_TIMEOUT does nothing before its
time is the model's choice (notes/assumptions/6.md). -/
def Obligations.FramesDiscarded : Prop :=
  (∀ (type seq : Byte) (body : List Byte) (check : BitVec 16) (s : State), s.inReset = false →
     (check ≠ crc16 (type :: seq :: toLE 2 body.length ++ body) ∨ (type ≠ 0x01 ∧ type ≠ 0x02)
       ∨ (type = 0x01 ∧ body = []) ∨ (type = 0x02 ∧ body ≠ [])) →
     (s.link.line = .arming → exec (.badFrame type seq body check) s = .next s)
       ∧ (s.link.line = .on →
           exec (.badFrame type seq body check) s
             = .next (ended
                 { txBegin s with link := { (txBegin s).link with framer := .hunt, gapTimer := none } })))
    ∧ (∀ s : State, s.inReset = false →
         let t := ended { txBegin s with link := { (txBegin s).link with framer := .hunt, gapTimer := none } }
         (∀ t0, s.link.gapTimer = some t0 →
             (2000 ≤ elapsedSince s t0 → exec .partialFrameTimeout s = .next t)
               ∧ (elapsedSince s t0 < 2000 → exec .partialFrameTimeout s = .next s))
           ∧ (s.link.gapTimer = none → exec .partialFrameTimeout s = .next s)
           ∧ (s.link.line = .on → exec .lineFault s = .next t)
           ∧ (s.link.line = .arming → exec .lineFault s = .next s)
           ∧ exec .receiveLineOn s
               = .next (ended { txBegin s with link := { (txBegin s).link with line := .on } }))

/-- A free transmitter begins the first frame it finds: the head of the prompt list, then the head of the reply queue,
then the oldest DUE notice, which becomes SENDING; with nothing waiting it stays free. The last character of a frame
ends: the transmitter is free, and a notice that is SENDING is SENT at the present elapsed time, or DUE where it is to
go again. At the end of every event the interpreter takes the inbox head where no request executes and no executed
reply waits: the request leaves the inbox and is executed. So it is where an executed reply begins transmission with
requests waiting; and a request that is attended to as it arrives is executed by the same rule. The requests that wait
behind a request do not change what it does and stay as they are, but that GET_STATE reports their number and RESET
removes them. FRAME_TRANSMIT_START at a busy transmitter and FRAME_TRANSMIT_END with no frame in transmission do
nothing: the model's choice (notes/assumptions/6.md). The body of a notice in bytes, kind by kind. TXD is high with no
frame in transmission; in one, its bytes follow one another, each a low start bit, eight data bits from the least
significant one, and a high stop bit (notes/assumptions/29.md places them in time). -/
def Obligations.TransmitterOrder : Prop :=
  (∀ s : State, s.inReset = false →
     let sending := fun (u : State) (f : Frame) => ({ u with link := { u.link with tx := some ⟨f, 0⟩ } } : State)
     let begins := fun u : State =>
       exec .frameTransmitStart s = .next (ended u)
         ∧ (s.raised = [] → takesNothing s = true → exec .frameTransmitStart s = .next u)
     (s.link.tx = none →
         (∀ f rest, s.link.prompt = f :: rest →
             begins (sending { s with link := { s.link with prompt := rest } } f))
           ∧ (∀ f rest, s.link.prompt = [] → s.link.replyQueue = .executed f :: rest →
               begins (sending { s with link := { s.link with replyQueue := rest } } f))
           ∧ (∀ q rest, s.link.prompt = [] → s.link.replyQueue = .syncDone q :: rest →
               begins (sending { s with link := { s.link with replyQueue := rest } }
                 { frameType := 0x13, seq := q, body := [] }))
           ∧ (∀ n before after, s.link.prompt = [] → s.link.replyQueue = [] →
               s.notices.held = before ++ n :: after → (∀ x ∈ before, x.send ≠ .due) → n.send = .due →
               begins (sending
                 { s with
                   notices :=
                     { s.notices with held := before ++ { n with send := .sending, again := false } :: after } }
                 { frameType := 0x12, seq := n.number.setWidth 8,
                   body := noticeKindCode n.body :: (toLE 2 n.number.toNat ++ noticeContents n.body) }))
           ∧ (s.link.prompt = [] → s.link.replyQueue = [] → (∀ x ∈ s.notices.held, x.send ≠ .due) → begins s))
       ∧ (s.link.tx.isSome = true → exec .frameTransmitStart s = .next s))
    ∧ (∀ s : State, s.inReset = false →
         (∀ t, s.link.tx = some t →
             (t.frame.frameType ≠ 0x12 →
                 exec .frameTransmitEnd s = .next (ended { s with link := { s.link with tx := none } }))
               ∧ (t.frame.frameType = 0x12 →
                   exec .frameTransmitEnd s
                     = .next (ended
                         { s with
                           link := { s.link with tx := none },
                           notices :=
                             { s.notices with held := s.notices.held.map (fun n => n.sent s.time.elapsed) } })))
           ∧ (s.link.tx = none → exec .frameTransmitEnd s = .next s))
    ∧ (∀ u : State,
         let v := heard u
         let waits := ∃ f, QueuedReply.executed f ∈ v.link.replyQueue
         (takesNothing u = true → ended u = v) ∧ (waits → ended u = v)
           ∧ (∀ e rest, u.executing = none → u.link.inbox = e :: rest → ¬waits →
               let t := (execute { v with link := { v.link with inbox := rest } } e.seq e.body).offerRaised
               ended u = ended t ∧ (v.link.tx.isSome = true → ended u = t)))
    ∧ (∀ (s : State) (f : Frame) (replies : List QueuedReply) (e : InboxEntry) (rest : List InboxEntry),
         s.inReset = false → s.raised = [] → s.link.tx = none → s.link.prompt = [] →
         s.link.replyQueue = .executed f :: replies → (∀ g, QueuedReply.executed g ∉ replies) → s.executing = none →
         s.link.inbox = e :: rest →
         let v : State :=
           { s with link := { s.link with tx := some ⟨f, 0⟩, replyQueue := replies, inbox := rest } }
         exec .frameTransmitStart s = .next (execute v e.seq e.body).offerRaised
           ∧ ∀ r : Req, rest = [] → e.body = encodeBody r → e.body.length ≤ 1040 → attends v e.seq r.code = true →
               exec .frameTransmitStart s = exec (r.command e.seq) v)
    ∧ (∀ (r : Req) (seq : Byte) (s : State), (encodeBody r).length ≤ 1040 → attends s seq r.code = true →
         exec (r.command seq) s = .next (heard (execute (txBegin s) seq (encodeBody r))))
    ∧ (∀ (s : State) (q : List InboxEntry) (seq : Byte) (body : List Byte),
         let behind := fun (u : State) => ({ u with link := { u.link with inbox := q } } : State)
         let alone : State := { s with link := { s.link with inbox := [] } }
         (body ≠ [0x02] → body ≠ [0x03] → execute (behind s) seq body = behind (execute alone seq body))
           ∧ execute (behind s) seq [0x03] = execute alone seq [0x03]
           ∧ (s.link.pendingSync = none →
               execute (behind s) seq [0x02]
                 = queueReply (behind s) seq 0x02 .ok
                     ([deviceStateCode s.device, flagByte s.time.valid]
                       ++ toLE 1 (64 - s.cues.length)
                       ++ ([CueState.held, .armed, .triggerWait, .staged, .pending, .releasing, .ended].map (fun st =>
                           BitVec.ofNat 8 (s.cues.countP (fun e => decide (e.2.state = st)))))
                       ++ toLE 2 s.store.pool.length ++ toLE 1 s.notices.held.length ++ toLE 1 q.length)))
    ∧ (∀ b : NoticeBody,
         noticeKindCode b :: noticeContents b
           = match b with
             | .restarted .pin => [0x01, 0]
             | .restarted .soft => [0x01, 1]
             | .memoryReady n => 0x02 :: toLE 2 n
             | .cueStart id start late => 0x10 :: (toLE 1 id ++ toLE 6 start ++ toLE 6 late)
             | .cueOccurrence id r late fault n lateness used =>
               0x11 :: (toLE 1 id ++ [resultCode r, BitVec.ofNat 8 (late.toNat + 2 * fault.toNat)] ++ toLE 4 n
                 ++ toLE 6 lateness ++ toLE 2 used)
             | .cueSkipped id n none => 0x12 :: (toLE 1 id ++ [0] ++ toLE 2 n)
             | .cueSkipped id n (some due) => 0x12 :: (toLE 1 id ++ [1] ++ toLE 2 n ++ toLE 6 due)
             | .cueEnd id r used skipped => 0x13 :: (toLE 1 id ++ [endReasonCode r] ++ toLE 2 used ++ toLE 2 skipped)
             | .triggerEdge l e time => 0x20 :: (toLE 1 l.val ++ [stampEdgeCode e] ++ toLE 6 time)
             | .slewDone => [0x30]
             | .timeEnd => [0x31]
             | .overflow => [0x3F])
    ∧ (∀ s : State,
         (s.link.tx = none → txd s = true)
           ∧ ∀ t, s.link.tx = some t →
               let i := t.clocks * Config.lineRate.bitsPerSecond / 100000000
               ((frameBytes t.frame).length ≤ i / 10 → txd s = true)
                 ∧ ∀ b, (frameBytes t.frame)[i / 10]? = some b →
                     (i % 10 = 0 → txd s = false) ∧ (i % 10 = 9 → txd s = true)
                       ∧ (1 ≤ i % 10 → i % 10 ≤ 8 → txd s = b.getLsbD (i % 10 - 1)))

/-- The resend timer: when 100,000 ticks have passed since the oldest notice was SENT, every held notice is brought to
DUE. That NOTICE_RESEND_EXPIRY does nothing before that, and while the oldest is not SENT, is the model's choice
(notes/assumptions/6.md). -/
def Obligations.ResendTimer : Prop :=
  ∀ s : State, s.inReset = false →
    (∀ n rest t0, s.notices.held = n :: rest → n.send = .sent → n.lastSent = some t0 →
        (100000 ≤ elapsedSince s t0 →
            exec .noticeResendExpiry s
              = .next (ended
                  { txBegin s with
                    notices :=
                      { (txBegin s).notices with held := (txBegin s).notices.held.map Notice.resend } }))
          ∧ (elapsedSince s t0 < 100000 → exec .noticeResendExpiry s = .next s))
      ∧ (∀ n rest, s.notices.held = n :: rest → n.send ≠ .sent → exec .noticeResendExpiry s = .next s)
      ∧ (s.notices.held = [] → exec .noticeResendExpiry s = .next s)

/-- A raised notice at the queue: discarded while OVERFLOW is held, replaced by OVERFLOW where 31 are held, and joined
at the tail under the next number otherwise. The notices of one event are offered those of no cue first, then by rising
cue id, and those of one cue in the order in which they were raised; a CUE_SKIPPED keeps its next due where its cue
leaves the event in ARMED or PENDING and has none otherwise, as where its lane has picked it. What a resend order does
to one held notice, and the end of its frame: DUE stays DUE; SENDING is marked to go again; SENT becomes DUE; a frame's
end makes SENDING SENT at the present elapsed time, or DUE where it is to go again. -/
def Obligations.NoticesJoinAndGo : Prop :=
  (∀ (q : NoticeQueue) (b : NoticeBody),
     let joined := fun x : NoticeBody =>
       ({ held := q.held ++ [{ number := q.next, body := x, send := .due, again := false, lastSent := none }],
          next := q.next + 1 } : NoticeQueue)
     ((∃ n ∈ q.held, n.body = .overflow) → q.offer b = q)
       ∧ ((∀ n ∈ q.held, n.body ≠ .overflow) → 31 ≤ q.held.length → q.offer b = joined .overflow)
       ∧ ((∀ n ∈ q.held, n.body ≠ .overflow) → q.held.length < 31 → q.offer b = joined b))
    ∧ (∀ s : State,
         let place : NoticeBody → Nat := fun b =>
           match b with
           | .cueStart id _ _ | .cueOccurrence id _ _ _ _ _ _ | .cueSkipped id _ _ | .cueEnd id _ _ _ => id + 1
           | _ => 0
         let left : NoticeBody → NoticeBody := fun b =>
           match b with
           | .cueSkipped id n due =>
             .cueSkipped id n
               (if ∃ c, s.cue? id = some c ∧ (c.state = .armed ∨ c.state = .pending) then due else none)
           | b => b
         ∃ order : List NoticeBody,
           s.offerRaised = { s with notices := order.foldl NoticeQueue.offer s.notices, raised := [] }
             ∧ order.Pairwise (fun a b => place a ≤ place b)
             ∧ ∀ k, order.filter (fun b => decide (place b = k))
                 = (s.raised.filter (fun b => decide (place b = k))).map left)
    ∧ (∀ (n : Notice) (now : Nat),
         (n.send = .due → n.resend = n ∧ n.sent now = n)
           ∧ (n.send = .sending → n.resend = { n with again := true }
               ∧ (n.again = false → n.sent now = { n with send := .sent, lastSent := some now })
               ∧ (n.again = true → n.sent now = { n with send := .due, again := false }))
           ∧ (n.send = .sent → n.resend = { n with send := .due, lastSent := none } ∧ n.sent now = n))

/-- A byte received on an ON line that completes no frame moves the framer by its state and restarts the gap timer, or
stops it in HUNT; an ARMING line receives none. -/
def Obligations.ByteMovesTheFramer : Prop :=
  ∀ (b : Byte) (s : State), s.inReset = false →
    let a := txBegin s
    let goes := fun f : Framer =>
      exec (.byteReceived b) s
        = .next (ended
            { a with
              link :=
                { a.link with framer := f, gapTimer := if f = .hunt then none else some s.time.elapsed } })
    (s.link.line = .arming → exec (.byteReceived b) s = .next (ended a))
      ∧ (s.link.line = .on →
          (s.link.framer = .hunt → goes (if b = 0xC5 then .type else .hunt))
            ∧ (s.link.framer = .type → goes (.seq b))
            ∧ (∀ t, s.link.framer = .seq t → goes (.lengthLow t b))
            ∧ (∀ t q, s.link.framer = .lengthLow t q → goes (.lengthHigh t q b))
            ∧ (∀ t q low, s.link.framer = .lengthHigh t q low →
                let n := low.toNat + 256 * b.toNat
                goes (if 1040 < n then .hunt else if n = 0 then .checkLow t q [] else .body t q n []))
            ∧ (∀ t q n bytes, s.link.framer = .body t q n bytes →
                goes (if bytes.length + 1 < n then .body t q n (bytes ++ [b]) else .checkLow t q (bytes ++ [b])))
            ∧ (∀ t q bytes, s.link.framer = .checkLow t q bytes → goes (.checkHigh t q bytes b)))

/-- A frame received byte by byte is its arrival: from a framer in HUNT on an ON line, in a part whose link has nothing
to do, the bytes of a REQUEST frame do what REQUEST_ARRIVAL does, and those of a SYNC frame what SYNC_ARRIVAL does.
That a request made by name is the arrival of its frame at a framer in HUNT is the model's choice
(notes/assumptions/7.md). -/
def Obligations.FramesAndNames : Prop :=
  (∀ (seq : Byte) (body : List Byte) (s : State), s.inReset = false → s.raised = [] → s.link.line = .on →
     s.link.framer = .hunt → s.link.gapTimer = none → txBegin s = s → (takesNothing s = true ∨ replyWaits s = true) →
     (body ≠ [] → body.length ≤ 1040 →
         receiveAll (frameBytes { frameType := 0x01, seq := seq, body := body }) s
           = exec (.requestArrival seq body) s)
       ∧ receiveAll (frameBytes { frameType := 0x02, seq := seq, body := [] }) s = exec (.syncArrival seq) s)
    ∧ (∀ (r : Req) (seq : Byte) (s : State), s.link.framer = .hunt → s.link.gapTimer = none →
         exec (r.command seq) s = exec (.requestArrival seq (encodeBody r)) s)

/-! ### Ticks -/

/-- A tick with no slew adjustment: elapsed time and device time rise by 1, device time by none during the time end;
the maximum raises TIME_END and ends a slew; and a rise is followed by the tests that a forward change makes. The time
end: with device time at its maximum and the flag false, the flag becomes true, a slew ends without a notice, and
TIME_END is raised. That the command TIME_END does nothing else is the model's choice (notes/assumptions/6.md). A
forward change that reaches no due, outlasts no tolerance and meets no start leaves the part as it is. What an event
ends with in the lanes, the store and the port is spelled out in LeadWindowEntered. -/
def Obligations.TickCounts : Prop :=
  (∀ s : State, s.inReset = false →
     let a := txBegin s
     let becomes := fun (i : Instr) (t : State) => exec i s = .next (finished a t)
     let next := (s.time.elapsed + 1) % Config.elapsedModulus
     let still : State := { a with time := { s.time with elapsed := next, phase := 0 } }
     let risen : State := { a with time := { s.time with elapsed := next, phase := 0, device := s.time.device + 1 } }
     let ended : State :=
       { a with
         time := { s.time with elapsed := next, phase := 0, device := Config.maxTime, atEnd := true, slew := none },
         raised := s.raised ++ [.timeEnd] }
     (s.time.atEnd = true → becomes .tick still)
       ∧ (s.time.atEnd = false → (∀ w, s.time.slew = some w → w.next ≠ next) →
           (s.time.device + 1 < Config.maxTime → becomes .tick (forwardChange risen))
             ∧ (s.time.device + 1 = Config.maxTime → becomes .tick (forwardChange ended))))
    ∧ (∀ s : State, s.inReset = false →
         let a := txBegin s
         let t : State :=
           { a with time := { s.time with atEnd := true, slew := none }, raised := s.raised ++ [.timeEnd] }
         (s.time.device = Config.maxTime → s.time.atEnd = false → exec .timeEnd s = .next (finished a t))
           ∧ ((s.time.device ≠ Config.maxTime ∨ s.time.atEnd = true) → exec .timeEnd s = .next s))
    ∧ (∀ s : State,
         (∀ id c, s.cue? id = some c →
           (c.state = .armed → s.time.device < c.due.getD 0)
             ∧ ((c.state = .staged ∨ c.state = .pending) → c.late = .skip → s.time.device ≤ c.due.getD 0 + c.tolerance)) →
         (∀ l, startDue s l = none) → forwardChange s = s)

/-- The tick in which a slew adjustment falls: a positive one raises device time by 2, a negative one leaves it; the
offset left moves toward 0 and the next adjustment is a spacing away; at 0 the slew ends with SLEW_DONE. A positive one
that reaches the maximum stops there: SLEW_DONE where the offset left is 0, then TIME_END, and no slew goes on. With no
adjustment due in the next tick, SLEW_ADJUSTMENT does nothing (the model's choice, notes/assumptions/6.md). -/
def Obligations.SlewAdjusts : Prop :=
  ∀ (w : Slew) (s : State), s.inReset = false → s.time.slew = some w →
    let a := txBegin s
    let becomes := fun t : State =>
      exec .slewAdjustment s = .next (finished a t) ∧ exec .tick s = .next (finished a t)
    let next := (s.time.elapsed + 1) % Config.elapsedModulus
    let left := if 0 < w.remaining then w.remaining - 1 else w.remaining + 1
    let slewed : Option Slew :=
      if left = 0 then none
      else some { w with remaining := left, next := (w.next + w.spacing) % Config.elapsedModulus }
    let t := fun rise : Nat =>
      ({ a with
         time := { s.time with elapsed := next, phase := 0, device := s.time.device + rise, slew := slewed },
         raised := if left = 0 then s.raised ++ [.slewDone] else s.raised } : State)
    let ended : State :=
      { t 0 with
        time := { s.time with elapsed := next, phase := 0, device := Config.maxTime, atEnd := true, slew := none },
        raised := (t 0).raised ++ [.timeEnd] }
    (w.next = next → s.time.atEnd = false →
        (w.remaining < 0 → becomes (t 0))
          ∧ (0 < w.remaining → s.time.device + 2 < Config.maxTime → becomes (forwardChange (t 2)))
          ∧ (0 < w.remaining → s.time.device < Config.maxTime → Config.maxTime ≤ s.time.device + 2 →
              becomes (forwardChange ended)))
      ∧ ((w.next ≠ next ∨ s.time.atEnd = true) → exec .slewAdjustment s = .next s)

/-! ### Dues, tolerances and occurrences -/

/-- The due of an ARMED cue is reached: on a STOPPED lane its occurrence ends SKIPPED_LANE_STOPPED, a SKIP cue past its
tolerance ends it SKIPPED_LATE, and else the cue goes to PENDING with its due kept; an IDLE lane then picks in the same
event, a lane with a staged cue whose due lies ahead gives it back and flushes, and where the staged cue's due has been
reached, or in EMITTING and FLUSHING, the lane stays as it is. At the due of a STAGED cue its lane tests the start. A
cue in another state, or a due that lies ahead, is left alone. The tolerance of a SKIP cue runs out before its start: a
PENDING cue's occurrence ends SKIPPED_LATE, and so does a STAGED cue's, whose lane is unstaged; where no read of the
lane is in column phase the flush ends and the lane picks in the same event. Before that, and for a SEND_LATE cue, the
command does nothing; that these commands do nothing then is the model's choice (notes/assumptions/6.md). A forward
change of device time does all of this to every cue, by rising id, and then each lane with a cue still staged tests its
start. What an event then ends with in the lanes, the store and the port is spelled out in LeadWindowEntered. -/
def Obligations.DuesAndTolerances : Prop :=
  (∀ (id : Fin 64) (c : Cue) (d : Nat) (s : State), s.inReset = false → s.cue? id = some c → c.due = some d →
     let a := txBegin s
     let l := c.lane
     let x := s.lane l
     let becomes := fun (i : Instr) (t : State) =>
       exec i s = .next (finished a t)
     let leads := fun (i : Instr) (t u : State) => laneLeads a t u l = true → exec i s = .next (concluded u)
     (d ≤ s.time.device →
         (c.state = .armed →
             (x.state = .stopped → becomes (.dueReached id) (endSkipped a id c .skippedLaneStopped))
               ∧ (x.state ≠ .stopped → c.late = .skip → d + c.tolerance < s.time.device →
                   becomes (.dueReached id) (endSkipped a id c .skippedLate))
               ∧ (x.state ≠ .stopped → (c.late = .sendLate ∨ s.time.device ≤ d + c.tolerance) →
                   let t := a.setCue id { c with state := .pending, due := some d, cut := .none, started := none }
                   becomes (.dueReached id) t
                     ∧ (x.state = .idle → leads (.dueReached id) t (pickFor t l))
                     ∧ ((x.state = .emitting ∨ x.state = .flushing) → leads (.dueReached id) t t)
                     ∧ (∀ h c0 d0, (x.state = .staging ∨ x.state = .primed) → x.held = some h → h.cue ≠ id →
                         s.cue? h.cue = some c0 → c0.due = some d0 →
                         (d0 ≤ s.time.device → leads (.dueReached id) t t)
                           ∧ (s.time.device < d0 →
                               let v := unstage (t.setCue h.cue
                                 { c0 with state := .armed, due := some d0, cut := .none, started := none }) l
                               leads (.dueReached id) t (pickFor (endFlush v l) l)))))
           ∧ (c.state = .staged →
               let t := tryStart a l
               becomes (.dueReached id) t ∧ leads (.dueReached id) t (pickFor t l)))
       ∧ (((c.state ≠ .armed ∧ c.state ≠ .staged) ∨ s.time.device < d) → exec (.dueReached id) s = .next s)
       ∧ (c.late = .skip → d + c.tolerance < s.time.device →
           (c.state = .pending → becomes (.toleranceExpiry id) (endSkipped a id c .skippedLate))
             ∧ (c.state = .staged →
                 let t := endSkipped (unstage a l) id c .skippedLate
                 becomes (.toleranceExpiry id) t ∧ leads (.toleranceExpiry id) t (pickFor (endFlush t l) l)))
       ∧ ((c.late = .sendLate ∨ s.time.device ≤ d + c.tolerance ∨ (c.state ≠ .pending ∧ c.state ≠ .staged)) →
           exec (.toleranceExpiry id) s = .next s))
    ∧ (∀ (id : Fin 64) (s : State), s.inReset = false →
         (s.cue? id = none → exec (.dueReached id) s = .next s)
           ∧ (∀ c, s.cue? id = some c → c.state ≠ .armed → c.state ≠ .staged → exec (.dueReached id) s = .next s))
    ∧ (∀ s : State, sortedKeys s.cues = true →
        let now := s.time.device
        let one : State → Nat × Cue → State := fun u e =>
          let d := e.2.due.getD 0
          let expired := e.2.late = .skip ∧ d + e.2.tolerance < now
          match e.2.state with
          | .armed =>
            if d ≤ now then
              if (s.lane e.2.lane).state = .stopped then endSkipped u e.1 e.2 .skippedLaneStopped
              else if expired then endSkipped u e.1 e.2 .skippedLate
              else u.setCue e.1 { e.2 with state := .pending, due := some d, cut := .none, started := none }
            else u
          | .staged => if expired then endSkipped (unstage u e.2.lane) e.1 e.2 .skippedLate else u
          | .pending => if expired then endSkipped u e.1 e.2 .skippedLate else u
          | _ => u
        forwardChange s = fours.foldl tryStart (s.cues.foldl one s))

/-- What ends an occurrence by skipping: it is counted and recorded, and the cue is ended COMPLETED at its repeat
count, waits again for its trigger, or takes its next due, ARMED ahead of device time, PENDING where it is already
reached, HELD past the last time. What ends a released occurrence: it is counted and recorded with its start report,
CUE_OCCURRENCE is raised but at END_ONLY, and the cut disposition, then the repeat count, then the start kind decide
the cue's next state. A TIME cue's further occurrences that are skipped in the event (GroupedSkipping counts them) are
counted with it, the last of them is recorded, and one CUE_SKIPPED tells their number, at most 65,535, with the next
due, which it loses where the cue leaves the event in another state than ARMED or PENDING (NoticesJoinAndGo). That
CUE_OCCURRENCE comes before CUE_SKIPPED is the model's choice (notes/assumptions/32.md). What a cue's end does to its
payload and its slot, and what a waiting CANCEL_CUE or STOP_ALL counts. -/
def Obligations.OccurrencesEnd : Prop :=
  (∀ (s : State) (id : Nat) (c : Cue) (r : OccResult) (d : Nat), c.due = some d →
     let up := fun v : Nat => if c.repeatCount = 0 then min (v + 1) 65535 else v + 1
     let c1 : Cue :=
       { c with
         used := up c.used, skipped := up c.skipped,
         last := some
           { result := r, late := false, checkFault := false, startTime := none, lateness := s.time.device - d,
             bytes := 0 } }
     let reported := fun next : Option Nat => if c.report = .endOnly then s else s.raise (.cueSkipped id 1 next)
     let done := c.repeatCount ≠ 0 ∧ c1.used = c.repeatCount
     (done → endSkipped s id c r = endCue (reported none) id c1 .completed)
       ∧ (¬done → (∃ l e o, c.start = .trigger l e o) →
           endSkipped s id c r = (reported none).setCue id (c1.toTriggerWait s.triggers.recorded))
       ∧ (¬done → (∃ f, c.start = .time f) → s.time.device < d + c.period →
           (d + c.period ≤ Config.maxTime →
               endSkipped s id c r
                 = (reported (some (d + c.period))).setCue id (c1.toArmed (d + c.period)))
             ∧ (Config.maxTime < d + c.period → endSkipped s id c r = (reported none).setCue id c1.toHeld)))
    ∧ (∀ (s : State) (id : Nat) (c : Cue) (r : OccResult) (late fault : Bool) (n : Nat) (rep : StartReport),
         c.started = some rep →
         let c1 : Cue :=
           { c with
             used := if c.repeatCount = 0 then min (c.used + 1) 65535 else c.used + 1,
             last := some
               { result := r, late := late, checkFault := fault, startTime := some rep.time, lateness := rep.lateness,
                 bytes := n } }
         let s1 :=
           if c.report = .endOnly then s else s.raise (.cueOccurrence id r late fault n rep.lateness c1.used)
         let done := c.repeatCount ≠ 0 ∧ c1.used = c.repeatCount
         let next := c.due.getD 0 + c.period
         (c.cut = .cancel →
             endReleased s id c r late fault n = endCue (noteCancelled s1 id c1) id c1 .cancelled)
           ∧ (c.cut = .stop → done → endReleased s id c r late fault n = endCue (noteStopped s1 true) id c1 .stopped)
           ∧ (c.cut = .stop → ¬done →
               endReleased s id c r late fault n = (noteStopped s1 false).setCue id c1.toHeld)
           ∧ (c.cut = .none → done → endReleased s id c r late fault n = endCue s1 id c1 .completed)
           ∧ (c.cut = .none → ¬done → (∃ l e o, c.start = .trigger l e o) →
               endReleased s id c r late fault n = s1.setCue id (c1.toTriggerWait s.triggers.recorded))
           ∧ (c.cut = .none → ¬done → (∃ f, c.start = .time f) → s.time.device < next → next ≤ Config.maxTime →
               endReleased s id c r late fault n = s1.setCue id (c1.toArmed next)))
    ∧ (∀ (s : State) (id : Nat) (c : Cue) (d : Nat), c.due = some d → (∃ f, c.start = .time f) →
         let now := s.time.device
         let up := fun v k : Nat => if c.repeatCount = 0 then min (v + k) 65535 else v + k
         let goesTo := fun (u : State) (c1 : Cue) (r : OccResult) (k n : Nat) =>
           let c2 : Cue :=
             if k = 0 then c1
             else
               { c1 with
                 used := up c1.used k, skipped := up c1.skipped k,
                 last := some
                   { result := r, late := false, checkFault := false, startTime := none,
                     lateness := now - (d + k * c.period), bytes := 0 } }
           let next := d + (k + 1) * c.period
           let told := fun due : Option Nat =>
             if n + k = 0 ∨ c.report = .endOnly then u else u.raise (.cueSkipped id (min (n + k) 65535) due)
           if c.repeatCount ≠ 0 ∧ c2.used = c.repeatCount then endCue (told none) id c2 .completed
           else if Config.maxTime < next then (told none).setCue id c2.toHeld
           else if now < next then (told (some next)).setCue id (c2.toArmed next)
           else (told (some next)).setCue id (c2.toPending next)
         (∀ r : OccResult, r = .skippedLate ∨ r = .skippedLaneStopped →
             let c1 : Cue :=
               { c with
                 used := up c.used 1, skipped := up c.skipped 1,
                 last := some
                   { result := r, late := false, checkFault := false, startTime := none, lateness := now - d,
                     bytes := 0 } }
             let k :=
               if r = .skippedLaneStopped then c1.stoppedSkips (d + c.period) now
               else if c.late = .skip then c1.groupedSkips (d + c.period) now
               else 0
             ¬(c.repeatCount ≠ 0 ∧ c1.used = c.repeatCount) → endSkipped s id c r = goesTo s c1 r k 1)
           ∧ (∀ (r : OccResult) (late fault : Bool) (n : Nat) (rep : StartReport), c.started = some rep → c.cut = .none →
               let c1 : Cue :=
                 { c with
                   used := up c.used 1,
                   last := some
                     { result := r, late := late, checkFault := fault, startTime := some rep.time,
                       lateness := rep.lateness, bytes := n } }
               let s1 :=
                 if c.report = .endOnly then s else s.raise (.cueOccurrence id r late fault n rep.lateness c1.used)
               let k := if c.late = .skip then c1.groupedSkips (d + c.period) now else 0
               ¬(c.repeatCount ≠ 0 ∧ c1.used = c.repeatCount) →
                 endReleased s id c r late fault n = goesTo s1 c1 .skippedLate k 0))
    ∧ (∀ (s : State) (id : Nat) (c : Cue) (why : EndReason),
         let u := (s.dropRef c.payload).raise (.cueEnd id why c.used c.skipped)
         endCue s id c why
           = if c.options.autoDiscard then u.dropCue id
             else
               u.setCue id
                 { c with state := .ended, due := none, endReason := some why, cut := .none, started := none })
    ∧ (∀ (s : State) (id : Nat) (c : Cue) (ended : Bool),
         (∀ seq code, s.executing = some { seq := seq, code := code, wait := .cancel id none } →
             noteCancelled s id c
               = { s with
                   executing := some { seq := seq, code := code, wait := .cancel id (some (c.used, c.skipped)) } })
           ∧ ((∀ seq code, s.executing ≠ some { seq := seq, code := code, wait := .cancel id none }) →
               noteCancelled s id c = s)
           ∧ (∀ seq code held stopped, s.executing = some { seq := seq, code := code, wait := .stopAll held stopped } →
               noteStopped s ended
                 = { s with
                     executing := some
                       { seq := seq, code := code,
                         wait := if ended then .stopAll held (stopped + 1) else .stopAll (held + 1) stopped } })
           ∧ ((∀ seq code held stopped,
                 s.executing ≠ some { seq := seq, code := code, wait := .stopAll held stopped }) →
               noteStopped s ended = s))
    ∧ (∀ (c : Cue) (d n : Nat),
         c.toHeld = { c with state := .held, due := none, cut := .none, started := none }
           ∧ c.toArmed d = { c with state := .armed, due := some d, cut := .none, started := none }
           ∧ c.toPending d = { c with state := .pending, due := some d, cut := .none, started := none }
           ∧ c.toTriggerWait n
             = { c with state := .triggerWait, due := none, cut := .none, started := none, armMoment := some n })

/-- Grouped skipping in closed form drops exactly the occurrences that one after another would be dropped: those whose
due plus tolerance is earlier than device time, or on a STOPPED lane those already reached, as far as the repeat count
allows. -/
def Obligations.GroupedSkipping : Prop :=
  ∀ (c : Cue) (x now j : Nat), 0 < c.period →
    (j < c.groupedSkips x now ↔
        x + j * c.period + c.tolerance < now ∧ (c.repeatCount = 0 ∨ c.used + j < c.repeatCount))
      ∧ (j < c.stoppedSkips x now ↔ x + j * c.period ≤ now ∧ (c.repeatCount = 0 ∨ c.used + j < c.repeatCount))

/-- The due list holds the ARMED cues by due, then id, and a lane's pending queue its PENDING cues by priority, highest
first, then due, then id; a lane's first candidate is the head of its pending queue, else its first cue of the due list
within the lead window. A pick: an IDLE lane stages its first candidate, takes its block list, range and check value,
and requests its first bytes. A restage: a lane with a staged cue whose due is later than device time gives it back,
ARMED with its due, and flushes, when an evaluation finds a cue of the lane that has entered PENDING, or an ARMED one
within the lead window with a strictly earlier due; with an equal or later due, or once the staged cue's own due has
been reached, it stays. A staged cue that a backward STEP_TIME has carried ahead of device time again may be displaced:
the model's choice (notes/assumptions/34.md), and so is that a cue which is PENDING from an earlier event does not
displace it then (notes/assumptions/36.md). That an evaluation is found by comparing the states before and after the
event is deduced (notes/assumptions/10.md). What every event ends with: each lane ends its flush, restages and picks;
every DOOMED payload that no cue names is freed, by rising id; the executing request ends if it can; the arbiter tests
for a grant; that order is the model's choice (notes/assumptions/11.md). The due of an ARMED cue comes within its
lane's lead window: the lane evaluates with it. That LEAD_WINDOW_ENTRY does nothing outside the window or for a cue
that is not ARMED is the model's choice (notes/assumptions/6.md). -/
def Obligations.LeadWindowEntered : Prop :=
  (∀ (s : State) (l : Fin 4), sortedKeys s.cues = true →
     let due := fun e : Nat × Cue => e.2.due.getD 0
     let sooner := fun a b : Nat × Cue => due a < due b ∨ (due a = due b ∧ a.1 < b.1)
     let before := fun a b : Nat × Cue =>
       b.2.priority < a.2.priority ∨ (a.2.priority = b.2.priority ∧ sooner a b)
     let within := fun e : Nat × Cue =>
       e.2.lane = l ∧ due e ≤ s.time.device + (s.lane l).config.leadWindow
     ((dueList s).Perm (s.cues.filter (fun e => decide (e.2.state = .armed))) ∧ (dueList s).Pairwise sooner)
       ∧ ((pendingQueue s l).Perm (s.cues.filter (fun e => decide (e.2.state = .pending ∧ e.2.lane = l)))
           ∧ (pendingQueue s l).Pairwise before)
       ∧ (∀ e rest, pendingQueue s l = e :: rest → candidate s l = some e)
       ∧ (pendingQueue s l = [] →
           (∀ e ahead rest, dueList s = ahead ++ e :: rest → (∀ x ∈ ahead, ¬within x) → within e →
               candidate s l = some e)
             ∧ ((∀ e ∈ dueList s, ¬within e) → candidate s l = none)))
    ∧ (∀ (s : State) (l : Fin 4),
         let x := s.lane l
         (∀ id c p, x.state = .idle → candidate s l = some (id, c) → s.payload? c.payload = some p →
             let off := (c.range.map Range.offset).getD 0
             let y : Lane :=
               { x with
                 state := .staging,
                 held := some
                   { cue := id, payload := c.payload, blocks := p.blocks, offset := off,
                     count := (c.range.map Range.count).getD p.length,
                     check := if c.options.verify then p.check else none },
                 buffer := [], fetchPos := off, fetched := 0, emitted := 0,
                 verify := if c.options.verify then some 0xFFFFFFFF else none, release := none, cutCause := none,
                 holdTimer := none, slotWaiting := false, slotIn := 0 }
             pickFor s l = placeLaneRead ((s.setCue id { c with state := .staged }).setLane l y) l)
           ∧ ((x.state ≠ .idle ∨ candidate s l = none) → pickFor s l = s))
    ∧ (∀ (s0 s : State) (l : Fin 4),
         let x := s.lane l
         (∀ h c d, (x.state = .staging ∨ x.state = .primed) → x.held = some h → s.cue? h.cue = some c → c.due = some d →
             let within := fun (u : State) (e : Nat × Cue) => e.2.due.getD 0 ≤ u.time.device + x.config.leadWindow
             let entered := fun e : Nat × Cue =>
               ∀ c0, s0.cue? e.1 = some c0 → c0.state ≠ e.2.state ∨ c0.due ≠ e.2.due
             let evaluation := ∃ e ∈ s.cues, e.2.lane = l
               ∧ ((e.2.state = .pending ∧ entered e)
                 ∨ (e.2.state = .armed ∧ (entered e ∨ (within s e ∧ ¬within s0 e))))
             let found := ∃ e ∈ s.cues, e.2.lane = l
               ∧ ((e.2.state = .pending ∧ entered e)
                 ∨ (e.2.state = .armed ∧ within s e ∧ e.2.due.getD 0 < d))
             (s.time.device < d → evaluation → found →
                 restage s0 s l
                   = unstage (s.setCue h.cue
                       { c with state := .armed, due := some d, cut := .none, started := none }) l)
               ∧ ((d ≤ s.time.device ∨ ¬evaluation ∨ ¬found) → restage s0 s l = s))
           ∧ (x.state ≠ .staging → x.state ≠ .primed → restage s0 s l = s)
           ∧ settleLane s0 s l = pickFor (endFlush (restage s0 (endFlush s l) l) l) l
           ∧ coreTail s0 s = arbitrate (resume (fours.foldl (settleLane s0) s).freeDoomed)
           ∧ (goesOn s0 s = true → finished s0 s = concluded s)
           ∧ (∀ u, (u = settleLane s0 s l ∨ u = pickFor (endFlush s l) l) → laneLeads s0 s u l = true →
               finished s0 s = concluded u)
           ∧ (settled s0 s = true → ∀ seq code st res, answered s0 s seq code st res = replied s seq code st res))
    ∧ (∀ s : State, sortedKeys s.store.directory = true →
         let gone := fun e : Nat × Payload => decide (e.2.state = .doomed ∧ e.2.refs = 0)
         let went := s.store.directory.filter gone
         s.freeDoomed
           = { s with
               store :=
                 { s.store with
                   pool := s.store.pool ++ (went.map (fun e => e.2.blocks)).flatten,
                   directory := s.store.directory.filter (fun e => !gone e),
                   leaving := s.store.leaving.filter (fun k => decide (k ∉ went.map Prod.fst)) } })
    ∧ (∀ (id : Fin 64) (c : Cue) (d : Nat) (s : State), s.inReset = false → sortedKeys s.cues = true →
         s.cue? id = some c → c.state = .armed → c.due = some d →
         let a := txBegin s
         let l := c.lane
         let x := s.lane l
         let becomes := fun t : State =>
           exec (.leadWindowEntry id) s = .next (finished a t)
         (d ≤ s.time.device + x.config.leadWindow →
             (x.state = .idle → becomes (pickFor a l))
               ∧ (x.state = .flushing → becomes (pickFor (endFlush a l) l))
               ∧ ((x.state = .emitting ∨ x.state = .stopped) → becomes a)
               ∧ (∀ h c0 d0, (x.state = .staging ∨ x.state = .primed) → x.held = some h → h.cue ≠ id →
                   s.cue? h.cue = some c0 → c0.due = some d0 →
                   (s.time.device < d0 → d < d0 →
                       let t := unstage (a.setCue h.cue
                         { c0 with state := .armed, due := some d0, cut := .none, started := none }) l
                       becomes (pickFor (endFlush t l) l))
                     ∧ ((d0 ≤ s.time.device
                         ∨ ∀ e ∈ s.cues, e.2.lane = l → e.2.state = .armed →
                             e.2.due.getD 0 ≤ s.time.device + x.config.leadWindow → d0 ≤ e.2.due.getD 0) →
                         becomes a)))
           ∧ (s.time.device + x.config.leadWindow < d → exec (.leadWindowEntry id) s = .next s))
    ∧ (∀ (id : Fin 64) (s : State), (∀ c, s.cue? id = some c → c.state ≠ .armed) →
         exec (.leadWindowEntry id) s = .next s)

/-! ### Trigger lines -/

/-- A sample of a trigger line: without an edge, or with one that the mode does not record, only the level is kept; a
recorded edge joins the ring, the oldest of 8 leaving with the gap flag set, raises TRIGGER_EDGE where notify is set,
and releases the cues that wait for it to ARMED at the stamp plus their offset. A lane may pick such a cue, or give
another one back for it, in the same event: what an event ends with in the lanes, the store and the port is spelled out
in LeadWindowEntered. -/
def Obligations.TriggerLineSampled : Prop :=
  ∀ (l : Fin 4) (level : Bool) (s : State), s.inReset = false →
    let a := txBegin s
    let becomes := fun t : State =>
      exec (.triggerEdge l level) s = .next (finished a t)
    let x := s.triggers.lines.get l
    let kind : StampEdge := if level then .rising else .falling
    let kept := a.setLine l { x with level := some level }
    let n := s.triggers.recorded + 1
    let stamped : State :=
      { a with
        triggers :=
          { lines := s.triggers.lines.set l
              { x with
                level := some level,
                ring := x.ring.drop (x.ring.length - 7) ++ [{ time := s.time.device, edge := kind }],
                gap := x.gap || decide (8 ≤ x.ring.length) },
            recorded := n },
        raised := if x.notify then s.raised ++ [.triggerEdge l kind s.time.device] else s.raised,
        cues := s.cues.map (fun e =>
          if e.2.releasedBy l { time := s.time.device, edge := kind } n then
            (e.1,
              { e.2 with
                state := .armed, due := some (s.time.device + e.2.triggerOffset), cut := .none, started := none })
          else e) }
    (x.level ≠ some (!level) → becomes kept)
      ∧ (x.level = some (!level) → x.mode.records kind = false → becomes kept)
      ∧ (x.level = some (!level) → x.mode.records kind = true → becomes stamped)
      ∧ (∀ (c : Cue) (e : CueEdge) (o : Nat), c.start = .trigger l e o →
          (c.releasedBy l { time := s.time.device, edge := kind } n = true ↔
            c.state = .triggerWait ∧ (e = .either ∨ (e = .rising ∧ level = true) ∨ (e = .falling ∧ level = false))
              ∧ c.armMoment.getD 0 ≤ s.triggers.recorded ∧ s.time.device + o ≤ Config.maxTime))

/-! ### Lanes -/

/-- The start of a staged cue whose due is reached, whose start level is buffered and whose line is not held: the cue
is RELEASING with its start report, CUE_START is raised at START_EACH, the lane is EMITTING with its release and LATE
flag, and the first byte leaves; the lane then requests its next bytes. A range of one byte shows START and END
together, and its occurrence ends SENT in the same event, in which the lane may pick its next cue (LeadWindowEntered).
Without these conditions a test of the start changes nothing; that RELEASE_START then does nothing is the model's
choice (notes/assumptions/6.md). -/
def Obligations.ReleaseStarts : Prop :=
  ∀ (l : Fin 4) (s : State), s.inReset = false →
    let a := txBegin s
    let becomes := fun t : State =>
      exec (.releaseStart l) s = .next (finished a t)
    let x := s.lane l
    (∀ h c d b rest, x.held = some h → s.cue? h.cue = some c → c.due = some d →
        (x.state = .staging ∨ x.state = .primed) → d ≤ s.time.device →
        min x.config.startThreshold h.count ≤ x.buffer.length → x.hold = false → x.buffer = b :: rest →
        x.emitted = 0 →
        let now := s.time.device
        let c1 : Cue := { c with state := .releasing, started := some { time := now, lateness := now - d } }
        let u := a.setCue h.cue c1
        let v := if c.report = .startEach then u.raise (.cueStart h.cue now (now - d)) else u
        (1 < h.count →
            let t := placeLaneRead
              (v.setLane l
                { x with
                  state := .emitting,
                  release := some { start := now, lateness := now - d, late := decide (c.tolerance < now - d) },
                  buffer := rest, emitted := 1, slotWaiting := false, slotIn := x.config.pace,
                  pins := { valid := true, data := b, start := true, last := false, abort := false } }) l
            tryStart a l = t ∧ becomes t)
          ∧ (h.count = 1 →
              let fault := checkFaultFlag h.check x.verify
              let w := if fault then markMismatch v h.payload else v
              let t := endReleased
                (w.setLane l
                  { x with
                    state := .idle, held := none, release := none, verify := none, holdTimer := none, buffer := rest,
                    emitted := 1, slotWaiting := false, slotIn := 0,
                    pins := { valid := true, data := b, start := true, last := true, abort := false } })
                h.cue c1 .sent (decide (c.tolerance < now - d)) fault 1
              tryStart a l = t ∧ becomes t
                ∧ (laneLeads a t (pickFor t l) l = true →
                    exec (.releaseStart l) s = .next (concluded (pickFor t l)))))
      ∧ (let rests := tryStart a l = a ∧ exec (.releaseStart l) s = .next s
        (x.state ≠ .staging → x.state ≠ .primed → rests)
          ∧ (x.hold = true → rests)
          ∧ ∀ h, x.held = some h →
              (x.buffer.length < min x.config.startThreshold h.count → rests)
                ∧ ∀ c d, s.cue? h.cue = some c → c.due = some d → s.time.device < d → rests)

/-- A byte slot of an EMITTING lane. Held, the byte waits, also where nothing is buffered (the model's reading,
notes/assumptions/24.md). With a byte buffered before the END byte, it leaves with its START mark, the fill falls by
one, and the next request is tested; at the END byte the occurrence ends SENT with its comparison made. With nothing
buffered the release is cut UNDERRUN, and where no read of the lane is in column phase the flush ends and the cut is
reported in the same event. A lane that has come to rest may pick its next cue in that event (LeadWindowEntered). That
BYTE_SLOT of another lane does nothing is the model's choice (notes/assumptions/6.md). -/
def Obligations.ByteSlotComes : Prop :=
  ∀ (l : Fin 4) (s : State), s.inReset = false →
    let a := txBegin s
    let x := s.lane l
    let becomes := fun t : State => exec (.byteSlot l) s = .next (finished a t)
    let leads := fun t u : State => laneLeads a t u l = true → exec (.byteSlot l) s = .next (concluded u)
    (x.state ≠ .emitting → exec (.byteSlot l) s = .next s)
      ∧ (x.state = .emitting →
          (x.hold = true → becomes (a.setLane l { x with slotWaiting := true, slotIn := 0 }))
            ∧ (x.hold = false → x.buffer = [] →
                let t := cutLane a l .underrun
                becomes t ∧ leads t (pickFor (endFlush t l) l))
            ∧ ∀ h b rest, x.hold = false → x.held = some h → x.buffer = b :: rest →
                (x.emitted + 1 < h.count →
                    becomes (placeLaneRead
                      (a.setLane l
                        { x with
                          buffer := rest, emitted := x.emitted + 1, slotWaiting := false, slotIn := x.config.pace,
                          pins :=
                            { valid := true, data := b, start := decide (x.emitted = 0), last := false,
                              abort := false } }) l))
                  ∧ ∀ c, x.emitted + 1 = h.count → s.cue? h.cue = some c →
                      let fault := checkFaultFlag h.check x.verify
                      let u := if fault then markMismatch a h.payload else a
                      let t := endReleased
                        (u.setLane l
                          { x with
                            state := .idle, held := none, release := none, verify := none, holdTimer := none,
                            buffer := rest, emitted := h.count, slotWaiting := false, slotIn := 0,
                            pins :=
                              { valid := true, data := b, start := decide (x.emitted = 0), last := true,
                                abort := false } })
                        h.cue c .sent ((x.release.map Release.late).getD false) fault h.count
                      becomes t ∧ leads t (pickFor t l))

/-- A cut of an EMITTING lane: the buffer is emptied, the accumulator and the hold timer go, ABORT is shown now or in
the first period without a byte (notes/assumptions/20.md), the cue and its release are kept but at a soft reset, the
lane is FLUSHING, and its request is given up; a lane that is not EMITTING is not cut. An unstaging does the same
without cause or ABORT and drops the cue. Giving a request up: one that waits at the arbiter is removed, one in its row
phase is withdrawn, one in its column phase goes on, and every other request is as it was. -/
def Obligations.CutAndUnstage : Prop :=
  (∀ (s : State) (l : Fin 4) (cause : CutCause),
     let x := s.lane l
     (x.state = .emitting →
         cutLane s l cause
           = giveUpRequest
               (s.setLane l
                 { x with
                   state := .flushing, held := if cause = .reset then none else x.held,
                   release := if cause = .reset then none else x.release, buffer := [], verify := none,
                   holdTimer := none, slotWaiting := false, slotIn := 0, cutCause := some cause,
                   abortDue := x.pins.valid || x.abortDue,
                   pins := if x.pins.valid then x.pins else { Pins.idle with abort := true } })
               (.lane l))
       ∧ (x.state ≠ .emitting → cutLane s l cause = s)
       ∧ ((x.state = .staging ∨ x.state = .primed) →
           unstage s l
             = giveUpRequest
                 (s.setLane l
                   { x with
                     state := .flushing, held := none, buffer := [], verify := none, holdTimer := none,
                     slotWaiting := false, slotIn := 0 })
                 (.lane l))
       ∧ (x.state ≠ .staging → x.state ≠ .primed → unstage s l = s))
    ∧ (∀ (s : State) (r : Requester),
         let u := giveUpRequest s r
         u = { s with
               mc :=
                 { s.mc with
                   laneReq := u.mc.laneReq, fillReq := u.mc.fillReq, readReq := u.mc.readReq, port := u.mc.port } }
           ∧ (∀ q, requestOf u q = if q = r then none else requestOf s q)
           ∧ (∀ t, s.mc.port = some (.transaction t) →
               (t.requester = r → (∃ c, t.phase = .row c) →
                   u.mc.port = some (.transaction { t with withdrawn := true }))
                 ∧ ((t.requester ≠ r ∨ t.phase = .column ∨ t.phase = .closing) → u.mc.port = s.mc.port))
           ∧ ((∀ t, s.mc.port ≠ some (.transaction t)) → u.mc.port = s.mc.port)
           ∧ (outstanding s r = true ↔
               requestOf s r ≠ none
                 ∨ ∃ t, s.mc.port = some (.transaction t) ∧ t.requester = r ∧ t.withdrawn = false
                     ∧ t.phase ≠ .closing))

/-- LnHOLD: asserted, its level is kept and in EMITTING the hold timer starts; deasserted, the timer stops, a slot that
waits is resolved, and else a staged cue tests its start. A waiting slot sends its byte; at the END byte the occurrence
ends SENT with its comparison made; with nothing buffered the release is cut UNDERRUN (that such a slot waits is the
model's reading, notes/assumptions/24.md). When the hold has outlasted the lane's limit the release is cut with cause
HOLD. Where no read of the lane is in column phase the flush after a cut ends and the cut is reported in the same
event. A lane that has come to rest may pick its next cue in that event (LeadWindowEntered). That HOLD_LIMIT_EXPIRY
does nothing before that, with limit 0 and without a hold in EMITTING is the model's choice (notes/assumptions/6.md).
-/
def Obligations.HoldLevels : Prop :=
  ∀ (l : Fin 4) (s : State), s.inReset = false →
    let a := txBegin s
    let x := s.lane l
    let becomes := fun (i : Instr) (t : State) =>
      exec i s = .next (finished a t)
    let leads := fun (i : Instr) (t u : State) => laneLeads a t u l = true → exec i s = .next (concluded u)
    let off := a.setLane l { x with hold := false, holdTimer := none }
    (x.hold = false →
        let t := a.setLane l
          { x with hold := true, holdTimer := if x.state = .emitting then some s.time.elapsed else none }
        becomes (.holdAsserted l) t)
      ∧ (x.hold = true → becomes (.holdAsserted l) a)
      ∧ ((x.state ≠ .emitting ∨ x.slotWaiting = false) → becomes (.holdDeasserted l) (tryStart off l))
      ∧ (x.state = .emitting → x.slotWaiting = true → ∀ h b rest, x.held = some h → x.buffer = b :: rest →
          x.emitted + 1 < h.count →
          let t := placeLaneRead
            (a.setLane l
              { x with
                hold := false, holdTimer := none, buffer := rest, emitted := x.emitted + 1, slotWaiting := false,
                slotIn := x.config.pace,
                pins :=
                  { valid := true, data := b, start := decide (x.emitted = 0), last := false, abort := false } }) l
          becomes (.holdDeasserted l) t)
      ∧ (x.state = .emitting → x.slotWaiting = true → ∀ h c b rest, x.held = some h → x.buffer = b :: rest →
          x.emitted + 1 = h.count → s.cue? h.cue = some c →
          let fault := checkFaultFlag h.check x.verify
          let u := if fault then markMismatch a h.payload else a
          let t := endReleased
            (u.setLane l
              { x with
                state := .idle, hold := false, held := none, release := none, verify := none, holdTimer := none,
                buffer := rest, emitted := h.count, slotWaiting := false, slotIn := 0,
                pins :=
                  { valid := true, data := b, start := decide (x.emitted = 0), last := true, abort := false } })
            h.cue c .sent ((x.release.map Release.late).getD false) fault h.count
          becomes (.holdDeasserted l) t ∧ leads (.holdDeasserted l) t (pickFor t l))
      ∧ (x.state = .emitting → x.slotWaiting = true → x.buffer = [] →
          let t := cutLane off l .underrun
          becomes (.holdDeasserted l) t ∧ leads (.holdDeasserted l) t (pickFor (endFlush t l) l))
      ∧ (∀ t0, x.state = .emitting → x.hold = true → x.holdTimer = some t0 →
          (x.config.holdLimit ≠ 0 → x.config.holdLimit < elapsedSince s t0 →
              let t := cutLane a l .hold
              becomes (.holdLimitExpiry l) t ∧ leads (.holdLimitExpiry l) t (pickFor (endFlush t l) l))
            ∧ ((x.config.holdLimit = 0 ∨ elapsedSince s t0 ≤ x.config.holdLimit) →
                exec (.holdLimitExpiry l) s = .next s))
      ∧ ((x.state ≠ .emitting ∨ x.hold = false ∨ x.holdTimer = none) → exec (.holdLimitExpiry l) s = .next s)

/-- The end of a flush: a FLUSHING lane with no request outstanding is IDLE and holds no cue; a cut release is reported
with the result of its cause and the bytes it emitted. The lane may pick its next cue in the same event
(LeadWindowEntered). That FLUSH_END does nothing with a request outstanding, or in another state, is the model's choice
(notes/assumptions/6.md). -/
def Obligations.FlushEnds : Prop :=
  ∀ (l : Fin 4) (s : State), s.inReset = false →
    let a := txBegin s
    let becomes := fun t : State =>
      endFlush a l = t ∧ (exec (.flushEnd l) s = .next (finished a t))
        ∧ (laneLeads a t (pickFor t l) l = true → exec (.flushEnd l) s = .next (concluded (pickFor t l)))
    let x := s.lane l
    let t := a.setLane l
      { x with
        state := .idle, held := none, release := none, verify := none, holdTimer := none, slotWaiting := false,
        slotIn := 0 }
    (x.state = .flushing → outstanding s (.lane l) = false →
        (x.held = none → becomes t)
          ∧ ∀ h c cause r, x.held = some h → s.cue? h.cue = some c → x.cutCause = some cause →
              ((cause = .cancel ∧ r = .cutCancel) ∨ (cause = .stop ∧ r = .cutStop) ∨ (cause = .hold ∧ r = .cutHold)
                ∨ (cause = .underrun ∧ r = .cutUnderrun)) →
              becomes (endReleased t h.cue c r ((x.release.map Release.late).getD false) false x.emitted))
      ∧ ((x.state ≠ .flushing ∨ outstanding s (.lane l) = true) →
          endFlush a l = a ∧ exec (.flushEnd l) s = .next s)

/-! ### Requests that wait -/

/-- The ends of the requests that occupy the interpreter: a cancelled cue's counts, the lanes at rest after STOP_ALL, a
chunk taken, a payload sealed or freed on a mismatch, a payload freed, a reading complete. Each builds, stores and
queues its reply; where a SYNC is pending its SYNC_DONE joins the reply queue behind it, every held notice is brought
to DUE, and the pending SYNC is absent. A chunk that is taken joins the tail of the fill buffer, the fill offset rises
and the running check is extended. A READ_BACK with bytes to come and no read outstanding requests its next bytes. An
event tests the executing request by the same rule (resume), after its lanes (LeadWindowEntered). The model's choices:
a SEAL_PAYLOAD whose entry is no longer FILLING is refused with WRONG_STATE (notes/assumptions/14.md), a PUT_DATA whose
payload has been freed brings no chunk (notes/assumptions/22.md), and each of these commands does nothing until its
time (notes/assumptions/6.md). -/
def Obligations.WaitsEnd : Prop :=
  (∀ (seq code : Byte) (s : State), s.inReset = false →
     let a := txBegin s
     let waits := fun w : Wait => s.executing = some { seq := seq, code := code, wait := w }
     let reply := fun (u : State) (st : Status) (res : List Byte) =>
       let b := queueReply u seq code st res
       match s.link.pendingSync with
       | none => b
       | some q =>
         ({ b with
            link :=
              { b.link with
                pendingSync := none,
                replyQueue := b.link.replyQueue.filter QueuedReply.isExecuted ++ [.syncDone q] },
            notices := { b.notices with held := b.notices.held.map Notice.resend } } : State)
     let ends := fun (i : Instr) (t : State) => resume a = t ∧ exec i s = .next (finished a t)
     let waitsOn := fun i : Instr => resume a = a ∧ exec i s = .next s
     (∀ id used skipped, waits (.cancel id (some (used, skipped))) →
         ends .cancelCueDone (reply a .ok (toLE 2 used ++ toLE 2 skipped)))
       ∧ (∀ id, waits (.cancel id none) → waitsOn .cancelCueDone)
       ∧ (∀ held stopped, waits (.stopAll held stopped) →
           (lanesAtRest s = true → ends .stopAllDone (reply a .ok (toLE 1 held ++ toLE 1 stopped)))
             ∧ (lanesAtRest s = false → waitsOn .stopAllDone))
       ∧ (∀ id off data, waits (.putData id off data) →
           (s.store.chunks.length < 4 →
               ends .putDataTaken (reply (takeChunk a id off data) .ok (toLE 2 (off + data.length))))
             ∧ (4 ≤ s.store.chunks.length → waitsOn .putDataTaken))
       ∧ (∀ id want, waits (.seal id want) →
           (holdsChunk s id = false →
               (∀ p, s.payload? id = some p → p.state = .filling →
                   ((want = none ∨ want = some p.running) →
                       ends .sealFinish
                         (reply (a.setPayload id { p with state := .sealed, check := some p.running }) .ok
                           (toLE 4 p.running.toNat)))
                     ∧ (∀ k, want = some k → k ≠ p.running →
                         ends .sealFinish (reply (a.freePayload id) .checkMismatch (toLE 4 p.running.toNat))))
                 ∧ (∀ p, s.payload? id = some p → p.state ≠ .filling →
                     ends .sealFinish (reply a .wrongState [payloadStateCode (some p.state)]))
                 ∧ (s.payload? id = none → ends .sealFinish (reply a .wrongState [0])))
             ∧ (holdsChunk s id = true → waitsOn .sealFinish))
       ∧ (∀ id, waits (.delete id) →
           (holdsChunk s id = false → ends .deleteFinish (reply (a.freePayload id) .ok [0]))
             ∧ (holdsChunk s id = true → waitsOn .deleteFinish))
       ∧ (∀ blocks off n got, waits (.readBack blocks off n got) →
           (n ≤ got.length → ends .readBackFinish (reply a .ok (toLE 2 n ++ got)))
             ∧ (got.length < n →
                 exec .readBackFinish s = .next s
                   ∧ (outstanding s .readBack = true → resume a = a)
                   ∧ (outstanding s .readBack = false → ∀ b, blocks[(off + got.length) / 2048]? = some b →
                       let pos := off + got.length
                       resume a
                         = { a with
                             mc :=
                               { a.mc with
                                 readReq := some
                                   { block := b, pos := pos % 2048,
                                     size := min 256 (min (n - got.length) (2048 - pos % 2048)) } } })))
       ∧ (s.executing = none → resume a = a))
    ∧ (∀ (s : State) (id off : Nat) (data : List Byte),
         (∀ p, s.payload? id = some p →
             let u := s.setPayload id
               { p with fillOffset := p.fillOffset + data.length, running := crc32Extend p.running data }
             takeChunk s id off data
               = placeFill
                   { u with
                     store :=
                       { u.store with
                         chunks :=
                           s.store.chunks ++ [{ payload := id, offset := off, data := data, written := 0 }] } })
           ∧ (s.payload? id = none → takeChunk s id off data = s))

/-! ### The memory port -/

/-- The arbiter's order in READY with the port free: a forced refresh; an EMITTING lane's read, lowest fill first; a
STAGING lane's and then a PRIMED lane's, earliest due first; equal ones by lane number; READ_BACK; the fill buffer; a
postponable refresh, which waits while any lane is EMITTING. With nothing eligible no grant is made. That ARBITER_GRANT
does nothing at a busy port, and outside READY, is the model's choice (notes/assumptions/6.md). -/
def Obligations.ArbiterOrder : Prop :=
  (∀ s : State, s.inReset = false → s.mc.port = none → s.device = .ready →
     let a := txBegin s
     let forced := s.refresh.request = .waiting ∧ s.refresh.debt = debtLimit s
     let waiting := fun (st : LaneState) (l : Fin 4) => (s.mc.laneReq.get l).isSome = true ∧ (s.lane l).state = st
     let none' := fun st : LaneState => ∀ l, ¬waiting st l
     let first := fun (st : LaneState) (key : Fin 4 → Nat) (l : Fin 4) =>
       waiting st l ∧ ∀ m, waiting st m → key l < key m ∨ (key l = key m ∧ l.val ≤ m.val)
     let granted := fun (r : Requester) (q : MemRequest) =>
       let t := beginTransaction (dropRequest a r) r q
       arbitrate a = t ∧ exec .arbiterGrant s = .next (ended t)
     let refreshed := arbitrate a = beginRefresh a ∧ exec .arbiterGrant s = .next (ended (beginRefresh a))
     let noLane := none' .emitting ∧ none' .staging ∧ none' .primed
     (forced → refreshed)
       ∧ (¬forced →
           (∀ l q, first .emitting (fun m => (s.lane m).buffer.length) l → s.mc.laneReq.get l = some q →
               granted (.lane l) q)
             ∧ (∀ l q, none' .emitting → first .staging (heldDue s) l → s.mc.laneReq.get l = some q →
                 granted (.lane l) q)
             ∧ (∀ l q, none' .emitting → none' .staging → first .primed (heldDue s) l →
                 s.mc.laneReq.get l = some q → granted (.lane l) q)
             ∧ (∀ q, noLane → s.mc.readReq = some q → granted .readBack q)
             ∧ (∀ q, noLane → s.mc.readReq = none → s.mc.fillReq = some q → granted .fill q)
             ∧ (noLane → s.mc.readReq = none → s.mc.fillReq = none → s.refresh.request = .waiting →
                 0 < s.refresh.debt → s.refresh.debt < debtLimit s → (∀ l, (s.lane l).state ≠ .emitting) → refreshed)
             ∧ (noLane → s.mc.readReq = none → s.mc.fillReq = none →
                 (s.refresh.request ≠ .waiting ∨ s.refresh.debt = 0 ∨ ∃ l, (s.lane l).state = .emitting) →
                 arbitrate a = a ∧ exec .arbiterGrant s = .next (ended a))))
    ∧ (∀ s : State, (s.mc.port ≠ none ∨ s.device ≠ .ready) → exec .arbiterGrant s = .next s)

/-- How an operation begins on the port: a transaction in COLUMN where its row is open, in its row phase with a
precharge where another row is open and with an activate where the bank is CLOSED; a refresh with a precharge-all where
a row is open, and with its command where none is. The times are those of the port in periods of 10 ns. The row phase
and the closing precharge: a precharge closes the bank and an activate opens the row, and each goes on to the next step
of the transaction, or frees the port where the transaction was withdrawn; a closing precharge closes the bank and
frees the port. That these commands do nothing in another phase is the model's choice (notes/assumptions/6.md). -/
def Obligations.OperationsBeginAndOpenRows : Prop :=
  (∀ (s : State) (r : Requester) (q : MemRequest) (p : Profile), s.mc.profile = some p →
     let bank := bankOf q.block
     let t : Transaction :=
       { requester := r, bank := bank, row := q.block / 4, pos := q.pos, size := q.size, phase := .column,
         withdrawn := false }
     let words := ((q.pos + q.size - 1) / (2 * p.burst) - q.pos / (2 * p.burst) + 1) * p.burst
     let on := fun (op : PortOp) (n : Nat) => ({ s with mc := { s.mc with port := some op, portLeft := n } } : State)
     bank.val = q.block % 4
       ∧ (s.mc.banks.get bank = some (q.block / 4) →
           beginTransaction s r q
             = on (.transaction t) (if r = .fill then words + 2 else p.latency + words))
       ∧ (∀ row, s.mc.banks.get bank = some row → row ≠ q.block / 4 →
           beginTransaction s r q = on (.transaction { t with phase := .row .precharge }) 3)
       ∧ (s.mc.banks.get bank = none →
           beginTransaction s r q = on (.transaction { t with phase := .row .activate }) 3)
       ∧ (let u : State := { s with refresh := { s.refresh with request := .inFlight } }
         ((∀ b, s.mc.banks.get b = none) →
             beginRefresh s = { u with mc := { u.mc with port := some (.refresh .command), portLeft := 7 } })
           ∧ ((∃ b, s.mc.banks.get b ≠ none) →
               beginRefresh s = { u with mc := { u.mc with port := some (.refresh .precharge), portLeft := 3 } })))
    ∧ (∀ (t : Transaction) (p : Profile) (s : State), s.inReset = false → s.mc.port = some (.transaction t) →
         s.mc.profile = some p →
         let a := txBegin s
         let words := ((t.pos + t.size - 1) / (2 * p.burst) - t.pos / (2 * p.burst) + 1) * p.burst
         let set := fun (row : Option Nat) (op : Option PortOp) (n : Nat) =>
           ({ a with mc := { a.mc with banks := a.mc.banks.set t.bank row, port := op, portLeft := n } } : State)
         let becomes := fun (i : Instr) (u : State) =>
           exec i s = .next (finished a u)
         (t.phase = .row .precharge →
             becomes .rowCommandDone
               (if t.withdrawn then set none none 0
                 else set none (some (.transaction { t with phase := .row .activate })) 3))
           ∧ (t.phase = .row .activate →
               becomes .rowCommandDone
                 (if t.withdrawn then set (some t.row) none 0
                   else
                     set (some t.row) (some (.transaction { t with phase := .column }))
                       (if t.requester = .fill then words + 2 else p.latency + words)))
           ∧ (t.phase = .closing → becomes .closingPrechargeDone (set none none 0))
           ∧ ((t.phase = .column ∨ t.phase = .closing) → exec .rowCommandDone s = .next s)
           ∧ (t.phase ≠ .closing → exec .closingPrechargeDone s = .next s)
           ∧ (t.phase ≠ .column → exec .transactionComplete s = .next s))

/-- The next request of a lane: in STAGING, PRIMED or EMITTING, with none outstanding, bytes left to fetch, and room
for 256 or for all of them, at most 256 bytes of one block from the fetch position on. That of the fill buffer: with
none outstanding, at most 256 bytes of one block from the head chunk's first unwritten byte on. A read of a lane
completes: its bytes, as the memory returns them, join the buffer of a STAGING, PRIMED or EMITTING lane and its
accumulator, a STAGING lane that reaches its start level is PRIMED, and the start and the next request are tested; a
FLUSHING lane discards them, its flush ends, and a cut that it still has to report is reported. A lane that has come to
rest picks its next cue in the same event. The port goes to the closing precharge under CLOSE_ROW and is free under
OPEN_ROW, and with no profile loaded as under OPEN_ROW, which is the model's choice (notes/assumptions/35.md). Bytes
that nothing has written are free values (notes/assumptions/2.md). A write of the fill buffer completes: the bytes of
the head chunk stand in the memory from the transaction's address on and every other byte is as it was; the chunk's
written count rises, or the chunk leaves when it is wholly written; the next write is requested; a PUT_DATA that waits
is taken, and a SEAL_PAYLOAD that waits seals the payload or frees it on a mismatch at its last chunk. Where its
payload is being deleted the chunk leaves and the deletion ends; where a soft reset left payloads, those that are still
FILLING are freed with their chunks (the reading of R94 in notes/assumptions/22.md). A read of READ_BACK completes: its
bytes follow the ones it has, and after the last it replies. What an event then ends with in the lanes, the store and
the port is spelled out in LeadWindowEntered. -/
def Obligations.TransactionsComplete : Prop :=
  (∀ (s : State) (l : Fin 4),
     let x := s.lane l
     (∀ h, x.held = some h → (x.state = .staging ∨ x.state = .primed ∨ x.state = .emitting) →
         outstanding s (.lane l) = false →
         let left := h.offset + h.count - x.fetchPos
         let room := 2048 - x.buffer.length
         (∀ b, 0 < left → (256 ≤ room ∨ left ≤ room) → h.blocks[x.fetchPos / 2048]? = some b →
             placeLaneRead s l
               = { s with
                   mc :=
                     { s.mc with
                       laneReq := s.mc.laneReq.set l
                         (some
                           { block := b, pos := x.fetchPos % 2048,
                             size := min 256 (min left (2048 - x.fetchPos % 2048)) }) } })
           ∧ ((left = 0 ∨ (room < 256 ∧ room < left)) → placeLaneRead s l = s))
       ∧ ((x.held = none ∨ outstanding s (.lane l) = true ∨ x.state = .stopped ∨ x.state = .idle ∨ x.state = .flushing) →
           placeLaneRead s l = s))
    ∧ (∀ s : State,
         (∀ c rest p, s.store.chunks = c :: rest → s.payload? c.payload = some p → outstanding s .fill = false →
             c.written < c.data.length → ∀ b, p.blocks[(c.offset + c.written) / 2048]? = some b →
             let pos := (c.offset + c.written) % 2048
             placeFill s
               = { s with
                   mc :=
                     { s.mc with
                       fillReq := some
                         { block := b, pos := pos,
                           size := min 256 (min (c.data.length - c.written) (2048 - pos)) } } })
           ∧ ((outstanding s .fill = true ∨ s.store.chunks = []) → placeFill s = s))
    ∧ (∀ (t : Transaction) (l : Fin 4) (close : Bool) (s : State), s.inReset = false →
         s.mc.port = some (.transaction t) → t.requester = .lane l → t.phase = .column →
         (close = true ↔ ∃ p, s.mc.profile = some p ∧ p.policy = .closeRow) →
         let a := txBegin s
         let x := s.lane l
         let becomes := fun w : State =>
           exec .transactionComplete s = .next (finished a w)
         let leads := fun w v : State => laneLeads a w v l = true → exec .transactionComplete s = .next (concluded v)
         let address := (t.row * 4 + t.bank.val) * 2048 + t.pos
         let bytes := readBytes s.mem s.freeReads address t.size
         let u : State :=
           { a with
             freeReads := if anyUnwritten s.mem address t.size then s.freeReads + 1 else s.freeReads,
             mc :=
               if close then { a.mc with port := some (.transaction { t with phase := .closing }), portLeft := 3 }
               else { a.mc with port := none, portLeft := 0 } }
         (∀ h, x.held = some h → (x.state = .staging ∨ x.state = .primed ∨ x.state = .emitting) →
             let v := u.setLane l
               { x with
                 buffer := x.buffer ++ bytes, fetchPos := x.fetchPos + t.size, fetched := x.fetched + t.size,
                 verify := x.verify.map (fun r => crc32Update r bytes),
                 state :=
                   if x.state = .staging ∧ min x.config.startThreshold h.count ≤ x.buffer.length + t.size then .primed
                   else x.state }
             let w := placeLaneRead (tryStart v l) l
             becomes w ∧ leads w (pickFor w l))
           ∧ (x.state = .flushing →
               let v := u.setLane l
                 { x with
                   state := .idle, held := none, release := none, verify := none, holdTimer := none,
                   slotWaiting := false, slotIn := 0 }
               becomes u
                 ∧ (s.mc.laneReq.get l = none →
                     leads u (pickFor (endFlush u l) l)
                       ∧ (x.held = none → endFlush u l = v)
                       ∧ (∀ h c cause r, x.held = some h → s.cue? h.cue = some c → x.cutCause = some cause →
                           ((cause = .cancel ∧ r = .cutCancel) ∨ (cause = .stop ∧ r = .cutStop)
                             ∨ (cause = .hold ∧ r = .cutHold) ∨ (cause = .underrun ∧ r = .cutUnderrun)) →
                           endFlush u l
                             = endReleased v h.cue c r ((x.release.map Release.late).getD false) false x.emitted))))
    ∧ (∀ (t : Transaction) (p : Profile) (s : State), s.inReset = false → s.mc.port = some (.transaction t) →
         t.phase = .column → s.mc.profile = some p →
         let a := txBegin s
         let becomes := fun w : State =>
           exec .transactionComplete s = .next (finished a w)
         let address := (t.row * 4 + t.bank.val) * 2048 + t.pos
         let mc : MemControl :=
           if p.policy = .closeRow then
             { a.mc with port := some (.transaction { t with phase := .closing }), portLeft := 3 }
           else { a.mc with port := none, portLeft := 0 }
         (∀ c rest, t.requester = .fill → s.store.chunks = c :: rest → c.written + t.size ≤ c.data.length →
             let bytes := (c.data.drop c.written).take t.size
             let left := fun chunks : List Chunk =>
               ({ a with
                  mc := mc, mem := writeBytes s.mem address bytes, store := { s.store with chunks := chunks } } : State)
             let u := placeFill
               (left (if c.written + t.size = c.data.length then rest
                 else { c with written := c.written + t.size } :: rest))
             (∀ i, i < t.size → tget (writeBytes s.mem address bytes) (address + i) = c.data[c.written + i]?)
               ∧ (∀ b, (b < address ∨ address + t.size ≤ b) → tget (writeBytes s.mem address bytes) b = tget s.mem b)
               ∧ (s.store.leaving = [] →
                   ((∀ e, s.executing = some e → e.wait ≠ .delete c.payload) →
                       becomes u ∧ (goesOn a u = true → exec .transactionComplete s = .next (concluded u)))
                     ∧ ∀ seq code, s.link.pendingSync = none →
                         (∀ id off data, s.executing = some { seq := seq, code := code, wait := .putData id off data } →
                             c.written + t.size = c.data.length → rest.length < 4 → calm a u = true →
                             exec .transactionComplete s
                               = .next (concluded
                                   (queueReply (takeChunk u id off data) seq code .ok (toLE 2 (off + data.length)))))
                           ∧ (∀ want q,
                               s.executing = some { seq := seq, code := code, wait := .seal c.payload want } →
                               c.written + t.size = c.data.length → (∀ k ∈ rest, k.payload ≠ c.payload) →
                               s.payload? c.payload = some q → q.state = .filling → calm a u = true →
                               ((want = none ∨ want = some q.running) →
                                   exec .transactionComplete s
                                     = .next (concluded
                                         (queueReply
                                           (u.setPayload c.payload { q with state := .sealed, check := some q.running })
                                           seq code .ok (toLE 4 q.running.toNat))))
                                 ∧ (∀ k, want = some k → k ≠ q.running →
                                     exec .transactionComplete s
                                       = .next (concluded
                                           (queueReply (u.freePayload c.payload) seq code .checkMismatch
                                             (toLE 4 q.running.toNat)))))
                           ∧ (s.executing = some { seq := seq, code := code, wait := .delete c.payload } →
                               (∀ k ∈ rest, k.payload ≠ c.payload) →
                               let v := placeFill (left rest)
                               calm a v = true →
                               exec .transactionComplete s
                                 = .next (concluded (queueReply (v.freePayload c.payload) seq code .ok [0]))))
               ∧ (c.payload ∈ s.store.leaving → s.store.leaving.Nodup → sortedKeys s.store.directory = true →
                   let freed := fun id : Nat =>
                     decide (id ∈ s.store.leaving) && (s.payload? id).any (fun p => decide (p.state = .filling))
                   let v := placeFill
                     { left (rest.filter (fun k => !freed k.payload)) with
                       store :=
                         { directory := s.store.directory.filter (fun e => !freed e.1),
                           pool :=
                             s.store.pool
                               ++ ((s.store.leaving.filter freed).map (fun id =>
                                   ((s.payload? id).map Payload.blocks).getD [])).flatten,
                           chunks := rest.filter (fun k => !freed k.payload), leaving := [] } }
                   becomes v))
           ∧ (∀ seq code blocks off n got, t.requester = .readBack →
               s.executing = some { seq := seq, code := code, wait := .readBack blocks off n got } →
               let u : State :=
                 { a with
                   mc := mc,
                   freeReads := if anyUnwritten s.mem address t.size then s.freeReads + 1 else s.freeReads,
                   executing := some
                     { seq := seq, code := code,
                       wait := .readBack blocks off n (got ++ readBytes s.mem s.freeReads address t.size) } }
               becomes u
                 ∧ (got.length + t.size < n → calm a u = true → outstanding u .readBack = false →
                 ∀ b, blocks[(off + got.length + t.size) / 2048]? = some b →
                   let pos := off + got.length + t.size
                   exec .transactionComplete s
                     = .next (concluded
                         { u with
                           mc :=
                             { u.mc with
                               readReq := some
                                 { block := b, pos := pos % 2048,
                                   size := min 256 (min (n - (got.length + t.size)) (2048 - pos % 2048)) } } })))
           ∧ (∀ seq code blocks off n got, t.requester = .readBack → s.link.pendingSync = none →
               s.executing = some { seq := seq, code := code, wait := .readBack blocks off n got } →
               n ≤ got.length + t.size →
               let u : State :=
                 { a with
                   mc := mc,
                   freeReads := if anyUnwritten s.mem address t.size then s.freeReads + 1 else s.freeReads }
               calm a u = true →
               exec .transactionComplete s
                 = .next (concluded
                     (queueReply u seq code .ok
                       (toLE 2 n ++ (got ++ readBytes s.mem s.freeReads address t.size))))))

/-- Refresh: when the interval expires below the limit the debt rises, the timer restarts or pauses at the limit, and
the scheduler asks; the precharge-all closes every bank and the command follows; when the command is over the debt
falls, a paused timer runs again, and while debt is left the scheduler asks again. The precharge-all of a refresh that
a MEMORY_INIT has overtaken closes every bank like any other, and its command only frees the port. The model's choices:
these commands do nothing where the timer does not run or the port carries no such step (notes/assumptions/6.md), and
an overtaken refresh is known by its absent request (notes/assumptions/15.md). -/
def Obligations.RefreshRuns : Prop :=
  (∀ (p : Profile) (s : State), s.inReset = false → s.device = .ready → s.mc.profile = some p →
     let a := txBegin s
     let whole := (p.interval + 9) / 10
     let becomes := fun (i : Instr) (u : State) =>
       exec i s = .next (finished a u)
     (∀ n, s.refresh.timer = .running n → s.refresh.debt < p.debtLimit →
         becomes .refreshIntervalExpiry
           { a with
             refresh :=
               { debt := s.refresh.debt + 1,
                 timer := if s.refresh.debt + 1 < p.debtLimit then .running whole else .paused,
                 request := if s.refresh.request = .absent then .waiting else s.refresh.request } })
       ∧ (s.mc.port = some (.refresh .command) → s.refresh.request = .inFlight →
           becomes .refreshComplete
             { a with
               mc := { a.mc with port := none, portLeft := 0 },
               refresh :=
                 { debt := s.refresh.debt - 1,
                   timer := if s.refresh.timer = .paused then .running whole else s.refresh.timer,
                   request := if 1 < s.refresh.debt then .waiting else .absent } }))
    ∧ (∀ s : State, s.inReset = false →
         let a := txBegin s
         let becomes := fun (i : Instr) (u : State) => exec i s = .next (finished a u)
         (s.mc.port = some (.refresh .precharge) →
             becomes .refreshPrechargeDone
               { a with
                 mc := { a.mc with banks := Quad.all none, port := some (.refresh .command), portLeft := 7 } })
           ∧ (s.mc.port = some (.refresh .command) → s.refresh.request ≠ .inFlight →
               becomes .refreshComplete { a with mc := { a.mc with port := none, portLeft := 0 } })
           ∧ ((∀ n, s.refresh.timer ≠ .running n) → exec .refreshIntervalExpiry s = .next s)
           ∧ (s.mc.port ≠ some (.refresh .precharge) → exec .refreshPrechargeDone s = .next s)
           ∧ (s.mc.port ≠ some (.refresh .command) → exec .refreshComplete s = .next s))

/-- The bring-up: its wait ends at the wait end, the precharge-all closes every bank, each init refresh is counted and
after the last the mode set follows, and when the mode set is over the part is READY: every payload id FREE, every
block in the pool in rising order, the refresh interval running, MEMORY_READY raised. In INITIALIZING a free port takes
the command of the present step: a precharge-all of 30 ns, a refresh of 70 ns, a mode set of 20 ns. A command whose
sequence was abandoned only ends. The model's choices: the progress shows PRECHARGE from the wait end on
(notes/assumptions/30.md), and these commands do nothing before the wait end or where the port carries no such command
(notes/assumptions/6.md). -/
def Obligations.BringUpRuns : Prop :=
  (∀ (p : Profile) (b : BringUp) (s : State), s.inReset = false → s.mc.profile = some p → s.mc.bringUp = some b →
     let a := txBegin s
     let becomes := fun (i : Instr) (u : State) =>
       exec i s = .next (finished a u)
     let set := fun (banks : Quad (Option Nat)) (b' : BringUp) =>
       ({ a with mc := { a.mc with banks := banks, port := none, portLeft := 0, bringUp := some b' } } : State)
     (b.step = .wait →
         (elapsedReached s b.waitEnd = true →
             becomes .bringupWaitEnd { a with mc := { a.mc with bringUp := some { b with step := .precharge } } })
           ∧ (elapsedReached s b.waitEnd = false → exec .bringupWaitEnd s = .next s))
       ∧ (b.step ≠ .wait → exec .bringupWaitEnd s = .next s)
       ∧ (s.mc.port = some (.bringUp .precharge false) →
           becomes .bringupPrechargeDone (set (Quad.all none) { b with step := .refresh }))
       ∧ (s.mc.port = some (.bringUp .refresh false) →
           becomes .bringupRefreshDone
             (set s.mc.banks
               { b with
                 refreshes := b.refreshes + 1,
                 step := if p.initRefreshes ≤ b.refreshes + 1 then .modeSet else .refresh }))
       ∧ (s.mc.port = some (.bringUp .modeSet false) →
           becomes .modeSetDone
             { a with
               device := .ready,
               mc := { a.mc with port := none, portLeft := 0, bringUp := none },
               store := { directory := [], pool := List.range (4 * p.rows), chunks := [], leaving := [] },
               refresh := { debt := 0, timer := .running ((p.interval + 9) / 10), request := .absent },
               raised := s.raised ++ [.memoryReady (4 * p.rows)] }))
    ∧ (∀ s : State, s.inReset = false →
        let a := txBegin s
        let free : State := { a with mc := { a.mc with port := none, portLeft := 0 } }
        let becomes := fun (i : Instr) (u : State) =>
          exec i s = .next (finished a u)
        (s.mc.port = some (.bringUp .precharge true) →
            becomes .bringupPrechargeDone
              { a with mc := { a.mc with banks := Quad.all none, port := none, portLeft := 0 } })
          ∧ (s.mc.port = some (.bringUp .refresh true) → becomes .bringupRefreshDone free)
          ∧ (s.mc.port = some (.bringUp .modeSet true) → becomes .modeSetDone free)
          ∧ (s.mc.bringUp = none → exec .bringupWaitEnd s = .next s)
          ∧ ((∀ b, s.mc.port ≠ some (.bringUp .precharge b)) → exec .bringupPrechargeDone s = .next s)
          ∧ ((∀ b, s.mc.port ≠ some (.bringUp .refresh b)) → exec .bringupRefreshDone s = .next s)
          ∧ ((∀ b, s.mc.port ≠ some (.bringUp .modeSet b)) → exec .modeSetDone s = .next s))
    ∧ (∀ s : State,
         let begun := fun (c : BringCommand) (n : Nat) =>
           arbitrate s = { s with mc := { s.mc with port := some (.bringUp c false), portLeft := n } }
         (∀ b, s.mc.port = none → s.device = .initializing → s.mc.bringUp = some b →
             (b.step = .wait → arbitrate s = s) ∧ (b.step = .precharge → begun .precharge 3)
               ∧ (b.step = .refresh → begun .refresh 7) ∧ (b.step = .modeSet → begun .modeSet 2))
           ∧ ((s.mc.port ≠ none ∨ s.device = .unconfigured) → arbitrate s = s))

/-! ### Invariants -/

/-- Every step keeps the SDRAM contents in their canonical form, every stamp ring within its size, the time base within
its range (device time at most the maximum, the time-end flag exactly there, no slew then), and the memory controller,
the refresh scheduler and the fill buffer in what the manual says of them: bring-up progress exactly in INITIALIZING
and a legal profile exactly outside UNCONFIGURED; debt at most the limit and the timer PAUSED exactly at it; every
request and transaction within one block; at most four chunks. -/
def Obligations.MemoryRingsAndTimeKept : Prop :=
  ∀ s t : State, step s = .next t →
    (Memory.wf s.mem = true → Memory.wf t.mem = true)
      ∧ (ringInvariant s → ringInvariant t)
      ∧ (timeInvariant s → timeInvariant t)
      ∧ (controllerInvariant s → controllerInvariant t)

/-- Every step keeps the link within its capacities: at most four requests wait, four frames in the prompt list and
eight stored replies, and at most one executed reply and one SYNC_DONE in the reply queue. -/
def Obligations.LinkCapacitiesKept : Prop := ∀ s t : State, linkInvariant s → step s = .next t → linkInvariant t

/-- Every step keeps the notice queue: at most 32 notices, the 32nd only with OVERFLOW held, under consecutive numbers
that end before the next number. -/
def Obligations.NoticeQueueKept : Prop := ∀ s t : State, noticeInvariant s → step s = .next t → noticeInvariant t

/-- Every step keeps the cue table: slots 0 to 63 in rising order, and a current due in exactly the states that have
one. -/
def Obligations.CueTableKept : Prop := ∀ s t : State, cueInvariant s → step s = .next t → cueInvariant t

/-- Every step keeps the lanes and the payload store, in a part whose cue table and memory controller are in order. The
lanes: what each lane state holds, a release exactly beside a releasing cue, and every STAGED or RELEASING cue on its
lane. The store: the directory by rising id, every block in the pool or in one block list, a reference count equal to
the number of cues that name the payload and are not ENDED, and chunks of FILLING payloads alone. -/
def Obligations.LanesAndStoreKept : Prop :=
  ∀ s t : State, cueInvariant s → controllerInvariant s → laneInvariant s → storeInvariant s → step s = .next t →
    laneInvariant t ∧ storeInvariant t

/-- The invariants hold of the part in the event in which a pin reset ends. -/
def Obligations.InvariantsAtReset : Prop :=
  Memory.wf State.reset.mem = true ∧ ringInvariant State.reset ∧ timeInvariant State.reset
    ∧ linkInvariant State.reset ∧ noticeInvariant State.reset ∧ cueInvariant State.reset
    ∧ controllerInvariant State.reset ∧ laneInvariant State.reset ∧ storeInvariant State.reset
end

