-- ==== Sys2Proof/Laws/State.lean ====
section
/-!
SUPPORT. One lemma per field of State for each plain update of it, so that no proof unfolds an update; reading back a
lane or a trigger line that was just set; and the same for the groups of four.
-/

namespace Sys2Proof.Machine

/-! ### State.setLane -/

@[simp] theorem State.setLane_inReset (s : State) (l : Fin 4) (x : Lane) : (s.setLane l x).inReset = s.inReset := rfl
@[simp] theorem State.setLane_device (s : State) (l : Fin 4) (x : Lane) : (s.setLane l x).device = s.device := rfl
@[simp] theorem State.setLane_executing (s : State) (l : Fin 4) (x : Lane) :
    (s.setLane l x).executing = s.executing := rfl
@[simp] theorem State.setLane_link (s : State) (l : Fin 4) (x : Lane) : (s.setLane l x).link = s.link := rfl
@[simp] theorem State.setLane_notices (s : State) (l : Fin 4) (x : Lane) : (s.setLane l x).notices = s.notices := rfl
@[simp] theorem State.setLane_raised (s : State) (l : Fin 4) (x : Lane) : (s.setLane l x).raised = s.raised := rfl
@[simp] theorem State.setLane_time (s : State) (l : Fin 4) (x : Lane) : (s.setLane l x).time = s.time := rfl
@[simp] theorem State.setLane_triggers (s : State) (l : Fin 4) (x : Lane) :
    (s.setLane l x).triggers = s.triggers := rfl
@[simp] theorem State.setLane_cues (s : State) (l : Fin 4) (x : Lane) : (s.setLane l x).cues = s.cues := rfl
@[simp] theorem State.setLane_lanes (s : State) (l : Fin 4) (x : Lane) :
    (s.setLane l x).lanes = s.lanes.set l x := rfl
@[simp] theorem State.setLane_store (s : State) (l : Fin 4) (x : Lane) : (s.setLane l x).store = s.store := rfl
@[simp] theorem State.setLane_mc (s : State) (l : Fin 4) (x : Lane) : (s.setLane l x).mc = s.mc := rfl
@[simp] theorem State.setLane_refresh (s : State) (l : Fin 4) (x : Lane) : (s.setLane l x).refresh = s.refresh := rfl
@[simp] theorem State.setLane_mem (s : State) (l : Fin 4) (x : Lane) : (s.setLane l x).mem = s.mem := rfl
@[simp] theorem State.setLane_freeReads (s : State) (l : Fin 4) (x : Lane) :
    (s.setLane l x).freeReads = s.freeReads := rfl
@[simp] theorem State.setLane_pending (s : State) (l : Fin 4) (x : Lane) : (s.setLane l x).pending = s.pending := rfl

/-! ### State.setCue -/

@[simp] theorem State.setCue_inReset (s : State) (id : Nat) (c : Cue) : (s.setCue id c).inReset = s.inReset := rfl
@[simp] theorem State.setCue_device (s : State) (id : Nat) (c : Cue) : (s.setCue id c).device = s.device := rfl
@[simp] theorem State.setCue_executing (s : State) (id : Nat) (c : Cue) :
    (s.setCue id c).executing = s.executing := rfl
@[simp] theorem State.setCue_link (s : State) (id : Nat) (c : Cue) : (s.setCue id c).link = s.link := rfl
@[simp] theorem State.setCue_notices (s : State) (id : Nat) (c : Cue) : (s.setCue id c).notices = s.notices := rfl
@[simp] theorem State.setCue_raised (s : State) (id : Nat) (c : Cue) : (s.setCue id c).raised = s.raised := rfl
@[simp] theorem State.setCue_time (s : State) (id : Nat) (c : Cue) : (s.setCue id c).time = s.time := rfl
@[simp] theorem State.setCue_triggers (s : State) (id : Nat) (c : Cue) : (s.setCue id c).triggers = s.triggers := rfl
@[simp] theorem State.setCue_cues (s : State) (id : Nat) (c : Cue) : (s.setCue id c).cues = tput s.cues id c := rfl
@[simp] theorem State.setCue_lanes (s : State) (id : Nat) (c : Cue) : (s.setCue id c).lanes = s.lanes := rfl
@[simp] theorem State.setCue_store (s : State) (id : Nat) (c : Cue) : (s.setCue id c).store = s.store := rfl
@[simp] theorem State.setCue_mc (s : State) (id : Nat) (c : Cue) : (s.setCue id c).mc = s.mc := rfl
@[simp] theorem State.setCue_refresh (s : State) (id : Nat) (c : Cue) : (s.setCue id c).refresh = s.refresh := rfl
@[simp] theorem State.setCue_mem (s : State) (id : Nat) (c : Cue) : (s.setCue id c).mem = s.mem := rfl
@[simp] theorem State.setCue_freeReads (s : State) (id : Nat) (c : Cue) :
    (s.setCue id c).freeReads = s.freeReads := rfl
@[simp] theorem State.setCue_pending (s : State) (id : Nat) (c : Cue) : (s.setCue id c).pending = s.pending := rfl

/-! ### State.dropCue -/

@[simp] theorem State.dropCue_inReset (s : State) (id : Nat) : (s.dropCue id).inReset = s.inReset := rfl
@[simp] theorem State.dropCue_device (s : State) (id : Nat) : (s.dropCue id).device = s.device := rfl
@[simp] theorem State.dropCue_executing (s : State) (id : Nat) : (s.dropCue id).executing = s.executing := rfl
@[simp] theorem State.dropCue_link (s : State) (id : Nat) : (s.dropCue id).link = s.link := rfl
@[simp] theorem State.dropCue_notices (s : State) (id : Nat) : (s.dropCue id).notices = s.notices := rfl
@[simp] theorem State.dropCue_raised (s : State) (id : Nat) : (s.dropCue id).raised = s.raised := rfl
@[simp] theorem State.dropCue_time (s : State) (id : Nat) : (s.dropCue id).time = s.time := rfl
@[simp] theorem State.dropCue_triggers (s : State) (id : Nat) : (s.dropCue id).triggers = s.triggers := rfl
@[simp] theorem State.dropCue_cues (s : State) (id : Nat) : (s.dropCue id).cues = tdel s.cues id := rfl
@[simp] theorem State.dropCue_lanes (s : State) (id : Nat) : (s.dropCue id).lanes = s.lanes := rfl
@[simp] theorem State.dropCue_store (s : State) (id : Nat) : (s.dropCue id).store = s.store := rfl
@[simp] theorem State.dropCue_mc (s : State) (id : Nat) : (s.dropCue id).mc = s.mc := rfl
@[simp] theorem State.dropCue_refresh (s : State) (id : Nat) : (s.dropCue id).refresh = s.refresh := rfl
@[simp] theorem State.dropCue_mem (s : State) (id : Nat) : (s.dropCue id).mem = s.mem := rfl
@[simp] theorem State.dropCue_freeReads (s : State) (id : Nat) : (s.dropCue id).freeReads = s.freeReads := rfl
@[simp] theorem State.dropCue_pending (s : State) (id : Nat) : (s.dropCue id).pending = s.pending := rfl

/-! ### State.setPayload -/

@[simp] theorem State.setPayload_inReset (s : State) (id : Nat) (p : Payload) :
    (s.setPayload id p).inReset = s.inReset := rfl
@[simp] theorem State.setPayload_device (s : State) (id : Nat) (p : Payload) :
    (s.setPayload id p).device = s.device := rfl
@[simp] theorem State.setPayload_executing (s : State) (id : Nat) (p : Payload) :
    (s.setPayload id p).executing = s.executing := rfl
@[simp] theorem State.setPayload_link (s : State) (id : Nat) (p : Payload) : (s.setPayload id p).link = s.link := rfl
@[simp] theorem State.setPayload_notices (s : State) (id : Nat) (p : Payload) :
    (s.setPayload id p).notices = s.notices := rfl
@[simp] theorem State.setPayload_raised (s : State) (id : Nat) (p : Payload) :
    (s.setPayload id p).raised = s.raised := rfl
@[simp] theorem State.setPayload_time (s : State) (id : Nat) (p : Payload) : (s.setPayload id p).time = s.time := rfl
@[simp] theorem State.setPayload_triggers (s : State) (id : Nat) (p : Payload) :
    (s.setPayload id p).triggers = s.triggers := rfl
@[simp] theorem State.setPayload_cues (s : State) (id : Nat) (p : Payload) : (s.setPayload id p).cues = s.cues := rfl
@[simp] theorem State.setPayload_lanes (s : State) (id : Nat) (p : Payload) :
    (s.setPayload id p).lanes = s.lanes := rfl
@[simp] theorem State.setPayload_store (s : State) (id : Nat) (p : Payload) :
    (s.setPayload id p).store = { s.store with directory := tput s.store.directory id p } := rfl
@[simp] theorem State.setPayload_mc (s : State) (id : Nat) (p : Payload) : (s.setPayload id p).mc = s.mc := rfl
@[simp] theorem State.setPayload_refresh (s : State) (id : Nat) (p : Payload) :
    (s.setPayload id p).refresh = s.refresh := rfl
@[simp] theorem State.setPayload_mem (s : State) (id : Nat) (p : Payload) : (s.setPayload id p).mem = s.mem := rfl
@[simp] theorem State.setPayload_freeReads (s : State) (id : Nat) (p : Payload) :
    (s.setPayload id p).freeReads = s.freeReads := rfl
@[simp] theorem State.setPayload_pending (s : State) (id : Nat) (p : Payload) :
    (s.setPayload id p).pending = s.pending := rfl

/-! ### State.setBank -/

@[simp] theorem State.setBank_inReset (s : State) (b : Fin 4) (row : Option Nat) :
    (s.setBank b row).inReset = s.inReset := rfl
@[simp] theorem State.setBank_device (s : State) (b : Fin 4) (row : Option Nat) :
    (s.setBank b row).device = s.device := rfl
@[simp] theorem State.setBank_executing (s : State) (b : Fin 4) (row : Option Nat) :
    (s.setBank b row).executing = s.executing := rfl
@[simp] theorem State.setBank_link (s : State) (b : Fin 4) (row : Option Nat) : (s.setBank b row).link = s.link := rfl
@[simp] theorem State.setBank_notices (s : State) (b : Fin 4) (row : Option Nat) :
    (s.setBank b row).notices = s.notices := rfl
@[simp] theorem State.setBank_raised (s : State) (b : Fin 4) (row : Option Nat) :
    (s.setBank b row).raised = s.raised := rfl
@[simp] theorem State.setBank_time (s : State) (b : Fin 4) (row : Option Nat) : (s.setBank b row).time = s.time := rfl
@[simp] theorem State.setBank_triggers (s : State) (b : Fin 4) (row : Option Nat) :
    (s.setBank b row).triggers = s.triggers := rfl
@[simp] theorem State.setBank_cues (s : State) (b : Fin 4) (row : Option Nat) : (s.setBank b row).cues = s.cues := rfl
@[simp] theorem State.setBank_lanes (s : State) (b : Fin 4) (row : Option Nat) :
    (s.setBank b row).lanes = s.lanes := rfl
@[simp] theorem State.setBank_store (s : State) (b : Fin 4) (row : Option Nat) :
    (s.setBank b row).store = s.store := rfl
@[simp] theorem State.setBank_mc (s : State) (b : Fin 4) (row : Option Nat) :
    (s.setBank b row).mc = { s.mc with banks := s.mc.banks.set b row } := rfl
@[simp] theorem State.setBank_refresh (s : State) (b : Fin 4) (row : Option Nat) :
    (s.setBank b row).refresh = s.refresh := rfl
@[simp] theorem State.setBank_mem (s : State) (b : Fin 4) (row : Option Nat) : (s.setBank b row).mem = s.mem := rfl
@[simp] theorem State.setBank_freeReads (s : State) (b : Fin 4) (row : Option Nat) :
    (s.setBank b row).freeReads = s.freeReads := rfl
@[simp] theorem State.setBank_pending (s : State) (b : Fin 4) (row : Option Nat) :
    (s.setBank b row).pending = s.pending := rfl

/-! ### State.closeBanks -/

@[simp] theorem State.closeBanks_inReset (s : State) : (s.closeBanks).inReset = s.inReset := rfl
@[simp] theorem State.closeBanks_device (s : State) : (s.closeBanks).device = s.device := rfl
@[simp] theorem State.closeBanks_executing (s : State) : (s.closeBanks).executing = s.executing := rfl
@[simp] theorem State.closeBanks_link (s : State) : (s.closeBanks).link = s.link := rfl
@[simp] theorem State.closeBanks_notices (s : State) : (s.closeBanks).notices = s.notices := rfl
@[simp] theorem State.closeBanks_raised (s : State) : (s.closeBanks).raised = s.raised := rfl
@[simp] theorem State.closeBanks_time (s : State) : (s.closeBanks).time = s.time := rfl
@[simp] theorem State.closeBanks_triggers (s : State) : (s.closeBanks).triggers = s.triggers := rfl
@[simp] theorem State.closeBanks_cues (s : State) : (s.closeBanks).cues = s.cues := rfl
@[simp] theorem State.closeBanks_lanes (s : State) : (s.closeBanks).lanes = s.lanes := rfl
@[simp] theorem State.closeBanks_store (s : State) : (s.closeBanks).store = s.store := rfl
@[simp] theorem State.closeBanks_mc (s : State) : (s.closeBanks).mc = { s.mc with banks := Quad.all none } := rfl
@[simp] theorem State.closeBanks_refresh (s : State) : (s.closeBanks).refresh = s.refresh := rfl
@[simp] theorem State.closeBanks_mem (s : State) : (s.closeBanks).mem = s.mem := rfl
@[simp] theorem State.closeBanks_freeReads (s : State) : (s.closeBanks).freeReads = s.freeReads := rfl
@[simp] theorem State.closeBanks_pending (s : State) : (s.closeBanks).pending = s.pending := rfl

/-! ### State.occupyPort -/

@[simp] theorem State.occupyPort_inReset (s : State) (op : PortOp) (n : Nat) :
    (s.occupyPort op n).inReset = s.inReset := rfl
@[simp] theorem State.occupyPort_device (s : State) (op : PortOp) (n : Nat) :
    (s.occupyPort op n).device = s.device := rfl
@[simp] theorem State.occupyPort_executing (s : State) (op : PortOp) (n : Nat) :
    (s.occupyPort op n).executing = s.executing := rfl
@[simp] theorem State.occupyPort_link (s : State) (op : PortOp) (n : Nat) : (s.occupyPort op n).link = s.link := rfl
@[simp] theorem State.occupyPort_notices (s : State) (op : PortOp) (n : Nat) :
    (s.occupyPort op n).notices = s.notices := rfl
@[simp] theorem State.occupyPort_raised (s : State) (op : PortOp) (n : Nat) :
    (s.occupyPort op n).raised = s.raised := rfl
@[simp] theorem State.occupyPort_time (s : State) (op : PortOp) (n : Nat) : (s.occupyPort op n).time = s.time := rfl
@[simp] theorem State.occupyPort_triggers (s : State) (op : PortOp) (n : Nat) :
    (s.occupyPort op n).triggers = s.triggers := rfl
@[simp] theorem State.occupyPort_cues (s : State) (op : PortOp) (n : Nat) : (s.occupyPort op n).cues = s.cues := rfl
@[simp] theorem State.occupyPort_lanes (s : State) (op : PortOp) (n : Nat) :
    (s.occupyPort op n).lanes = s.lanes := rfl
@[simp] theorem State.occupyPort_store (s : State) (op : PortOp) (n : Nat) :
    (s.occupyPort op n).store = s.store := rfl
@[simp] theorem State.occupyPort_mc (s : State) (op : PortOp) (n : Nat) :
    (s.occupyPort op n).mc = { s.mc with port := some op, portLeft := n } := rfl
@[simp] theorem State.occupyPort_refresh (s : State) (op : PortOp) (n : Nat) :
    (s.occupyPort op n).refresh = s.refresh := rfl
@[simp] theorem State.occupyPort_mem (s : State) (op : PortOp) (n : Nat) : (s.occupyPort op n).mem = s.mem := rfl
@[simp] theorem State.occupyPort_freeReads (s : State) (op : PortOp) (n : Nat) :
    (s.occupyPort op n).freeReads = s.freeReads := rfl
@[simp] theorem State.occupyPort_pending (s : State) (op : PortOp) (n : Nat) :
    (s.occupyPort op n).pending = s.pending := rfl

/-! ### State.freePort -/

@[simp] theorem State.freePort_inReset (s : State) : (s.freePort).inReset = s.inReset := rfl
@[simp] theorem State.freePort_device (s : State) : (s.freePort).device = s.device := rfl
@[simp] theorem State.freePort_executing (s : State) : (s.freePort).executing = s.executing := rfl
@[simp] theorem State.freePort_link (s : State) : (s.freePort).link = s.link := rfl
@[simp] theorem State.freePort_notices (s : State) : (s.freePort).notices = s.notices := rfl
@[simp] theorem State.freePort_raised (s : State) : (s.freePort).raised = s.raised := rfl
@[simp] theorem State.freePort_time (s : State) : (s.freePort).time = s.time := rfl
@[simp] theorem State.freePort_triggers (s : State) : (s.freePort).triggers = s.triggers := rfl
@[simp] theorem State.freePort_cues (s : State) : (s.freePort).cues = s.cues := rfl
@[simp] theorem State.freePort_lanes (s : State) : (s.freePort).lanes = s.lanes := rfl
@[simp] theorem State.freePort_store (s : State) : (s.freePort).store = s.store := rfl
@[simp] theorem State.freePort_mc (s : State) : (s.freePort).mc = { s.mc with port := none, portLeft := 0 } := rfl
@[simp] theorem State.freePort_refresh (s : State) : (s.freePort).refresh = s.refresh := rfl
@[simp] theorem State.freePort_mem (s : State) : (s.freePort).mem = s.mem := rfl
@[simp] theorem State.freePort_freeReads (s : State) : (s.freePort).freeReads = s.freeReads := rfl
@[simp] theorem State.freePort_pending (s : State) : (s.freePort).pending = s.pending := rfl

/-! ### State.raise -/

@[simp] theorem State.raise_inReset (s : State) (n : NoticeBody) : (s.raise n).inReset = s.inReset := rfl
@[simp] theorem State.raise_device (s : State) (n : NoticeBody) : (s.raise n).device = s.device := rfl
@[simp] theorem State.raise_executing (s : State) (n : NoticeBody) : (s.raise n).executing = s.executing := rfl
@[simp] theorem State.raise_link (s : State) (n : NoticeBody) : (s.raise n).link = s.link := rfl
@[simp] theorem State.raise_notices (s : State) (n : NoticeBody) : (s.raise n).notices = s.notices := rfl
@[simp] theorem State.raise_raised (s : State) (n : NoticeBody) : (s.raise n).raised = s.raised ++ [n] := rfl
@[simp] theorem State.raise_time (s : State) (n : NoticeBody) : (s.raise n).time = s.time := rfl
@[simp] theorem State.raise_triggers (s : State) (n : NoticeBody) : (s.raise n).triggers = s.triggers := rfl
@[simp] theorem State.raise_cues (s : State) (n : NoticeBody) : (s.raise n).cues = s.cues := rfl
@[simp] theorem State.raise_lanes (s : State) (n : NoticeBody) : (s.raise n).lanes = s.lanes := rfl
@[simp] theorem State.raise_store (s : State) (n : NoticeBody) : (s.raise n).store = s.store := rfl
@[simp] theorem State.raise_mc (s : State) (n : NoticeBody) : (s.raise n).mc = s.mc := rfl
@[simp] theorem State.raise_refresh (s : State) (n : NoticeBody) : (s.raise n).refresh = s.refresh := rfl
@[simp] theorem State.raise_mem (s : State) (n : NoticeBody) : (s.raise n).mem = s.mem := rfl
@[simp] theorem State.raise_freeReads (s : State) (n : NoticeBody) : (s.raise n).freeReads = s.freeReads := rfl
@[simp] theorem State.raise_pending (s : State) (n : NoticeBody) : (s.raise n).pending = s.pending := rfl

/-! ### State.orderResend -/

@[simp] theorem State.orderResend_inReset (s : State) : (s.orderResend).inReset = s.inReset := rfl
@[simp] theorem State.orderResend_device (s : State) : (s.orderResend).device = s.device := rfl
@[simp] theorem State.orderResend_executing (s : State) : (s.orderResend).executing = s.executing := rfl
@[simp] theorem State.orderResend_link (s : State) : (s.orderResend).link = s.link := rfl
@[simp] theorem State.orderResend_notices (s : State) :
    (s.orderResend).notices = { s.notices with held := s.notices.held.map Notice.resend } := rfl
@[simp] theorem State.orderResend_raised (s : State) : (s.orderResend).raised = s.raised := rfl
@[simp] theorem State.orderResend_time (s : State) : (s.orderResend).time = s.time := rfl
@[simp] theorem State.orderResend_triggers (s : State) : (s.orderResend).triggers = s.triggers := rfl
@[simp] theorem State.orderResend_cues (s : State) : (s.orderResend).cues = s.cues := rfl
@[simp] theorem State.orderResend_lanes (s : State) : (s.orderResend).lanes = s.lanes := rfl
@[simp] theorem State.orderResend_store (s : State) : (s.orderResend).store = s.store := rfl
@[simp] theorem State.orderResend_mc (s : State) : (s.orderResend).mc = s.mc := rfl
@[simp] theorem State.orderResend_refresh (s : State) : (s.orderResend).refresh = s.refresh := rfl
@[simp] theorem State.orderResend_mem (s : State) : (s.orderResend).mem = s.mem := rfl
@[simp] theorem State.orderResend_freeReads (s : State) : (s.orderResend).freeReads = s.freeReads := rfl
@[simp] theorem State.orderResend_pending (s : State) : (s.orderResend).pending = s.pending := rfl

/-! ### State.offerRaised -/

@[simp] theorem State.offerRaised_inReset (s : State) : (s.offerRaised).inReset = s.inReset := rfl
@[simp] theorem State.offerRaised_device (s : State) : (s.offerRaised).device = s.device := rfl
@[simp] theorem State.offerRaised_executing (s : State) : (s.offerRaised).executing = s.executing := rfl
@[simp] theorem State.offerRaised_link (s : State) : (s.offerRaised).link = s.link := rfl
@[simp] theorem State.offerRaised_notices (s : State) :
    (s.offerRaised).notices = s.raisedInOrder.foldl NoticeQueue.offer s.notices := rfl
@[simp] theorem State.offerRaised_raised (s : State) : (s.offerRaised).raised = [] := rfl
@[simp] theorem State.offerRaised_time (s : State) : (s.offerRaised).time = s.time := rfl
@[simp] theorem State.offerRaised_triggers (s : State) : (s.offerRaised).triggers = s.triggers := rfl
@[simp] theorem State.offerRaised_cues (s : State) : (s.offerRaised).cues = s.cues := rfl
@[simp] theorem State.offerRaised_lanes (s : State) : (s.offerRaised).lanes = s.lanes := rfl
@[simp] theorem State.offerRaised_store (s : State) : (s.offerRaised).store = s.store := rfl
@[simp] theorem State.offerRaised_mc (s : State) : (s.offerRaised).mc = s.mc := rfl
@[simp] theorem State.offerRaised_refresh (s : State) : (s.offerRaised).refresh = s.refresh := rfl
@[simp] theorem State.offerRaised_mem (s : State) : (s.offerRaised).mem = s.mem := rfl
@[simp] theorem State.offerRaised_freeReads (s : State) : (s.offerRaised).freeReads = s.freeReads := rfl
@[simp] theorem State.offerRaised_pending (s : State) : (s.offerRaised).pending = s.pending := rfl

/-! ### State.setChunks -/

@[simp] theorem State.setChunks_inReset (s : State) (cs : List Chunk) : (s.setChunks cs).inReset = s.inReset := rfl
@[simp] theorem State.setChunks_device (s : State) (cs : List Chunk) : (s.setChunks cs).device = s.device := rfl
@[simp] theorem State.setChunks_executing (s : State) (cs : List Chunk) :
    (s.setChunks cs).executing = s.executing := rfl
@[simp] theorem State.setChunks_link (s : State) (cs : List Chunk) : (s.setChunks cs).link = s.link := rfl
@[simp] theorem State.setChunks_notices (s : State) (cs : List Chunk) : (s.setChunks cs).notices = s.notices := rfl
@[simp] theorem State.setChunks_raised (s : State) (cs : List Chunk) : (s.setChunks cs).raised = s.raised := rfl
@[simp] theorem State.setChunks_time (s : State) (cs : List Chunk) : (s.setChunks cs).time = s.time := rfl
@[simp] theorem State.setChunks_triggers (s : State) (cs : List Chunk) : (s.setChunks cs).triggers = s.triggers := rfl
@[simp] theorem State.setChunks_cues (s : State) (cs : List Chunk) : (s.setChunks cs).cues = s.cues := rfl
@[simp] theorem State.setChunks_lanes (s : State) (cs : List Chunk) : (s.setChunks cs).lanes = s.lanes := rfl
@[simp] theorem State.setChunks_store (s : State) (cs : List Chunk) :
    (s.setChunks cs).store = { s.store with chunks := cs } := rfl
@[simp] theorem State.setChunks_mc (s : State) (cs : List Chunk) : (s.setChunks cs).mc = s.mc := rfl
@[simp] theorem State.setChunks_refresh (s : State) (cs : List Chunk) : (s.setChunks cs).refresh = s.refresh := rfl
@[simp] theorem State.setChunks_mem (s : State) (cs : List Chunk) : (s.setChunks cs).mem = s.mem := rfl
@[simp] theorem State.setChunks_freeReads (s : State) (cs : List Chunk) :
    (s.setChunks cs).freeReads = s.freeReads := rfl
@[simp] theorem State.setChunks_pending (s : State) (cs : List Chunk) : (s.setChunks cs).pending = s.pending := rfl

/-! ### State.setLeaving -/

@[simp] theorem State.setLeaving_inReset (s : State) (ids : List Nat) : (s.setLeaving ids).inReset = s.inReset := rfl
@[simp] theorem State.setLeaving_device (s : State) (ids : List Nat) : (s.setLeaving ids).device = s.device := rfl
@[simp] theorem State.setLeaving_executing (s : State) (ids : List Nat) :
    (s.setLeaving ids).executing = s.executing := rfl
@[simp] theorem State.setLeaving_link (s : State) (ids : List Nat) : (s.setLeaving ids).link = s.link := rfl
@[simp] theorem State.setLeaving_notices (s : State) (ids : List Nat) : (s.setLeaving ids).notices = s.notices := rfl
@[simp] theorem State.setLeaving_raised (s : State) (ids : List Nat) : (s.setLeaving ids).raised = s.raised := rfl
@[simp] theorem State.setLeaving_time (s : State) (ids : List Nat) : (s.setLeaving ids).time = s.time := rfl
@[simp] theorem State.setLeaving_triggers (s : State) (ids : List Nat) : (s.setLeaving ids).triggers = s.triggers := rfl
@[simp] theorem State.setLeaving_cues (s : State) (ids : List Nat) : (s.setLeaving ids).cues = s.cues := rfl
@[simp] theorem State.setLeaving_lanes (s : State) (ids : List Nat) : (s.setLeaving ids).lanes = s.lanes := rfl
@[simp] theorem State.setLeaving_store (s : State) (ids : List Nat) :
    (s.setLeaving ids).store = { s.store with leaving := ids } := rfl
@[simp] theorem State.setLeaving_mc (s : State) (ids : List Nat) : (s.setLeaving ids).mc = s.mc := rfl
@[simp] theorem State.setLeaving_refresh (s : State) (ids : List Nat) : (s.setLeaving ids).refresh = s.refresh := rfl
@[simp] theorem State.setLeaving_mem (s : State) (ids : List Nat) : (s.setLeaving ids).mem = s.mem := rfl
@[simp] theorem State.setLeaving_freeReads (s : State) (ids : List Nat) :
    (s.setLeaving ids).freeReads = s.freeReads := rfl
@[simp] theorem State.setLeaving_pending (s : State) (ids : List Nat) : (s.setLeaving ids).pending = s.pending := rfl

/-! ### State.setDevice -/

@[simp] theorem State.setDevice_inReset (s : State) (t : Nat) : (s.setDevice t).inReset = s.inReset := rfl
@[simp] theorem State.setDevice_device (s : State) (t : Nat) : (s.setDevice t).device = s.device := rfl
@[simp] theorem State.setDevice_executing (s : State) (t : Nat) : (s.setDevice t).executing = s.executing := rfl
@[simp] theorem State.setDevice_link (s : State) (t : Nat) : (s.setDevice t).link = s.link := rfl
@[simp] theorem State.setDevice_notices (s : State) (t : Nat) : (s.setDevice t).notices = s.notices := rfl
@[simp] theorem State.setDevice_raised (s : State) (t : Nat) : (s.setDevice t).raised = s.raised := rfl
@[simp] theorem State.setDevice_time (s : State) (t : Nat) : (s.setDevice t).time = { s.time with device := t } := rfl
@[simp] theorem State.setDevice_triggers (s : State) (t : Nat) : (s.setDevice t).triggers = s.triggers := rfl
@[simp] theorem State.setDevice_cues (s : State) (t : Nat) : (s.setDevice t).cues = s.cues := rfl
@[simp] theorem State.setDevice_lanes (s : State) (t : Nat) : (s.setDevice t).lanes = s.lanes := rfl
@[simp] theorem State.setDevice_store (s : State) (t : Nat) : (s.setDevice t).store = s.store := rfl
@[simp] theorem State.setDevice_mc (s : State) (t : Nat) : (s.setDevice t).mc = s.mc := rfl
@[simp] theorem State.setDevice_refresh (s : State) (t : Nat) : (s.setDevice t).refresh = s.refresh := rfl
@[simp] theorem State.setDevice_mem (s : State) (t : Nat) : (s.setDevice t).mem = s.mem := rfl
@[simp] theorem State.setDevice_freeReads (s : State) (t : Nat) : (s.setDevice t).freeReads = s.freeReads := rfl
@[simp] theorem State.setDevice_pending (s : State) (t : Nat) : (s.setDevice t).pending = s.pending := rfl

/-! ### State.setSlew -/

@[simp] theorem State.setSlew_inReset (s : State) (w : Option Slew) : (s.setSlew w).inReset = s.inReset := rfl
@[simp] theorem State.setSlew_device (s : State) (w : Option Slew) : (s.setSlew w).device = s.device := rfl
@[simp] theorem State.setSlew_executing (s : State) (w : Option Slew) : (s.setSlew w).executing = s.executing := rfl
@[simp] theorem State.setSlew_link (s : State) (w : Option Slew) : (s.setSlew w).link = s.link := rfl
@[simp] theorem State.setSlew_notices (s : State) (w : Option Slew) : (s.setSlew w).notices = s.notices := rfl
@[simp] theorem State.setSlew_raised (s : State) (w : Option Slew) : (s.setSlew w).raised = s.raised := rfl
@[simp] theorem State.setSlew_time (s : State) (w : Option Slew) :
    (s.setSlew w).time = { s.time with slew := w } := rfl
@[simp] theorem State.setSlew_triggers (s : State) (w : Option Slew) : (s.setSlew w).triggers = s.triggers := rfl
@[simp] theorem State.setSlew_cues (s : State) (w : Option Slew) : (s.setSlew w).cues = s.cues := rfl
@[simp] theorem State.setSlew_lanes (s : State) (w : Option Slew) : (s.setSlew w).lanes = s.lanes := rfl
@[simp] theorem State.setSlew_store (s : State) (w : Option Slew) : (s.setSlew w).store = s.store := rfl
@[simp] theorem State.setSlew_mc (s : State) (w : Option Slew) : (s.setSlew w).mc = s.mc := rfl
@[simp] theorem State.setSlew_refresh (s : State) (w : Option Slew) : (s.setSlew w).refresh = s.refresh := rfl
@[simp] theorem State.setSlew_mem (s : State) (w : Option Slew) : (s.setSlew w).mem = s.mem := rfl
@[simp] theorem State.setSlew_freeReads (s : State) (w : Option Slew) : (s.setSlew w).freeReads = s.freeReads := rfl
@[simp] theorem State.setSlew_pending (s : State) (w : Option Slew) : (s.setSlew w).pending = s.pending := rfl

/-! ### State.setLine -/

@[simp] theorem State.setLine_inReset (s : State) (i : Fin 4) (t : TriggerLine) :
    (s.setLine i t).inReset = s.inReset := rfl
@[simp] theorem State.setLine_device (s : State) (i : Fin 4) (t : TriggerLine) :
    (s.setLine i t).device = s.device := rfl
@[simp] theorem State.setLine_executing (s : State) (i : Fin 4) (t : TriggerLine) :
    (s.setLine i t).executing = s.executing := rfl
@[simp] theorem State.setLine_link (s : State) (i : Fin 4) (t : TriggerLine) : (s.setLine i t).link = s.link := rfl
@[simp] theorem State.setLine_notices (s : State) (i : Fin 4) (t : TriggerLine) :
    (s.setLine i t).notices = s.notices := rfl
@[simp] theorem State.setLine_raised (s : State) (i : Fin 4) (t : TriggerLine) :
    (s.setLine i t).raised = s.raised := rfl
@[simp] theorem State.setLine_time (s : State) (i : Fin 4) (t : TriggerLine) : (s.setLine i t).time = s.time := rfl
@[simp] theorem State.setLine_triggers (s : State) (i : Fin 4) (t : TriggerLine) :
    (s.setLine i t).triggers = { s.triggers with lines := s.triggers.lines.set i t } := rfl
@[simp] theorem State.setLine_cues (s : State) (i : Fin 4) (t : TriggerLine) : (s.setLine i t).cues = s.cues := rfl
@[simp] theorem State.setLine_lanes (s : State) (i : Fin 4) (t : TriggerLine) : (s.setLine i t).lanes = s.lanes := rfl
@[simp] theorem State.setLine_store (s : State) (i : Fin 4) (t : TriggerLine) : (s.setLine i t).store = s.store := rfl
@[simp] theorem State.setLine_mc (s : State) (i : Fin 4) (t : TriggerLine) : (s.setLine i t).mc = s.mc := rfl
@[simp] theorem State.setLine_refresh (s : State) (i : Fin 4) (t : TriggerLine) :
    (s.setLine i t).refresh = s.refresh := rfl
@[simp] theorem State.setLine_mem (s : State) (i : Fin 4) (t : TriggerLine) : (s.setLine i t).mem = s.mem := rfl
@[simp] theorem State.setLine_freeReads (s : State) (i : Fin 4) (t : TriggerLine) :
    (s.setLine i t).freeReads = s.freeReads := rfl
@[simp] theorem State.setLine_pending (s : State) (i : Fin 4) (t : TriggerLine) :
    (s.setLine i t).pending = s.pending := rfl

/-! ### State.sendFrame -/

@[simp] theorem State.sendFrame_inReset (s : State) (f : Frame) : (s.sendFrame f).inReset = s.inReset := rfl
@[simp] theorem State.sendFrame_device (s : State) (f : Frame) : (s.sendFrame f).device = s.device := rfl
@[simp] theorem State.sendFrame_executing (s : State) (f : Frame) : (s.sendFrame f).executing = s.executing := rfl
@[simp] theorem State.sendFrame_link (s : State) (f : Frame) :
    (s.sendFrame f).link = { s.link with tx := some { frame := f, clocks := 0 } } := rfl
@[simp] theorem State.sendFrame_notices (s : State) (f : Frame) : (s.sendFrame f).notices = s.notices := rfl
@[simp] theorem State.sendFrame_raised (s : State) (f : Frame) : (s.sendFrame f).raised = s.raised := rfl
@[simp] theorem State.sendFrame_time (s : State) (f : Frame) : (s.sendFrame f).time = s.time := rfl
@[simp] theorem State.sendFrame_triggers (s : State) (f : Frame) : (s.sendFrame f).triggers = s.triggers := rfl
@[simp] theorem State.sendFrame_cues (s : State) (f : Frame) : (s.sendFrame f).cues = s.cues := rfl
@[simp] theorem State.sendFrame_lanes (s : State) (f : Frame) : (s.sendFrame f).lanes = s.lanes := rfl
@[simp] theorem State.sendFrame_store (s : State) (f : Frame) : (s.sendFrame f).store = s.store := rfl
@[simp] theorem State.sendFrame_mc (s : State) (f : Frame) : (s.sendFrame f).mc = s.mc := rfl
@[simp] theorem State.sendFrame_refresh (s : State) (f : Frame) : (s.sendFrame f).refresh = s.refresh := rfl
@[simp] theorem State.sendFrame_mem (s : State) (f : Frame) : (s.sendFrame f).mem = s.mem := rfl
@[simp] theorem State.sendFrame_freeReads (s : State) (f : Frame) : (s.sendFrame f).freeReads = s.freeReads := rfl
@[simp] theorem State.sendFrame_pending (s : State) (f : Frame) : (s.sendFrame f).pending = s.pending := rfl

/-! ### setFramer -/

@[simp] theorem setFramer_inReset (s : State) (f : Framer) : (setFramer s f).inReset = s.inReset := rfl
@[simp] theorem setFramer_device (s : State) (f : Framer) : (setFramer s f).device = s.device := rfl
@[simp] theorem setFramer_executing (s : State) (f : Framer) : (setFramer s f).executing = s.executing := rfl
@[simp] theorem setFramer_link (s : State) (f : Framer) :
    (setFramer s f).link = { s.link with framer := f, gapTimer := if f = .hunt then none else some s.time.elapsed } := rfl
@[simp] theorem setFramer_notices (s : State) (f : Framer) : (setFramer s f).notices = s.notices := rfl
@[simp] theorem setFramer_raised (s : State) (f : Framer) : (setFramer s f).raised = s.raised := rfl
@[simp] theorem setFramer_time (s : State) (f : Framer) : (setFramer s f).time = s.time := rfl
@[simp] theorem setFramer_triggers (s : State) (f : Framer) : (setFramer s f).triggers = s.triggers := rfl
@[simp] theorem setFramer_cues (s : State) (f : Framer) : (setFramer s f).cues = s.cues := rfl
@[simp] theorem setFramer_lanes (s : State) (f : Framer) : (setFramer s f).lanes = s.lanes := rfl
@[simp] theorem setFramer_store (s : State) (f : Framer) : (setFramer s f).store = s.store := rfl
@[simp] theorem setFramer_mc (s : State) (f : Framer) : (setFramer s f).mc = s.mc := rfl
@[simp] theorem setFramer_refresh (s : State) (f : Framer) : (setFramer s f).refresh = s.refresh := rfl
@[simp] theorem setFramer_mem (s : State) (f : Framer) : (setFramer s f).mem = s.mem := rfl
@[simp] theorem setFramer_freeReads (s : State) (f : Framer) : (setFramer s f).freeReads = s.freeReads := rfl
@[simp] theorem setFramer_pending (s : State) (f : Framer) : (setFramer s f).pending = s.pending := rfl

/-! ### setStep -/

@[simp] theorem setStep_inReset (s : State) (b : BringUp) (st : BringStep) :
    (setStep s b st).inReset = s.inReset := rfl
@[simp] theorem setStep_device (s : State) (b : BringUp) (st : BringStep) : (setStep s b st).device = s.device := rfl
@[simp] theorem setStep_executing (s : State) (b : BringUp) (st : BringStep) :
    (setStep s b st).executing = s.executing := rfl
@[simp] theorem setStep_link (s : State) (b : BringUp) (st : BringStep) : (setStep s b st).link = s.link := rfl
@[simp] theorem setStep_notices (s : State) (b : BringUp) (st : BringStep) :
    (setStep s b st).notices = s.notices := rfl
@[simp] theorem setStep_raised (s : State) (b : BringUp) (st : BringStep) : (setStep s b st).raised = s.raised := rfl
@[simp] theorem setStep_time (s : State) (b : BringUp) (st : BringStep) : (setStep s b st).time = s.time := rfl
@[simp] theorem setStep_triggers (s : State) (b : BringUp) (st : BringStep) :
    (setStep s b st).triggers = s.triggers := rfl
@[simp] theorem setStep_cues (s : State) (b : BringUp) (st : BringStep) : (setStep s b st).cues = s.cues := rfl
@[simp] theorem setStep_lanes (s : State) (b : BringUp) (st : BringStep) : (setStep s b st).lanes = s.lanes := rfl
@[simp] theorem setStep_store (s : State) (b : BringUp) (st : BringStep) : (setStep s b st).store = s.store := rfl
@[simp] theorem setStep_mc (s : State) (b : BringUp) (st : BringStep) :
    (setStep s b st).mc = { s.mc with bringUp := some { b with step := st } } := rfl
@[simp] theorem setStep_refresh (s : State) (b : BringUp) (st : BringStep) :
    (setStep s b st).refresh = s.refresh := rfl
@[simp] theorem setStep_mem (s : State) (b : BringUp) (st : BringStep) : (setStep s b st).mem = s.mem := rfl
@[simp] theorem setStep_freeReads (s : State) (b : BringUp) (st : BringStep) :
    (setStep s b st).freeReads = s.freeReads := rfl
@[simp] theorem setStep_pending (s : State) (b : BringUp) (st : BringStep) :
    (setStep s b st).pending = s.pending := rfl

/-! ### frameEnds -/

@[simp] theorem frameEnds_inReset (s : State) : (frameEnds s).inReset = s.inReset := rfl
@[simp] theorem frameEnds_device (s : State) : (frameEnds s).device = s.device := rfl
@[simp] theorem frameEnds_executing (s : State) : (frameEnds s).executing = s.executing := rfl
@[simp] theorem frameEnds_link (s : State) :
    (frameEnds s).link = { s.link with framer := .hunt, gapTimer := none } := rfl
@[simp] theorem frameEnds_notices (s : State) : (frameEnds s).notices = s.notices := rfl
@[simp] theorem frameEnds_raised (s : State) : (frameEnds s).raised = s.raised := rfl
@[simp] theorem frameEnds_time (s : State) : (frameEnds s).time = s.time := rfl
@[simp] theorem frameEnds_triggers (s : State) : (frameEnds s).triggers = s.triggers := rfl
@[simp] theorem frameEnds_cues (s : State) : (frameEnds s).cues = s.cues := rfl
@[simp] theorem frameEnds_lanes (s : State) : (frameEnds s).lanes = s.lanes := rfl
@[simp] theorem frameEnds_store (s : State) : (frameEnds s).store = s.store := rfl
@[simp] theorem frameEnds_mc (s : State) : (frameEnds s).mc = s.mc := rfl
@[simp] theorem frameEnds_refresh (s : State) : (frameEnds s).refresh = s.refresh := rfl
@[simp] theorem frameEnds_mem (s : State) : (frameEnds s).mem = s.mem := rfl
@[simp] theorem frameEnds_freeReads (s : State) : (frameEnds s).freeReads = s.freeReads := rfl
@[simp] theorem frameEnds_pending (s : State) : (frameEnds s).pending = s.pending := rfl

/-! ### countElapsed -/

@[simp] theorem countElapsed_inReset (s : State) : (countElapsed s).inReset = s.inReset := rfl
@[simp] theorem countElapsed_device (s : State) : (countElapsed s).device = s.device := rfl
@[simp] theorem countElapsed_executing (s : State) : (countElapsed s).executing = s.executing := rfl
@[simp] theorem countElapsed_link (s : State) : (countElapsed s).link = s.link := rfl
@[simp] theorem countElapsed_notices (s : State) : (countElapsed s).notices = s.notices := rfl
@[simp] theorem countElapsed_raised (s : State) : (countElapsed s).raised = s.raised := rfl
@[simp] theorem countElapsed_time (s : State) :
    (countElapsed s).time = { s.time with elapsed := (s.time.elapsed + 1) % Config.elapsedModulus, phase := 0 } := rfl
@[simp] theorem countElapsed_triggers (s : State) : (countElapsed s).triggers = s.triggers := rfl
@[simp] theorem countElapsed_cues (s : State) : (countElapsed s).cues = s.cues := rfl
@[simp] theorem countElapsed_lanes (s : State) : (countElapsed s).lanes = s.lanes := rfl
@[simp] theorem countElapsed_store (s : State) : (countElapsed s).store = s.store := rfl
@[simp] theorem countElapsed_mc (s : State) : (countElapsed s).mc = s.mc := rfl
@[simp] theorem countElapsed_refresh (s : State) : (countElapsed s).refresh = s.refresh := rfl
@[simp] theorem countElapsed_mem (s : State) : (countElapsed s).mem = s.mem := rfl
@[simp] theorem countElapsed_freeReads (s : State) : (countElapsed s).freeReads = s.freeReads := rfl
@[simp] theorem countElapsed_pending (s : State) : (countElapsed s).pending = s.pending := rfl

/-! ### resetLink -/

@[simp] theorem resetLink_inReset (s : State) : (resetLink s).inReset = s.inReset := rfl
@[simp] theorem resetLink_device (s : State) : (resetLink s).device = s.device := rfl
@[simp] theorem resetLink_executing (s : State) : (resetLink s).executing = s.executing := rfl
@[simp] theorem resetLink_link (s : State) : (resetLink s).link = { s.link with inbox := [], replies := [] } := rfl
@[simp] theorem resetLink_notices (s : State) : (resetLink s).notices = .restarted .soft := rfl
@[simp] theorem resetLink_raised (s : State) : (resetLink s).raised = [] := rfl
@[simp] theorem resetLink_time (s : State) : (resetLink s).time = s.time := rfl
@[simp] theorem resetLink_triggers (s : State) : (resetLink s).triggers = s.triggers := rfl
@[simp] theorem resetLink_cues (s : State) : (resetLink s).cues = s.cues := rfl
@[simp] theorem resetLink_lanes (s : State) : (resetLink s).lanes = s.lanes := rfl
@[simp] theorem resetLink_store (s : State) : (resetLink s).store = s.store := rfl
@[simp] theorem resetLink_mc (s : State) : (resetLink s).mc = s.mc := rfl
@[simp] theorem resetLink_refresh (s : State) : (resetLink s).refresh = s.refresh := rfl
@[simp] theorem resetLink_mem (s : State) : (resetLink s).mem = s.mem := rfl
@[simp] theorem resetLink_freeReads (s : State) : (resetLink s).freeReads = s.freeReads := rfl
@[simp] theorem resetLink_pending (s : State) : (resetLink s).pending = s.pending := rfl

/-! ### Lanes and trigger lines -/

@[simp] theorem quad_get_set_self {α : Type} (q : Quad α) (i : Fin 4) (x : α) : (q.set i x).get i = x := by
  match i with
  | 0 => rfl
  | 1 => rfl
  | 2 => rfl
  | 3 => rfl

theorem quad_get_set_ne {α : Type} (q : Quad α) (i j : Fin 4) (x : α) (h : j ≠ i) : (q.set i x).get j = q.get j := by
  match i, j with
  | 0, 0 | 1, 1 | 2, 2 | 3, 3 => exact absurd rfl h
  | 0, 1 | 0, 2 | 0, 3 | 1, 0 | 1, 2 | 1, 3 | 2, 0 | 2, 1 | 2, 3 | 3, 0 | 3, 1 | 3, 2 => rfl

@[simp] theorem quad_get_map {α β : Type} (f : α → β) (q : Quad α) (i : Fin 4) : (q.map f).get i = f (q.get i) := by
  match i with
  | 0 => rfl
  | 1 => rfl
  | 2 => rfl
  | 3 => rfl

@[simp] theorem quad_get_all {α : Type} (x : α) (i : Fin 4) : (Quad.all x).get i = x := by
  match i with
  | 0 => rfl
  | 1 => rfl
  | 2 => rfl
  | 3 => rfl

@[simp] theorem lane_setLane_self (s : State) (l : Fin 4) (x : Lane) : (s.setLane l x).lane l = x :=
  quad_get_set_self s.lanes l x

theorem lane_setLane_ne (s : State) (l m : Fin 4) (x : Lane) (h : m ≠ l) : (s.setLane l x).lane m = s.lane m :=
  quad_get_set_ne s.lanes l m x h

/-- A lane is read from the lanes alone. -/
theorem lane_congr {s t : State} (h : t.lanes = s.lanes) (l : Fin 4) : t.lane l = s.lane l := by
  simp [State.lane, h]

/-- A cue is read from the cue table alone. -/
theorem cue_congr {s t : State} (h : t.cues = s.cues) (id : Nat) : t.cue? id = s.cue? id := by
  simp [State.cue?, h]

/-- A directory entry is read from the store alone. -/
theorem payload_congr {s t : State} (h : t.store = s.store) (id : Nat) : t.payload? id = s.payload? id := by
  simp [State.payload?, h]

/-- A cue's state is read from the cue table alone. -/
theorem awaitsRelease_congr {s t : State} (h : t.cues = s.cues) (id : Nat) :
    t.awaitsRelease id = s.awaitsRelease id := by
  simp [State.awaitsRelease, State.cue?, h]

/-- What a notice is as an event leaves it depends on the cue table alone. -/
theorem noticeLeft_congr {s t : State} (h : t.cues = s.cues) : t.noticeLeft = s.noticeLeft := by
  funext b
  cases b <;> simp [State.noticeLeft, awaitsRelease_congr h]

/-- The end of an event leaves a notice its place among those of the event. -/
@[simp] theorem noticeRank_noticeLeft (s : State) (b : NoticeBody) : noticeRank (s.noticeLeft b) = noticeRank b := by
  cases b <;> rfl

/-- Only an OVERFLOW notice is left as one. -/
@[simp] theorem noticeLeft_overflow (s : State) (b : NoticeBody) : s.noticeLeft b = .overflow ↔ b = .overflow := by
  cases b <;> simp [State.noticeLeft]

/-- Where nothing was raised the queue is as it was. -/
theorem offerRaised_of_nil {s : State} (h : s.raised = []) : s.offerRaised = s := by
  cases s
  simp_all [State.offerRaised, State.raisedInOrder, sortBy]

end Sys2Proof.Machine
end

