-- ==== Sys2Proof/Laws/Frames.lean ====
section
/-!
SUPPORT. What the lanes, the cue scheduler, the payload store and the port never touch: one frame relation, and one
lemma per shared operation that says the operation keeps it.
-/

namespace Sys2Proof.Machine

/-- The parts of the state that lanes, cues, payloads and the port leave alone: the pin reset, the device state, the
link, the notice queue, the time base, the trigger unit, the SDRAM contents, the queue of commands, and whether a
request executes. -/
structure CoreKept (s t : State) : Prop where
  inReset : t.inReset = s.inReset
  device : t.device = s.device
  link : t.link = s.link
  notices : t.notices = s.notices
  time : t.time = s.time
  triggers : t.triggers = s.triggers
  mem : t.mem = s.mem
  freeReads : t.freeReads = s.freeReads
  pending : t.pending = s.pending
  executing : t.executing.isSome = s.executing.isSome

namespace CoreKept

theorem refl (s : State) : CoreKept s s := ⟨rfl, rfl, rfl, rfl, rfl, rfl, rfl, rfl, rfl, rfl⟩

theorem trans {s t u : State} (h : CoreKept s t) (k : CoreKept t u) : CoreKept s u :=
  ⟨k.inReset.trans h.inReset, k.device.trans h.device, k.link.trans h.link, k.notices.trans h.notices,
    k.time.trans h.time, k.triggers.trans h.triggers, k.mem.trans h.mem, k.freeReads.trans h.freeReads,
    k.pending.trans h.pending, k.executing.trans h.executing⟩

theorem foldl {α : Type} (f : State → α → State) (h : ∀ s a, CoreKept s (f s a)) (l : List α) (s : State) :
    CoreKept s (l.foldl f s) := by
  induction l generalizing s with
  | nil => exact refl s
  | cons a t ih => exact (h s a).trans (ih _)

/-! ### Plain updates -/

theorem setLane (s : State) (l : Fin 4) (x : Lane) : CoreKept s (s.setLane l x) := by constructor <;> rfl
theorem setCue (s : State) (id : Nat) (c : Cue) : CoreKept s (s.setCue id c) := by constructor <;> rfl
theorem dropCue (s : State) (id : Nat) : CoreKept s (s.dropCue id) := by constructor <;> rfl
theorem setPayload (s : State) (id : Nat) (p : Payload) : CoreKept s (s.setPayload id p) := by constructor <;> rfl
theorem setChunks (s : State) (cs : List Chunk) : CoreKept s (s.setChunks cs) := by constructor <;> rfl
theorem raise (s : State) (n : NoticeBody) : CoreKept s (s.raise n) := by constructor <;> rfl
theorem occupyPort (s : State) (op : PortOp) (n : Nat) : CoreKept s (s.occupyPort op n) := by constructor <;> rfl

theorem addRef (s : State) (id : Nat) : CoreKept s (s.addRef id) := by
  unfold State.addRef; split
  · exact setPayload _ _ _
  · exact refl s

theorem dropRef (s : State) (id : Nat) : CoreKept s (s.dropRef id) := by
  unfold State.dropRef; split
  · exact setPayload _ _ _
  · exact refl s

theorem freePayload (s : State) (id : Nat) : CoreKept s (s.freePayload id) := by
  unfold State.freePayload; split
  · exact refl s
  · constructor <;> rfl

theorem freeDoomed (s : State) : CoreKept s s.freeDoomed := foldl _ freePayload _ s

/-! ### The port -/

theorem dropRequest (s : State) (r : Requester) : CoreKept s (dropRequest s r) := by cases r <;> constructor <;> rfl

theorem placeRequest (s : State) (r : Requester) (q : MemRequest) : CoreKept s (placeRequest s r q) := by
  cases r <;> constructor <;> rfl

theorem giveUpRequest (s : State) (r : Requester) : CoreKept s (giveUpRequest s r) := by
  unfold Machine.giveUpRequest
  dsimp only
  refine (dropRequest s r).trans ?_
  split
  · constructor <;> rfl
  · exact refl _

theorem beginTransaction (s : State) (r : Requester) (q : MemRequest) : CoreKept s (beginTransaction s r q) := by
  unfold Machine.beginTransaction
  dsimp only
  split
  · split <;> exact occupyPort _ _ _
  · exact occupyPort _ _ _

theorem beginRefresh (s : State) : CoreKept s (beginRefresh s) := by
  unfold Machine.beginRefresh
  dsimp only
  split <;> constructor <;> rfl

theorem carryOutGrant (s : State) (g : Grant) : CoreKept s (carryOutGrant s g) := by
  unfold Machine.carryOutGrant
  split
  · exact beginRefresh s
  · split
    · exact (dropRequest s _).trans (beginTransaction _ _ _)
    · exact refl s

theorem issueBringUp (s : State) : CoreKept s (issueBringUp s) := by
  unfold Machine.issueBringUp
  split
  · split
    · exact refl s
    all_goals exact occupyPort _ _ _
  · exact refl s

theorem arbitrate (s : State) : CoreKept s (arbitrate s) := by
  unfold Machine.arbitrate
  split
  · exact refl s
  · split
    · split
      · exact carryOutGrant _ _
      · exact refl s
    · exact issueBringUp s
    · exact refl s

/-! ### The cue scheduler -/

theorem raiseSkipped (s : State) (id : Nat) (c : Cue) (n : Nat) (d : Option Nat) :
    CoreKept s (raiseSkipped s id c n d) := by
  unfold Machine.raiseSkipped
  split
  · exact raise _ _
  · exact refl s

theorem endCue (s : State) (id : Nat) (c : Cue) (r : EndReason) : CoreKept s (endCue s id c r) := by
  unfold Machine.endCue
  dsimp only
  split
  · exact (dropRef s c.payload).trans ((raise _ _).trans (dropCue _ _))
  · exact (dropRef s c.payload).trans ((raise _ _).trans (setCue _ _ _))

theorem nextOccurrence (s : State) (id : Nat) (c : Cue) (candidate skips : Nat) :
    CoreKept s (nextOccurrence s id c candidate skips) := by
  unfold Machine.nextOccurrence
  repeat' split
  · exact (raiseSkipped _ _ _ _ _).trans (endCue _ _ _ _)
  all_goals exact (raiseSkipped _ _ _ _ _).trans (setCue _ _ _)

theorem nextTimed (s : State) (id : Nat) (c : Cue) (candidate skips : Nat) :
    CoreKept s (nextTimed s id c candidate skips) := nextOccurrence _ _ _ _ _

theorem nextStopped (s : State) (id : Nat) (c : Cue) (candidate skips : Nat) :
    CoreKept s (nextStopped s id c candidate skips) := nextOccurrence _ _ _ _ _

theorem endSkipped (s : State) (id : Nat) (c : Cue) (r : OccResult) : CoreKept s (endSkipped s id c r) := by
  unfold Machine.endSkipped
  dsimp only
  repeat' split
  · exact (raiseSkipped _ _ _ _ _).trans (endCue _ _ _ _)
  · exact nextStopped _ _ _ _ _
  · exact nextTimed _ _ _ _ _
  · exact (raiseSkipped _ _ _ _ _).trans (setCue _ _ _)

theorem noteCancelled (s : State) (id : Nat) (c : Cue) : CoreKept s (noteCancelled s id c) := by
  unfold Machine.noteCancelled
  repeat' split
  all_goals constructor <;> first | rfl | simp [*]

theorem noteStopped (s : State) (b : Bool) : CoreKept s (noteStopped s b) := by
  unfold Machine.noteStopped
  split <;> constructor <;> first | rfl | simp [*]

theorem endReleased (s : State) (id : Nat) (c : Cue) (r : OccResult) (late cf : Bool) (n : Nat) :
    CoreKept s (endReleased s id c r late cf n) := by
  unfold Machine.endReleased
  dsimp only
  have h0 : CoreKept s (if (c.recordReleased r late cf n).reports then
      s.raise (.cueOccurrence id r late cf n ((c.started.map StartReport.lateness).getD 0)
        (c.recordReleased r late cf n).used) else s) := by
    split
    · exact raise _ _
    · exact refl s
  refine h0.trans ?_
  generalize (if (c.recordReleased r late cf n).reports then
      s.raise (.cueOccurrence id r late cf n ((c.started.map StartReport.lateness).getD 0)
        (c.recordReleased r late cf n).used) else s) = u
  repeat' split
  · exact (noteCancelled _ _ _).trans (endCue _ _ _ _)
  · exact (noteStopped _ _).trans (endCue _ _ _ _)
  · exact (noteStopped _ _).trans (setCue _ _ _)
  · exact endCue _ _ _ _
  · exact nextTimed _ _ _ _ _
  · exact setCue _ _ _

theorem reachDue (s : State) (id : Nat) : CoreKept s (reachDue s id) := by
  unfold Machine.reachDue
  dsimp only
  repeat' split
  · exact endSkipped _ _ _ _
  · exact endSkipped _ _ _ _
  · exact setCue _ _ _
  all_goals exact refl s

/-! ### The lanes -/

theorem placeLaneRead (s : State) (l : Fin 4) : CoreKept s (placeLaneRead s l) := by
  unfold Machine.placeLaneRead
  split
  · exact placeRequest _ _ _
  · exact refl s

theorem markMismatch (s : State) (p : Nat) : CoreKept s (markMismatch s p) := by
  unfold Machine.markMismatch
  split
  · exact setPayload _ _ _
  · exact refl s

theorem completeRelease (s : State) (l : Fin 4) : CoreKept s (completeRelease s l) := by
  unfold Machine.completeRelease
  dsimp only
  split
  · rename_i h _
    have h0 : CoreKept s (if checkFaultFlag h.check (s.lane l).verify then Machine.markMismatch s h.payload else s) := by
      split
      · exact markMismatch _ _
      · exact refl s
    refine h0.trans ?_
    generalize (if checkFaultFlag h.check (s.lane l).verify then Machine.markMismatch s h.payload else s) = u
    split
    · exact (setLane _ l _).trans (endReleased _ _ _ _ _ _ _)
    · exact setLane _ l _
  · exact refl s

theorem departByte (s : State) (l : Fin 4) : CoreKept s (departByte s l) := by
  unfold Machine.departByte
  dsimp only
  split
  · split
    · exact (setLane _ l _).trans (completeRelease _ _)
    · exact (setLane _ l _).trans (placeLaneRead _ _)
  · exact refl s

theorem startRelease (s : State) (l : Fin 4) (due : Nat) : CoreKept s (startRelease s l due) := by
  unfold Machine.startRelease
  dsimp only
  split
  · split
    · refine CoreKept.trans ?_ (departByte _ l)
      refine CoreKept.trans ?_ (setLane _ l _)
      split
      · exact (setCue _ _ _).trans (raise _ _)
      · exact setCue _ _ _
    · exact refl s
  · exact refl s

theorem tryStart (s : State) (l : Fin 4) : CoreKept s (tryStart s l) := by
  unfold Machine.tryStart
  split
  · exact startRelease _ _ _
  · exact refl s

theorem unstage (s : State) (l : Fin 4) : CoreKept s (unstage s l) := by
  unfold Machine.unstage
  dsimp only
  split
  · exact (setLane _ l _).trans (giveUpRequest _ _)
  · exact refl s

theorem cutLane (s : State) (l : Fin 4) (c : CutCause) : CoreKept s (cutLane s l c) := by
  unfold Machine.cutLane
  dsimp only
  split
  · exact (setLane _ l _).trans (giveUpRequest _ _)
  · exact refl s

theorem reportCut (s : State) (x : Lane) : CoreKept s (reportCut s x) := by
  unfold Machine.reportCut
  repeat' split
  · exact endReleased _ _ _ _ _ _ _
  all_goals exact refl s

theorem endFlush (s : State) (l : Fin 4) : CoreKept s (endFlush s l) := by
  unfold Machine.endFlush
  split
  · exact (setLane _ l _).trans (reportCut _ _)
  · exact refl s

theorem pickCue (s : State) (l : Fin 4) (id : Nat) (c : Cue) : CoreKept s (pickCue s l id c) := by
  unfold Machine.pickCue
  dsimp only
  split
  · exact ((setCue _ _ _).trans (setLane _ l _)).trans (placeLaneRead _ _)
  · exact refl s

theorem pickFor (s : State) (l : Fin 4) : CoreKept s (pickFor s l) := by
  unfold Machine.pickFor
  repeat' split
  · exact pickCue _ _ _ _
  all_goals exact refl s

theorem giveBack (s : State) (l : Fin 4) (id : Nat) (c : Cue) : CoreKept s (giveBack s l id c) :=
  (setCue _ _ _).trans (unstage _ _)

theorem restage (s0 s : State) (l : Fin 4) : CoreKept s (restage s0 s l) := by
  unfold Machine.restage
  repeat' split
  · exact giveBack _ _ _ _
  all_goals exact refl s

theorem settleLane (s0 s : State) (l : Fin 4) : CoreKept s (settleLane s0 s l) :=
  (((endFlush s l).trans (restage s0 _ l)).trans (endFlush _ l)).trans (pickFor _ l)

theorem settleLanes (s0 s : State) : CoreKept s (settleLanes s0 s) := foldl _ (settleLane s0) _ s

theorem deliverLane (s : State) (l : Fin 4) (bytes : List Byte) : CoreKept s (deliverLane s l bytes) := by
  unfold Machine.deliverLane
  dsimp only
  repeat' split
  · exact ((setLane _ l _).trans (tryStart _ _)).trans (placeLaneRead _ _)
  all_goals exact refl s

theorem resolveSlot (s : State) (l : Fin 4) : CoreKept s (resolveSlot s l) := by
  unfold Machine.resolveSlot
  split
  · exact cutLane _ _ _
  · exact departByte _ _

theorem takeSlot (s : State) (l : Fin 4) : CoreKept s (takeSlot s l) := by
  unfold Machine.takeSlot
  dsimp only
  repeat' split
  · exact setLane _ _ _
  · exact resolveSlot _ _
  · exact refl s

theorem holdOn (s : State) (l : Fin 4) : CoreKept s (holdOn s l) := by
  unfold Machine.holdOn
  dsimp only
  split
  · exact refl s
  · exact setLane _ _ _

theorem holdOff (s : State) (l : Fin 4) : CoreKept s (holdOff s l) := by
  unfold Machine.holdOff
  dsimp only
  split
  · exact (setLane s l _).trans (resolveSlot _ _)
  · exact (setLane s l _).trans (tryStart _ _)

theorem expireCue (s : State) (id : Nat) : CoreKept s (expireCue s id) := by
  unfold Machine.expireCue
  repeat' split
  · exact (unstage _ _).trans (endSkipped _ _ _ _)
  · exact endSkipped _ _ _ _
  all_goals exact refl s

theorem timeCue (s : State) (id : Nat) : CoreKept s (timeCue s id) := by
  unfold Machine.timeCue
  repeat' split
  · exact reachDue _ _
  · exact expireCue _ _
  · exact refl s

theorem forwardChange (s : State) : CoreKept s (forwardChange s) :=
  (foldl _ timeCue _ s).trans (foldl _ tryStart _ _)

theorem resetLane (s : State) (l : Fin 4) : CoreKept s (resetLane s l) := by
  unfold Machine.resetLane
  split
  · exact cutLane _ _ _
  · exact unstage _ _
  · exact unstage _ _
  · exact setLane _ _ _
  · exact refl s

theorem stopLane (s : State) (l : Fin 4) : CoreKept s (stopLane s l) := (unstage _ _).trans (cutLane _ _ _)

/-! ### The fill buffer -/

theorem placeFill (s : State) : CoreKept s (placeFill s) := by
  unfold Machine.placeFill
  split
  · exact placeRequest _ _ _
  · exact refl s

theorem takeChunk (s : State) (p o : Nat) (d : List Byte) : CoreKept s (takeChunk s p o d) := by
  unfold Machine.takeChunk
  dsimp only
  split
  · exact (setPayload _ _ _).trans ((setChunks _ _).trans (placeFill _))
  · exact refl s

theorem ackHead (s : State) (n : Nat) : CoreKept s (ackHead s n) := by
  unfold Machine.ackHead
  repeat' split
  · exact setChunks _ _
  · exact setChunks _ _
  · exact refl s

theorem deleteChunks (s : State) (p : Nat) : CoreKept s (deleteChunks s p) := by
  unfold Machine.deleteChunks
  repeat' split
  · exact setChunks _ _
  · exact (giveUpRequest _ _).trans ((setChunks _ _).trans (placeFill _))
  · exact setChunks _ _

theorem setLeaving (s : State) (ids : List Nat) : CoreKept s (s.setLeaving ids) := by constructor <;> rfl

theorem freeLeft (s : State) (p : Nat) : CoreKept s (freeLeft s p) := by
  unfold Machine.freeLeft
  repeat' split
  · exact (setChunks _ _).trans (freePayload _ _)
  all_goals exact refl s

theorem freeLeaving (s : State) : CoreKept s (freeLeaving s) :=
  (foldl _ freeLeft _ s).trans (setLeaving _ _)

theorem fillDone (s : State) (n : Nat) : CoreKept s (fillDone s n) :=
  (ackHead _ _).trans ((freeLeaving _).trans (placeFill _))

theorem resetFill (s : State) : CoreKept s (resetFill s) := by
  unfold Machine.resetFill
  split
  · exact (setChunks _ _).trans (setLeaving _ _)
  · exact (((giveUpRequest _ _).trans (setChunks _ _)).trans (foldl _ freePayload _ _)).trans (setLeaving _ _)

theorem resetStore (s : State) : CoreKept s (resetStore s) :=
  CoreKept.trans (t := clearRefs s) (by constructor <;> rfl) ((freeDoomed _).trans (resetFill _))

theorem placeReadBack (s : State) (bl : List Nat) (o c : Nat) (g : List Byte) :
    CoreKept s (placeReadBack s bl o c g) := by
  unfold Machine.placeReadBack
  repeat' split
  · exact refl s
  · exact placeRequest _ _ _
  · exact refl s

end CoreKept

/-! ### What follows for the end of an event -/

@[simp] theorem settleLanes_link (s0 s : State) : (settleLanes s0 s).link = s.link := (CoreKept.settleLanes s0 s).link
@[simp] theorem freeDoomed_link (s : State) : s.freeDoomed.link = s.link := (CoreKept.freeDoomed s).link
@[simp] theorem arbitrate_link (s : State) : (arbitrate s).link = s.link := (CoreKept.arbitrate s).link

end Sys2Proof.Machine
end

