-- ==== Sys2Proof/Laws/Link.lean ====
section
/-!
SUPPORT. What the transmitter and the end of an event do on the link, said once: `txBegin` changes the transmitter, the
prompt list, the reply queue and the send states of the held notices and nothing else; an event of a part that listens
is its effect between two chances of the transmitter; a request that is attended to is executed at once.
-/

namespace Sys2Proof.Machine

/-! ### The transmitter -/

@[simp] theorem txBegin_inReset (s : State) : (txBegin s).inReset = s.inReset := by
  unfold txBegin; repeat' split
  all_goals rfl
@[simp] theorem txBegin_device (s : State) : (txBegin s).device = s.device := by
  unfold txBegin; repeat' split
  all_goals rfl
@[simp] theorem txBegin_executing (s : State) : (txBegin s).executing = s.executing := by
  unfold txBegin; repeat' split
  all_goals rfl
@[simp] theorem txBegin_raised (s : State) : (txBegin s).raised = s.raised := by
  unfold txBegin; repeat' split
  all_goals rfl
@[simp] theorem txBegin_time (s : State) : (txBegin s).time = s.time := by
  unfold txBegin; repeat' split
  all_goals rfl
@[simp] theorem txBegin_triggers (s : State) : (txBegin s).triggers = s.triggers := by
  unfold txBegin; repeat' split
  all_goals rfl
@[simp] theorem txBegin_cues (s : State) : (txBegin s).cues = s.cues := by
  unfold txBegin; repeat' split
  all_goals rfl
@[simp] theorem txBegin_lanes (s : State) : (txBegin s).lanes = s.lanes := by
  unfold txBegin; repeat' split
  all_goals rfl
@[simp] theorem txBegin_store (s : State) : (txBegin s).store = s.store := by
  unfold txBegin; repeat' split
  all_goals rfl
@[simp] theorem txBegin_mc (s : State) : (txBegin s).mc = s.mc := by
  unfold txBegin; repeat' split
  all_goals rfl
@[simp] theorem txBegin_refresh (s : State) : (txBegin s).refresh = s.refresh := by
  unfold txBegin; repeat' split
  all_goals rfl
@[simp] theorem txBegin_mem (s : State) : (txBegin s).mem = s.mem := by
  unfold txBegin; repeat' split
  all_goals rfl
@[simp] theorem txBegin_freeReads (s : State) : (txBegin s).freeReads = s.freeReads := by
  unfold txBegin; repeat' split
  all_goals rfl
@[simp] theorem txBegin_pending (s : State) : (txBegin s).pending = s.pending := by
  unfold txBegin; repeat' split
  all_goals rfl
@[simp] theorem txBegin_inbox (s : State) : (txBegin s).link.inbox = s.link.inbox := by
  unfold txBegin; repeat' split
  all_goals rfl
@[simp] theorem txBegin_replies (s : State) : (txBegin s).link.replies = s.link.replies := by
  unfold txBegin; repeat' split
  all_goals rfl
@[simp] theorem txBegin_pendingSync (s : State) : (txBegin s).link.pendingSync = s.link.pendingSync := by
  unfold txBegin; repeat' split
  all_goals rfl
@[simp] theorem txBegin_line (s : State) : (txBegin s).link.line = s.link.line := by
  unfold txBegin; repeat' split
  all_goals rfl
@[simp] theorem txBegin_framer (s : State) : (txBegin s).link.framer = s.link.framer := by
  unfold txBegin; repeat' split
  all_goals rfl
@[simp] theorem txBegin_gapTimer (s : State) : (txBegin s).link.gapTimer = s.link.gapTimer := by
  unfold txBegin; repeat' split
  all_goals rfl
@[simp] theorem txBegin_next (s : State) : (txBegin s).notices.next = s.notices.next := by
  unfold txBegin; repeat' split
  all_goals rfl
@[simp] theorem txBegin_lane (s : State) (l : Fin 4) : (txBegin s).lane l = s.lane l := by simp [State.lane]
@[simp] theorem txBegin_cue? (s : State) (id : Nat) : (txBegin s).cue? id = s.cue? id := by simp [State.cue?]
@[simp] theorem txBegin_payload? (s : State) (id : Nat) : (txBegin s).payload? id = s.payload? id := by
  simp [State.payload?]
@[simp] theorem txBegin_storedFor (s : State) (seq code : Byte) :
    storedFor (txBegin s) seq code = storedFor s seq code := by simp [storedFor]

/-- Whether a part has nothing to begin: its transmitter carries a frame, or nothing waits for it. -/
theorem txBegin_of_busy (s : State) (h : s.link.tx.isSome = true) : txBegin s = s := by
  unfold txBegin
  cases ht : s.link.tx with
  | none => simp [ht] at h
  | some t => rfl

/-- A transmitter with nothing that waits begins nothing. -/
theorem txBegin_of_empty (s : State) (hp : s.link.prompt = []) (hr : s.link.replyQueue = [])
    (hn : nextDueNotice s.notices = none) : txBegin s = s := by
  unfold txBegin
  cases ht : s.link.tx with
  | none => simp [hp, hr, hn]
  | some t => rfl

/-- After `txBegin` the transmitter carries a frame, or nothing waits for it and nothing was changed. -/
theorem txBegin_after (s : State) :
    (txBegin s).link.tx.isSome = true
      ∨ (txBegin s = s ∧ s.link.prompt = [] ∧ s.link.replyQueue = [] ∧ nextDueNotice s.notices = none) := by
  unfold txBegin
  cases ht : s.link.tx with
  | some t => simp [ht]
  | none =>
    cases hp : s.link.prompt with
    | cons f t => simp [State.sendFrame]
    | nil =>
      cases hr : s.link.replyQueue with
      | cons q t => simp [State.sendFrame]
      | nil =>
        cases hn : nextDueNotice s.notices with
        | some n => simp [State.sendFrame]
        | none => simp

@[simp] theorem txBegin_idem (s : State) : txBegin (txBegin s) = txBegin s := by
  rcases txBegin_after s with h | ⟨h, hp, hr, hn⟩
  · exact txBegin_of_busy _ h
  · rw [h, txBegin_of_empty s hp hr hn]

/-- No executed reply waits after `txBegin` where none waited before. -/
theorem txBegin_replyWaits (s : State) (h : replyWaits s = false) : replyWaits (txBegin s) = false := by
  unfold txBegin
  cases ht : s.link.tx with
  | some t => exact h
  | none =>
    cases hp : s.link.prompt with
    | cons f t => exact h
    | nil =>
      cases hr : s.link.replyQueue with
      | cons q t =>
        simp only [replyWaits, hr, List.any_cons, Bool.or_eq_false_iff] at h
        simpa [replyWaits, State.sendFrame] using h.2
      | nil =>
        cases hn : nextDueNotice s.notices with
        | some n => exact h
        | none => exact h

/-- The number of held notices is as it was. -/
theorem beginFirstDue_length (l : List Notice) : (beginFirstDue l).length = l.length := by
  induction l with
  | nil => rfl
  | cons n t ih => unfold beginFirstDue; split <;> simp [ih]

@[simp] theorem txBegin_held_length (s : State) : (txBegin s).notices.held.length = s.notices.held.length := by
  unfold txBegin; repeat' split
  all_goals first | rfl | simp [State.sendFrame, beginFirstDue_length]

/-! ### The end of an event -/

@[simp] theorem heard_inReset (s : State) : (heard s).inReset = s.inReset := by simp [heard]
@[simp] theorem heard_device (s : State) : (heard s).device = s.device := by simp [heard]
@[simp] theorem heard_executing (s : State) : (heard s).executing = s.executing := by simp [heard]
@[simp] theorem heard_raised (s : State) : (heard s).raised = [] := by simp [heard]
@[simp] theorem heard_time (s : State) : (heard s).time = s.time := by simp [heard]
@[simp] theorem heard_triggers (s : State) : (heard s).triggers = s.triggers := by simp [heard]
@[simp] theorem heard_cues (s : State) : (heard s).cues = s.cues := by simp [heard]
@[simp] theorem heard_lanes (s : State) : (heard s).lanes = s.lanes := by simp [heard]
@[simp] theorem heard_store (s : State) : (heard s).store = s.store := by simp [heard]
@[simp] theorem heard_mc (s : State) : (heard s).mc = s.mc := by simp [heard]
@[simp] theorem heard_refresh (s : State) : (heard s).refresh = s.refresh := by simp [heard]
@[simp] theorem heard_mem (s : State) : (heard s).mem = s.mem := by simp [heard]
@[simp] theorem heard_freeReads (s : State) : (heard s).freeReads = s.freeReads := by simp [heard]
@[simp] theorem heard_pending (s : State) : (heard s).pending = s.pending := by simp [heard]
@[simp] theorem heard_inbox (s : State) : (heard s).link.inbox = s.link.inbox := by simp [heard]
@[simp] theorem heard_replies (s : State) : (heard s).link.replies = s.link.replies := by simp [heard]
@[simp] theorem heard_pendingSync (s : State) : (heard s).link.pendingSync = s.link.pendingSync := by simp [heard]
@[simp] theorem heard_line (s : State) : (heard s).link.line = s.link.line := by simp [heard]
@[simp] theorem heard_framer (s : State) : (heard s).link.framer = s.link.framer := by simp [heard]
@[simp] theorem heard_gapTimer (s : State) : (heard s).link.gapTimer = s.link.gapTimer := by simp [heard]
@[simp] theorem heard_lane (s : State) (l : Fin 4) : (heard s).lane l = s.lane l := by simp [State.lane]
@[simp] theorem heard_cue? (s : State) (id : Nat) : (heard s).cue? id = s.cue? id := by simp [State.cue?]
@[simp] theorem heard_payload? (s : State) (id : Nat) : (heard s).payload? id = s.payload? id := by
  simp [State.payload?]

/-- What `listens` says. -/
theorem listens_iff (s : State) :
    listens s = true ↔ s.inReset = false ∧ s.raised = [] ∧ s.link.inbox = [] := by
  simp [listens, and_assoc]

/-- What `attends` says. -/
theorem attends_iff (s : State) (seq code : Byte) :
    attends s seq code = true ↔
      s.inReset = false ∧ s.raised = [] ∧ s.link.inbox = [] ∧ s.link.line = .on ∧ s.executing = none
        ∧ s.link.pendingSync = none ∧ replyWaits s = false ∧ storedFor s seq code = none := by
  simp [attends, listens, lineOn, and_assoc]

/-- On a line that is ON a frame of the host is an event (R140). -/
theorem frameEvent_eq (f : State → State) (s : State) (h : s.link.line = .on) : frameEvent f s = event f s := by
  simp [frameEvent, eventIf, lineOn, h]

/-- An ARMING line receives no frame (R140). -/
theorem frameEvent_arming (f : State → State) (s : State) (h : s.link.line = .arming) : frameEvent f s = s := by
  simp [frameEvent, eventIf, lineOn, h]

/-- The interpreter takes nothing from an empty inbox. -/
theorem takeNext_of_empty (s : State) (h : s.link.inbox = []) : takeNext s = s := by
  unfold takeNext
  cases s.executing <;> simp [h]

/-- A turn of the link on an empty inbox is a chance of the transmitter. -/
theorem linkTurn_of_empty (s : State) (h : s.link.inbox = []) : linkTurn s = txBegin s :=
  takeNext_of_empty _ (by simpa using h)

/-- The link settles on an empty inbox by one chance of the transmitter. -/
theorem linkSettle_of_empty (s : State) (h : s.link.inbox = []) : linkSettle s = txBegin s := by
  unfold linkSettle
  rw [linkTurn_of_empty s h, linkTurn_of_empty _ (by simpa using h), txBegin_idem]

/-- Any event in a part that is not in pin reset: its effect, and the end of an event on the link. -/
theorem event_ended (f : State → State) (s : State) (h : s.inReset = false) : event f s = ended (f (txBegin s)) := by
  simp [event, h, ended]

/-- The same for an event with a condition that holds. -/
theorem eventIf_ended (holds : State → Bool) (f : State → State) (s : State) (hh : holds s = true)
    (h : s.inReset = false) : eventIf holds f s = ended (f (txBegin s)) := by
  rw [eventIf, if_pos hh, event_ended f s h]

/-- An event in a pin reset changes nothing. -/
theorem event_inReset (f : State → State) (s : State) (h : s.inReset = true) : event f s = s := by simp [event, h]

/-- The interpreter takes nothing while a request executes, nor while an executed reply waits (R149). -/
theorem takeNext_of_busy (s : State) (h : s.executing.isSome = true ∨ replyWaits s = true) : takeNext s = s := by
  unfold takeNext
  cases he : s.executing with
  | some e => rfl
  | none =>
    rw [he] at h
    cases hi : s.link.inbox with
    | nil => rfl
    | cons e t => simp [h.resolve_left (by simp)]

/-- The interpreter takes nothing while a request executes (R149). -/
theorem linkSettle_of_executing (s : State) (h : s.executing.isSome = true) : linkSettle s = txBegin s := by
  have h1 : linkTurn s = txBegin s := takeNext_of_busy _ (Or.inl (by simpa using h))
  have h2 : linkTurn (txBegin s) = txBegin (txBegin s) := takeNext_of_busy _ (Or.inl (by simpa using h))
  rw [linkSettle, h1, h2, txBegin_idem]

/-- An event on an empty inbox ends with one chance of the transmitter. -/
theorem ended_of_empty (s : State) (h : s.link.inbox = []) : ended s = heard s :=
  linkSettle_of_empty _ (by simpa using h)

/-- The end of an event after which the interpreter takes nothing. -/
theorem ended_eq_heard (s : State) (h : takesNothing s = true) : ended s = heard s := by
  rw [takesNothing, Bool.or_eq_true] at h
  rcases h with h | h
  · exact ended_of_empty s (by simpa using h)
  · exact linkSettle_of_executing _ (by simpa using h)

/-! ### Arrivals -/

/-- A request that is attended to is not in progress. -/
theorem not_inProgress (s : State) (seq : Byte) (hi : s.link.inbox = []) (he : s.executing = none)
    (hw : replyWaits s = false) : inProgress s seq = false := by
  have hq : s.link.replyQueue.any (fun q => q.answers seq) = false := by
    rw [List.any_eq_false]
    intro q hq
    have := List.any_eq_false.mp hw q hq
    cases q <;> simp_all [QueuedReply.isExecuted, QueuedReply.answers]
  simp [inProgress, hi, he, hq]

/-- A request that is attended to is admitted to the empty inbox. -/
theorem sortRequest_admitted (s : State) (seq : Byte) (body : List Byte) (hi : s.link.inbox = [])
    (he : s.executing = none) (hw : replyWaits s = false) (hs : storedFor s seq (byteAt body 0) = none) :
    sortRequest s seq body = { s with link := { s.link with inbox := [{ seq := seq, body := body }] } } := by
  simp [sortRequest, not_inProgress s seq hi he hw, hs, hi, Config.inboxSize]

/-- The interpreter executes the one request of the inbox. -/
theorem linkTurn_one (s : State) (seq : Byte) (body : List Byte) (hi : s.link.inbox = []) (he : s.executing = none)
    (hw : replyWaits s = false) (ht : txBegin s = s) :
    linkTurn { s with link := { s.link with inbox := [{ seq := seq, body := body }] } }
      = (execute s seq body).offerRaised := by
  have ht' : txBegin { s with link := { s.link with inbox := [{ seq := seq, body := body }] } }
      = { s with link := { s.link with inbox := [{ seq := seq, body := body }] } } := by
    rcases txBegin_after s with h | ⟨-, hp, hr, hn⟩
    · exact txBegin_of_busy _ (by rw [ht] at h; exact h)
    · exact txBegin_of_empty _ hp hr hn
  unfold linkTurn
  rw [ht']
  obtain ⟨_, _, ex, ⟨_, _, _, ib, _, _, _, _, _⟩, _, _, _, _, _, _, _, _, _, _, _, _⟩ := s
  subst hi he
  simp only [replyWaits] at hw
  simp [takeNext, replyWaits, hw]

/-- A request frame that is attended to is executed in the event in which it arrives (R146, R149). -/
theorem requestEvent_eq (s : State) (seq : Byte) (body : List Byte) (h : attends s seq (byteAt body 0) = true)
    (hb : body ≠ []) (hl : body.length ≤ Config.maxBody)
    (hx : (execute (txBegin s) seq body).link.inbox = []) :
    frameEvent (fun a => requestFrame a seq body) s = heard (execute (txBegin s) seq body) := by
  obtain ⟨hr, hq, hi, hl', he, hp, hw, hs⟩ := (attends_iff _ _ _).mp h
  rw [frameEvent_eq _ s hl']
  have hb' : ¬(body.isEmpty = true ∨ Config.maxBody < body.length) := by
    cases body <;> simp_all
  simp only [event, hr, Bool.false_eq_true, if_false, requestFrame, if_neg hb']
  rw [sortRequest_admitted (txBegin s) seq body (by simpa using hi) (by simpa using he) (txBegin_replyWaits s hw)
    (by simpa using hs)]
  rw [offerRaised_of_nil (show _ = [] by simpa using hq)]
  unfold linkSettle
  rw [linkTurn_one (txBegin s) seq body (by simpa using hi) (by simpa using he) (txBegin_replyWaits s hw)
    (txBegin_idem s)]
  exact linkTurn_of_empty _ (by simpa using hx)

end Sys2Proof.Machine
end

