-- ==== Sys2Proof/Laws/Events.lean ====
section
/-!
SUPPORT. The end of an execution, and what an event ends with in the lanes, the store, the interpreter and the port:
what these never touch, and that they do nothing where there is nothing to do.
-/

namespace Sys2Proof.Machine

/-! ### Replies -/

@[simp] theorem queueReply_executing (s : State) (seq code : Byte) (st : Status) (r : List Byte) :
    (queueReply s seq code st r).executing = none := rfl
@[simp] theorem queueReply_inbox (s : State) (seq code : Byte) (st : Status) (r : List Byte) :
    (queueReply s seq code st r).link.inbox = s.link.inbox := rfl
@[simp] theorem queueReply_pendingSync (s : State) (seq code : Byte) (st : Status) (r : List Byte) :
    (queueReply s seq code st r).link.pendingSync = s.link.pendingSync := rfl

/-- With no SYNC waiting, the end of an execution is its reply (R150, R152). -/
theorem endExecution_eq (s : State) (seq code : Byte) (st : Status) (r : List Byte) (h : s.link.pendingSync = none) :
    endExecution s seq code st r = queueReply s seq code st r := by
  simp [endExecution, syncDeferred, h]

/-- What the end of an execution and what follows it keep: the pin reset, the device state, the time base, the trigger
unit, the SDRAM contents, the queue of commands, and the receive side and transmitter of the link. -/
structure OuterKept (s t : State) : Prop where
  inReset : t.inReset = s.inReset
  device : t.device = s.device
  time : t.time = s.time
  triggers : t.triggers = s.triggers
  mem : t.mem = s.mem
  freeReads : t.freeReads = s.freeReads
  pending : t.pending = s.pending
  line : t.link.line = s.link.line
  framer : t.link.framer = s.link.framer
  gapTimer : t.link.gapTimer = s.link.gapTimer
  inbox : t.link.inbox = s.link.inbox
  tx : t.link.tx = s.link.tx
  prompt : t.link.prompt = s.link.prompt

namespace OuterKept

theorem refl (s : State) : OuterKept s s := ⟨rfl, rfl, rfl, rfl, rfl, rfl, rfl, rfl, rfl, rfl, rfl, rfl, rfl⟩

theorem trans {s t u : State} (h : OuterKept s t) (k : OuterKept t u) : OuterKept s u :=
  ⟨k.inReset.trans h.inReset, k.device.trans h.device, k.time.trans h.time, k.triggers.trans h.triggers,
    k.mem.trans h.mem, k.freeReads.trans h.freeReads, k.pending.trans h.pending, k.line.trans h.line,
    k.framer.trans h.framer, k.gapTimer.trans h.gapTimer, k.inbox.trans h.inbox, k.tx.trans h.tx,
    k.prompt.trans h.prompt⟩

theorem ofCore {s t : State} (h : CoreKept s t) : OuterKept s t :=
  ⟨h.inReset, h.device, h.time, h.triggers, h.mem, h.freeReads, h.pending, by rw [h.link], by rw [h.link],
    by rw [h.link], by rw [h.link], by rw [h.link], by rw [h.link]⟩

theorem syncDeferred (s : State) : OuterKept s (syncDeferred s) := by
  unfold Machine.syncDeferred
  split <;> constructor <;> rfl

theorem endExecution (s : State) (seq code : Byte) (st : Status) (r : List Byte) :
    OuterKept s (endExecution s seq code st r) :=
  OuterKept.trans (t := queueReply s seq code st r) (by constructor <;> rfl) (syncDeferred _)

theorem finishSeal (s : State) (seq code : Byte) (p : Nat) (e : Option (BitVec 32)) :
    OuterKept s (finishSeal s seq code p e) := by
  unfold Machine.finishSeal
  repeat' split
  · exact endExecution _ _ _ _ _
  · exact (ofCore (CoreKept.setPayload _ _ _)).trans (endExecution _ _ _ _ _)
  · exact (ofCore (CoreKept.freePayload _ _)).trans (endExecution _ _ _ _ _)
  · exact endExecution _ _ _ _ _

theorem resume (s : State) : OuterKept s (resume s) := by
  unfold Machine.resume
  repeat' split
  all_goals first
    | exact refl s
    | exact endExecution _ _ _ _ _
    | exact finishSeal _ _ _ _ _
    | exact (ofCore (CoreKept.takeChunk _ _ _ _)).trans (endExecution _ _ _ _ _)
    | exact (ofCore (CoreKept.freePayload _ _)).trans (endExecution _ _ _ _ _)
    | exact ofCore (CoreKept.placeReadBack _ _ _ _ _)

theorem coreTail (s0 s : State) : OuterKept s (coreTail s0 s) :=
  (((ofCore (CoreKept.settleLanes s0 s)).trans (ofCore (CoreKept.freeDoomed _))).trans (resume _)).trans
    (ofCore (CoreKept.arbitrate _))

end OuterKept

@[simp] theorem endExecution_inbox (s : State) (seq code : Byte) (st : Status) (r : List Byte) :
    (endExecution s seq code st r).link.inbox = s.link.inbox := (OuterKept.endExecution s seq code st r).inbox
@[simp] theorem coreTail_inbox (s0 s : State) : (coreTail s0 s).link.inbox = s.link.inbox :=
  (OuterKept.coreTail s0 s).inbox

/-! ### What the end of an occurrence leaves -/

/-- The time base, the lanes and the memory controller are as they were: what an event in the cue table and the store
leaves. -/
structure CuesOnly (s t : State) : Prop where
  time : t.time = s.time
  lanes : t.lanes = s.lanes
  mc : t.mc = s.mc

namespace CuesOnly

theorem refl (s : State) : CuesOnly s s := ⟨rfl, rfl, rfl⟩

theorem trans {s t u : State} (h : CuesOnly s t) (k : CuesOnly t u) : CuesOnly s u :=
  ⟨k.time.trans h.time, k.lanes.trans h.lanes, k.mc.trans h.mc⟩

theorem raise (s : State) (b : NoticeBody) : CuesOnly s (s.raise b) := ⟨rfl, rfl, rfl⟩

theorem setCue (s : State) (id : Nat) (c : Cue) : CuesOnly s (s.setCue id c) := ⟨rfl, rfl, rfl⟩

theorem dropCue (s : State) (id : Nat) : CuesOnly s (s.dropCue id) := ⟨rfl, rfl, rfl⟩

theorem dropRef (s : State) (id : Nat) : CuesOnly s (s.dropRef id) := by
  unfold State.dropRef
  split <;> exact ⟨rfl, rfl, rfl⟩

theorem raiseSkipped (s : State) (id : Nat) (c : Cue) (n : Nat) (d : Option Nat) :
    CuesOnly s (raiseSkipped s id c n d) := by
  unfold Machine.raiseSkipped
  split <;> exact ⟨rfl, rfl, rfl⟩

theorem noteCancelled (s : State) (id : Nat) (c : Cue) : CuesOnly s (noteCancelled s id c) := by
  unfold Machine.noteCancelled
  repeat' split
  all_goals exact ⟨rfl, rfl, rfl⟩

theorem noteStopped (s : State) (b : Bool) : CuesOnly s (noteStopped s b) := by
  unfold Machine.noteStopped
  split <;> exact ⟨rfl, rfl, rfl⟩

theorem endCue (s : State) (id : Nat) (c : Cue) (r : EndReason) : CuesOnly s (endCue s id c r) := by
  unfold Machine.endCue
  dsimp only
  split
  · exact ((dropRef _ _).trans (raise _ _)).trans (dropCue _ _)
  · exact ((dropRef _ _).trans (raise _ _)).trans (setCue _ _ _)

theorem nextOccurrence (s : State) (id : Nat) (c : Cue) (d n : Nat) : CuesOnly s (nextOccurrence s id c d n) := by
  unfold Machine.nextOccurrence
  repeat' split
  · exact (raiseSkipped _ _ _ _ _).trans (endCue _ _ _ _)
  all_goals exact (raiseSkipped _ _ _ _ _).trans (setCue _ _ _)

theorem endSkipped (s : State) (id : Nat) (c : Cue) (r : OccResult) : CuesOnly s (endSkipped s id c r) := by
  unfold Machine.endSkipped
  dsimp only
  repeat' split
  · exact (raiseSkipped _ _ _ _ _).trans (endCue _ _ _ _)
  · exact nextOccurrence _ _ _ _ _
  · exact nextOccurrence _ _ _ _ _
  · exact (raiseSkipped _ _ _ _ _).trans (setCue _ _ _)

theorem endReleased (s : State) (id : Nat) (c : Cue) (r : OccResult) (late fault : Bool) (n : Nat) :
    CuesOnly s (endReleased s id c r late fault n) := by
  have reported : CuesOnly s
      (if (c.recordReleased r late fault n).reports then
        s.raise (.cueOccurrence id r late fault n ((c.started.map StartReport.lateness).getD 0)
          (c.recordReleased r late fault n).used)
      else s) := by
    split
    · exact raise _ _
    · exact refl s
  unfold Machine.endReleased
  refine reported.trans ?_
  dsimp only
  generalize (if (c.recordReleased r late fault n).reports then _ else s) = u
  repeat' split
  · exact (noteCancelled _ _ _).trans (endCue _ _ _ _)
  · exact (noteStopped _ _).trans (endCue _ _ _ _)
  · exact (noteStopped _ _).trans (setCue _ _ _)
  · exact endCue _ _ _ _
  · exact nextOccurrence _ _ _ _ _
  · exact setCue _ _ _

theorem reportCut (s : State) (x : Lane) : CuesOnly s (reportCut s x) := by
  unfold Machine.reportCut
  repeat' split
  · exact endReleased _ _ _ _ _ _ _
  all_goals exact refl s

end CuesOnly

/-- A flush that is over leaves its lane IDLE. -/
theorem endFlush_lane (s : State) (l : Fin 4) (h : flushOver s l = true) :
    (endFlush s l).lane l = (s.lane l).toIdle := by
  have hl : (endFlush s l).lanes = (s.setLane l (s.lane l).toIdle).lanes := by
    rw [endFlush, if_pos h]
    exact (CuesOnly.reportCut _ _).lanes
  rw [State.lane, hl]
  exact quad_get_set_self _ _ _

/-! ### Where there is nothing to do -/

/-- A lane that rests is left as it is. -/
theorem settleLane_rests (s0 s : State) (l : Fin 4) (h : laneRests s0 s l = true) : settleLane s0 s l = s := by
  simp only [laneRests, Bool.and_eq_true, Bool.not_eq_true', Bool.and_eq_false_iff] at h
  obtain ⟨⟨hf, he⟩, hc⟩ := h
  have h1 : endFlush s l = s := by simp [endFlush, hf]
  have h2 : restage s0 s l = s := by
    unfold restage
    rw [if_neg]
    rintro hx
    rw [Bool.and_eq_true] at hx
    rcases he with he | he
    · rw [he] at hx; exact absurd hx.1 (by simp)
    · rw [he] at hx; exact absurd hx.2 (by simp)
  have h3 : pickFor s l = s := by
    unfold pickFor
    split
    · rename_i hi
      rcases hc with hc | hc
      · exact absurd hi (by simpa using hc)
      · split
        · rename_i e; rw [e] at hc; exact absurd hc (by simp)
        · rfl
    · rfl
  rw [settleLane, h1, h2, h1, h3]

/-- Four lanes that rest are left as they are. -/
theorem settleLanes_rests (s0 s : State) (h : fours.all (laneRests s0 s) = true) : settleLanes s0 s = s := by
  rw [List.all_eq_true] at h
  simp only [settleLanes, fours, List.foldl_cons, List.foldl_nil]
  rw [settleLane_rests s0 s 0 (h 0 (by simp [fours])), settleLane_rests s0 s 1 (h 1 (by simp [fours])),
    settleLane_rests s0 s 2 (h 2 (by simp [fours])), settleLane_rests s0 s 3 (h 3 (by simp [fours]))]

/-- A lane with a staged cue that is not to be given back is left as it is. -/
theorem settleLane_staged (s0 s : State) (l : Fin 4) (h : (s.lane l).state.holdsStaged = true)
    (hd : (decide (heldDue s l ≤ s.time.device) || !displacedBy s0 s l (heldDue s l)) = true) :
    settleLane s0 s l = s := by
  have hst : (s.lane l).state ≠ .flushing ∧ (s.lane l).state ≠ .idle := by
    cases hs : (s.lane l).state <;> simp_all [LaneState.holdsStaged]
  have h1 : endFlush s l = s := by simp [endFlush, flushOver, hst.1]
  have h2 : restage s0 s l = s := by
    unfold restage
    split
    · split
      · split
        · rename_i _ h hx _ c hc
          have : heldDue s l = c.due.getD 0 := by
            unfold heldDue
            rw [hx]
            simp only [hc]
          rw [this, Bool.or_eq_true] at hd
          rw [if_neg]
          rcases hd with hd | hd
          · simp only [decide_eq_true_eq] at hd
            simp [Nat.not_lt.mpr hd]
          · simp only [Bool.not_eq_true'] at hd
            simp [hd]
        · rfl
      · rfl
    · rfl
  rw [settleLane, h1, h2, h1, pickFor, if_neg hst.2]

/-- Where the other lanes rest before and after, the four lanes settle as lane `l` does. -/
theorem settleLanes_one (s0 s : State) (l : Fin 4) (h : othersRest s0 s l = true)
    (h' : othersRest s0 (settleLane s0 s l) l = true) : settleLanes s0 s = settleLane s0 s l := by
  have rest : ∀ t, othersRest s0 t l = true → ∀ m, m ≠ l → settleLane s0 t m = t := by
    intro t ht m hm
    simp only [othersRest, List.all_eq_true, Bool.or_eq_true, decide_eq_true_eq] at ht
    exact settleLane_rests s0 t m ((ht m (by match m with | 0 | 1 | 2 | 3 => simp [fours])).resolve_left hm)
  simp only [settleLanes, fours, List.foldl_cons, List.foldl_nil]
  match l with
  | 0 => rw [rest _ h' 1 (by decide), rest _ h' 2 (by decide), rest _ h' 3 (by decide)]
  | 1 => rw [rest _ h 0 (by decide), rest _ h' 2 (by decide), rest _ h' 3 (by decide)]
  | 2 => rw [rest _ h 0 (by decide), rest _ h 1 (by decide), rest _ h' 3 (by decide)]
  | 3 => rw [rest _ h 0 (by decide), rest _ h 1 (by decide), rest _ h 2 (by decide)]

/-- An event that goes on leaves every lane but `l` at rest. -/
theorem goesOn_othersRest (s0 s : State) (l : Fin 4) (h : (goesOn s0 s || goesOnStaged s0 s l) = true) :
    othersRest s0 s l = true := by
  rw [Bool.or_eq_true] at h
  rcases h with h | h
  · simp only [goesOn, calm, Bool.and_eq_true, List.all_eq_true] at h
    simp only [othersRest, List.all_eq_true, Bool.or_eq_true]
    exact fun m hm => Or.inr (h.1.1 m hm)
  · simp only [goesOnStaged, Bool.and_eq_true] at h
    exact h.1.1.2

/-- With no DOOMED payload unused nothing is freed. -/
theorem freeDoomed_none (s : State) (h : (doomedUnused s).isEmpty = true) : s.freeDoomed = s := by
  have h' : doomedUnused s = [] := by simpa using h
  simp [State.freeDoomed, h']

/-- An executing request whose wait goes on stays executing. -/
theorem resume_waits (s : State) (h : waitGoesOn s = true) : resume s = s := by
  unfold resume
  unfold waitGoesOn at h
  cases he : s.executing with
  | none => rfl
  | some e =>
    obtain ⟨seq, code, w⟩ := e
    rw [he] at h
    cases w
    case readBack b o c g =>
      simp only [Bool.and_eq_true, decide_eq_true_eq] at h
      simp [Nat.not_le.mpr h.1, placeReadBack, h.2]
    case cancel c k => cases k <;> simp_all
    all_goals simp_all

/-- A port that rests begins nothing. -/
theorem arbitrate_rests (s : State) (h : portRests s = true) : arbitrate s = s := by
  unfold arbitrate
  unfold portRests at h
  cases hp : s.mc.port with
  | some op => rfl
  | none =>
    simp only [hp, Option.isSome_none, Bool.false_or] at h
    cases hd : s.device with
    | unconfigured => rfl
    | ready =>
      simp only [hd, Option.isNone_iff_eq_none] at h
      simp [h]
    | initializing =>
      simp only [hd] at h
      simp only [issueBringUp]
      cases hb : s.mc.bringUp with
      | none => rfl
      | some b =>
        simp only [hb, decide_eq_true_eq] at h
        simp [h]

/-- The arbiter leaves the executing request alone. -/
theorem arbitrate_executing (s : State) : (arbitrate s).executing = s.executing := by
  have hd : ∀ (t : State) (r : Requester), (dropRequest t r).executing = t.executing := by
    intro t r; cases r <;> rfl
  have hb : ∀ (t : State) (r : Requester) (q : MemRequest), (beginTransaction t r q).executing = t.executing := by
    intro t r q
    unfold beginTransaction
    dsimp only
    repeat' split
    all_goals rfl
  have hg : ∀ g, (carryOutGrant s g).executing = s.executing := by
    intro g
    cases g with
    | refresh =>
      show (beginRefresh s).executing = _
      unfold beginRefresh
      dsimp only
      split <;> rfl
    | access r =>
      simp only [carryOutGrant]
      split
      · rw [hb, hd]
      · rfl
  have hi : (issueBringUp s).executing = s.executing := by
    unfold issueBringUp
    repeat' split
    all_goals rfl
  unfold arbitrate
  repeat' split
  all_goals first | rfl | exact hg _ | exact hi

/-- An event that leaves the lanes and the store calm ends with the executing request and the port alone. -/
theorem coreTail_calm (s0 s : State) (h : calm s0 s = true) : coreTail s0 s = arbitrate (resume s) := by
  simp only [calm, Bool.and_eq_true] at h
  rw [coreTail, settleLanes_rests s0 s h.1, freeDoomed_none s h.2]

/-- An event after which one lane settles and that goes on from there ends with the arbiter's test. -/
theorem coreTail_laneLeads (s0 s : State) (l : Fin 4) (h : laneLeads s0 s (settleLane s0 s l) l = true) :
    coreTail s0 s = arbitrate (settleLane s0 s l) := by
  simp only [laneLeads, Bool.and_eq_true] at h
  have hu := h.2
  rw [coreTail, settleLanes_one s0 s l h.1 (goesOn_othersRest _ _ _ hu)]
  rw [Bool.or_eq_true] at hu
  rcases hu with hu | hu
  · simp only [goesOn, calm, Bool.and_eq_true] at hu
    rw [freeDoomed_none _ hu.1.2, resume_waits _ hu.2]
  · simp only [goesOnStaged, Bool.and_eq_true] at hu
    rw [freeDoomed_none _ hu.1.2, resume_waits _ hu.2]

/-- A lane whose flush ends and which then picks settles so, if it goes on from there. -/
theorem settleLane_flush_pick (s0 s : State) (l : Fin 4)
    (h : (goesOn s0 (pickFor (endFlush s l) l) || goesOnStaged s0 (pickFor (endFlush s l) l) l) = true) :
    settleLane s0 s l = pickFor (endFlush s l) l := by
  have idle : ∀ t : State, (t.lane l).state.holdsStaged = false → restage s0 t l = t := by
    intro t ht
    simp [restage, ht]
  by_cases hs : ((endFlush s l).lane l).state.holdsStaged = true
  · have hi : ((endFlush s l).lane l).state ≠ .idle := by
      intro e
      simp [e, LaneState.holdsStaged] at hs
    have hp : pickFor (endFlush s l) l = endFlush s l := by rw [pickFor, if_neg hi]
    have hf : endFlush s l = s := by
      by_cases ho : flushOver s l = true
      · exact absurd hs (by rw [endFlush_lane s l ho]; simp [Lane.toIdle, LaneState.holdsStaged])
      · rw [endFlush, if_neg ho]
    rw [hp, hf] at h ⊢
    rw [Bool.or_eq_true] at h
    rcases h with h | h
    · simp only [goesOn, calm, Bool.and_eq_true, List.all_eq_true] at h
      exact settleLane_rests s0 s l (h.1.1 l (by match l with | 0 | 1 | 2 | 3 => simp [fours]))
    · simp only [goesOnStaged, Bool.and_eq_true] at h
      exact settleLane_staged s0 s l h.1.1.1.1 h.1.1.1.2
  · have hr := idle (endFlush s l) (by simpa using hs)
    have he : endFlush (endFlush s l) l = endFlush s l := by
      by_cases ho : flushOver s l = true
      · have : ((endFlush s l).lane l).state = .idle := by
          rw [endFlush_lane s l ho]
          simp [Lane.toIdle]
        simp [endFlush.eq_def (endFlush s l), flushOver, this]
      · have : endFlush s l = s := by rw [endFlush, if_neg ho]
        rw [this, this]
    rw [settleLane, hr, he]

/-- The flush of one lane that ends, and its next pick, are all that such an event ends with beside the arbiter's test. -/
theorem coreTail_flush_pick (s0 s : State) (l : Fin 4)
    (h : laneLeads s0 s (pickFor (endFlush s l) l) l = true) :
    coreTail s0 s = arbitrate (pickFor (endFlush s l) l) := by
  have hu : settleLane s0 s l = pickFor (endFlush s l) l := by
    simp only [laneLeads, Bool.and_eq_true] at h
    exact settleLane_flush_pick s0 s l h.2
  rw [← hu] at h ⊢
  exact coreTail_laneLeads s0 s l h

/-- An event that leaves nothing to do ends with nothing. -/
theorem coreTail_settled (s0 s : State) (h : settled s0 s = true) : coreTail s0 s = s := by
  simp only [settled, goesOn, Bool.and_eq_true] at h
  rw [coreTail_calm s0 s h.1.1, resume_waits s h.1.2, arbitrate_rests s h.2]

/-- Any event in the lanes, the cues or the memory: its effect, with what it ends with. -/
theorem coreEvent_finished (f : State → State) (s : State) (h : s.inReset = false) :
    coreEvent f s = finished (txBegin s) (f (txBegin s)) :=
  event_ended (fun a => coreTail a (f a)) s h

/-- The same for an event with a condition that holds. -/
theorem coreEventIf_finished (holds : State → Bool) (f : State → State) (s : State) (hh : holds s = true)
    (h : s.inReset = false) : coreEventIf holds f s = finished (txBegin s) (f (txBegin s)) := by
  rw [coreEventIf, if_pos hh, coreEvent_finished f s h]

/-- An event that leaves nothing more to do ends on the link at once. -/
theorem finished_settled (s0 s : State) (h : settled s0 s = true) : finished s0 s = ended s := by
  rw [finished, coreTail_settled s0 s h]

/-- An event that goes on ends with the arbiter's test and on the link. -/
theorem finished_goesOn (s0 s : State) (h : goesOn s0 s = true) : finished s0 s = concluded s := by
  simp only [goesOn, Bool.and_eq_true] at h
  rw [finished, coreTail_calm _ _ h.1, resume_waits _ h.2]
  rfl

end Sys2Proof.Machine
end

