-- ==== Sys2Proof/Laws/Requests.lean ====
section
/-!
SUPPORT. How a request that is attended to runs, said once: it is decoded, accepted or refused by the grid, executed, and
answered in the event in which it arrives.
-/

namespace Sys2Proof.Machine

/-- A named request is the arrival of its frame. -/
theorem exec_command (seq : Byte) (r : Req) (s : State) : exec (r.command seq) s = .next (hostRequest seq r s) := by
  cases r <;> rfl

/-- What `decodeBody` says when it answers a request. -/
theorem decodeBody_ok (body : List Byte) (r : Req) (h : decodeBody body = .ok r) :
    readBody body = some r ∧ formatCheck body = none := by
  unfold decodeBody at h
  split at h
  · cases h
  · split at h
    · cases h
    · rename_i h1 _ h2
      cases h
      exact ⟨h1, h2⟩

/-- A request's body opens with its code (R145). -/
@[simp] theorem byteAt_encodeBody (r : Req) : byteAt (encodeBody r) 0 = r.code := rfl

/-- A request's body is not empty. -/
theorem encodeBody_ne (r : Req) : encodeBody r ≠ [] := by simp [encodeBody]

/-- A decoded request that the grid accepts is run by the block that owns it (R129). -/
theorem execute_run (s : State) (seq : Byte) (body : List Byte) (r : Req) (hd : decodeBody body = .ok r)
    (ha : accepted (byteAt body 0) s.device = true) :
    execute s seq body = conclude s seq (byteAt body 0) (runRequest s seq r) := by
  obtain ⟨h1, h2⟩ := decodeBody_ok body r hd
  simp only [execute, h1, ha, if_true, h2]

/-- The inbox is left to the interpreter by what follows a request's answer. -/
theorem conclude_inbox (s0 : State) (seq code : Byte) (out : State × Answer) :
    (conclude s0 seq code out).link.inbox = out.1.link.inbox := by
  unfold conclude
  split <;> simp

/-- Whether anything is left to do after an event does not depend on the reply it queues. -/
theorem settled_queueReply (s0 t : State) (seq code : Byte) (st : Status) (r : List Byte) (h : t.executing = none) :
    settled s0 (queueReply t seq code st r) = settled s0 t := by
  have hw : waitGoesOn t = true := by simp [waitGoesOn, h]
  have hc : calm s0 (queueReply t seq code st r) = calm s0 t := rfl
  have hp : portRests (queueReply t seq code st r) = portRests t := rfl
  have hw' : waitGoesOn (queueReply t seq code st r) = true := rfl
  simp only [settled, goesOn, hw, hw', hc, hp]

/-- A request answered by a plain reply (R149, R150). -/
theorem hostRequest_says (s t : State) (seq : Byte) (r : Req) (st : Status) (res : List Byte)
    (h : attends s seq r.code = true) (hl : (encodeBody r).length ≤ Config.maxBody)
    (hd : decodeBody (encodeBody r) = .ok r) (ha : accepted r.code s.device = true)
    (hrun : runRequest (txBegin s) seq r = (t, .says st res)) (hi : t.link.inbox = [])
    (hp : t.link.pendingSync = none) :
    hostRequest seq r s = replied t seq r.code st res := by
  have hx : execute (txBegin s) seq (encodeBody r) = queueReply t seq r.code st res := by
    rw [execute_run _ _ _ r hd (by simpa using ha), hrun, byteAt_encodeBody]
    exact endExecution_eq _ _ _ _ _ hp
  unfold hostRequest
  rw [requestEvent_eq s seq (encodeBody r) (by simpa using h) (encodeBody_ne r) hl (by rw [hx]; simpa using hi), hx]
  exact (ended_of_empty _ (by simpa using hi)).symm

/-- A request answered by a reply after which the lanes, the store and the port have nothing to do. -/
theorem hostRequest_did (s t : State) (seq : Byte) (r : Req) (st : Status) (res : List Byte)
    (h : attends s seq r.code = true) (hl : (encodeBody r).length ≤ Config.maxBody)
    (hd : decodeBody (encodeBody r) = .ok r) (ha : accepted r.code s.device = true)
    (hrun : runRequest (txBegin s) seq r = (t, .did st res)) (hi : t.link.inbox = [])
    (hp : t.link.pendingSync = none) (he : t.executing = none) (hs : settled (txBegin s) t = true) :
    hostRequest seq r s = replied t seq r.code st res := by
  have hx : execute (txBegin s) seq (encodeBody r) = queueReply t seq r.code st res := by
    rw [execute_run _ _ _ r hd (by simpa using ha), hrun, byteAt_encodeBody]
    show coreTail _ (endExecution t seq r.code st res) = _
    rw [endExecution_eq _ _ _ _ _ hp]
    exact coreTail_settled _ _ (by rw [settled_queueReply _ _ _ _ _ _ he]; exact hs)
  unfold hostRequest
  rw [requestEvent_eq s seq (encodeBody r) (by simpa using h) (encodeBody_ne r) hl (by rw [hx]; simpa using hi), hx]
  exact (ended_of_empty _ (by simpa using hi)).symm

/-- A request answered by a reply, with what the event ends with. -/
theorem hostRequest_answered (s t : State) (seq : Byte) (r : Req) (st : Status) (res : List Byte)
    (h : attends s seq r.code = true) (hl : (encodeBody r).length ≤ Config.maxBody)
    (hd : decodeBody (encodeBody r) = .ok r) (ha : accepted r.code s.device = true)
    (hrun : runRequest (txBegin s) seq r = (t, .did st res)) (hi : t.link.inbox = [])
    (hp : t.link.pendingSync = none) :
    hostRequest seq r s = answered (txBegin s) t seq r.code st res := by
  have hx : execute (txBegin s) seq (encodeBody r) = coreTail (txBegin s) (queueReply t seq r.code st res) := by
    rw [execute_run _ _ _ r hd (by simpa using ha), hrun, byteAt_encodeBody]
    show coreTail _ (endExecution t seq r.code st res) = _
    rw [endExecution_eq _ _ _ _ _ hp]
  unfold hostRequest
  rw [requestEvent_eq s seq (encodeBody r) (by simpa using h) (encodeBody_ne r) hl (by rw [hx]; simpa using hi), hx]
  exact (ended_of_empty _ (by simpa using hi)).symm

/-- A request that stays executing, with what the event ends with. -/
theorem hostRequest_waits (s t : State) (seq : Byte) (r : Req) (w : Wait)
    (h : attends s seq r.code = true) (hl : (encodeBody r).length ≤ Config.maxBody)
    (hd : decodeBody (encodeBody r) = .ok r) (ha : accepted r.code s.device = true)
    (hrun : runRequest (txBegin s) seq r = (t, .waits w)) (hi : t.link.inbox = []) :
    hostRequest seq r s
      = heard (coreTail (txBegin s) { t with executing := some { seq := seq, code := r.code, wait := w } }) := by
  have hx : execute (txBegin s) seq (encodeBody r)
      = coreTail (txBegin s) { t with executing := some { seq := seq, code := r.code, wait := w } } := by
    rw [execute_run _ _ _ r hd (by simpa using ha), hrun, byteAt_encodeBody]
    rfl
  unfold hostRequest
  rw [requestEvent_eq s seq (encodeBody r) (by simpa using h) (encodeBody_ne r) hl (by rw [hx]; simpa using hi), hx]

end Sys2Proof.Machine
end

