-- ==== Sys2Proof/Laws/WithLink.lean ====
section
/-!
SUPPORT. The lanes, the store, the cues and the port do not read the link: each shared operation on them commutes with
a change of the link. What a request does with the requests that wait behind it rests on this (R149, Laws/Inbox.lean).
-/

namespace Sys2Proof.Machine

/-- The state with another link. -/
def State.withLink (s : State) (k : Link) : State := { s with link := k }

@[simp] theorem withLink_inReset (s : State) (k : Link) : (s.withLink k).inReset = s.inReset := rfl
@[simp] theorem withLink_device (s : State) (k : Link) : (s.withLink k).device = s.device := rfl
@[simp] theorem withLink_executing (s : State) (k : Link) : (s.withLink k).executing = s.executing := rfl
@[simp] theorem withLink_notices (s : State) (k : Link) : (s.withLink k).notices = s.notices := rfl
@[simp] theorem withLink_raised (s : State) (k : Link) : (s.withLink k).raised = s.raised := rfl
@[simp] theorem withLink_time (s : State) (k : Link) : (s.withLink k).time = s.time := rfl
@[simp] theorem withLink_triggers (s : State) (k : Link) : (s.withLink k).triggers = s.triggers := rfl
@[simp] theorem withLink_cues (s : State) (k : Link) : (s.withLink k).cues = s.cues := rfl
@[simp] theorem withLink_lanes (s : State) (k : Link) : (s.withLink k).lanes = s.lanes := rfl
@[simp] theorem withLink_store (s : State) (k : Link) : (s.withLink k).store = s.store := rfl
@[simp] theorem withLink_mc (s : State) (k : Link) : (s.withLink k).mc = s.mc := rfl
@[simp] theorem withLink_refresh (s : State) (k : Link) : (s.withLink k).refresh = s.refresh := rfl
@[simp] theorem withLink_mem (s : State) (k : Link) : (s.withLink k).mem = s.mem := rfl
@[simp] theorem withLink_freeReads (s : State) (k : Link) : (s.withLink k).freeReads = s.freeReads := rfl
@[simp] theorem withLink_pending (s : State) (k : Link) : (s.withLink k).pending = s.pending := rfl
@[simp] theorem withLink_link (s : State) (k : Link) : (s.withLink k).link = k := rfl
@[simp] theorem State.setLane_withLink (s : State) (k : Link) (l : Fin 4) (x : Lane) :
    State.setLane (s.withLink k) l x = (State.setLane s l x).withLink k := rfl
@[simp] theorem State.setCue_withLink (s : State) (k : Link) (i : Nat) (c : Cue) :
    State.setCue (s.withLink k) i c = (State.setCue s i c).withLink k := rfl
@[simp] theorem State.dropCue_withLink (s : State) (k : Link) (i : Nat) :
    State.dropCue (s.withLink k) i = (State.dropCue s i).withLink k := rfl
@[simp] theorem State.setPayload_withLink (s : State) (k : Link) (i : Nat) (p : Payload) :
    State.setPayload (s.withLink k) i p = (State.setPayload s i p).withLink k := rfl
@[simp] theorem State.raise_withLink (s : State) (k : Link) (n : NoticeBody) :
    State.raise (s.withLink k) n = (State.raise s n).withLink k := rfl
@[simp] theorem State.occupyPort_withLink (s : State) (k : Link) (op : PortOp) (n : Nat) :
    State.occupyPort (s.withLink k) op n = (State.occupyPort s op n).withLink k := rfl
@[simp] theorem State.freePort_withLink (s : State) (k : Link) :
    State.freePort (s.withLink k) = (State.freePort s).withLink k := rfl
@[simp] theorem State.closeBanks_withLink (s : State) (k : Link) :
    State.closeBanks (s.withLink k) = (State.closeBanks s).withLink k := rfl
@[simp] theorem State.setChunks_withLink (s : State) (k : Link) (cs : List Chunk) :
    State.setChunks (s.withLink k) cs = (State.setChunks s cs).withLink k := rfl
@[simp] theorem State.setLeaving_withLink (s : State) (k : Link) (ids : List Nat) :
    State.setLeaving (s.withLink k) ids = (State.setLeaving s ids).withLink k := rfl
@[simp] theorem State.orderResend_withLink (s : State) (k : Link) :
    State.orderResend (s.withLink k) = (State.orderResend s).withLink k := rfl
@[simp] theorem State.lane_withLink (s : State) (k : Link) (l : Fin 4) :
    State.lane (s.withLink k) l = State.lane s l := rfl
@[simp] theorem State.cue?_withLink (s : State) (k : Link) (i : Nat) :
    State.cue? (s.withLink k) i = State.cue? s i := rfl
@[simp] theorem State.payload?_withLink (s : State) (k : Link) (i : Nat) :
    State.payload? (s.withLink k) i = State.payload? s i := rfl
@[simp] theorem State.freePayload_withLink (s : State) (k : Link) (i : Nat) :
    State.freePayload (s.withLink k) i = (State.freePayload s i).withLink k := by
  unfold State.freePayload
  simp
  split <;> rfl
@[simp] theorem doomedUnused_withLink (s : State) (k : Link) : doomedUnused (s.withLink k) = doomedUnused s := rfl

theorem foldl_withLink {α : Type} {k : Link} (f : State → α → State)
    (h : ∀ s a, f (s.withLink k) a = (f s a).withLink k) (l : List α) (s : State) :
    l.foldl f (s.withLink k) = (l.foldl f s).withLink k := by
  induction l generalizing s with
  | nil => rfl
  | cons a t ih => rw [List.foldl_cons, List.foldl_cons, h, ih]

@[simp] theorem State.freeDoomed_withLink (s : State) (k : Link) :
    State.freeDoomed (s.withLink k) = (State.freeDoomed s).withLink k := by
  unfold State.freeDoomed
  exact foldl_withLink _ (fun a i => State.freePayload_withLink a k i) _ _
@[simp] theorem State.addRef_withLink (s : State) (k : Link) (i : Nat) :
    State.addRef (s.withLink k) i = (State.addRef s i).withLink k := by
  unfold State.addRef
  simp
  split <;> rfl
@[simp] theorem State.dropRef_withLink (s : State) (k : Link) (i : Nat) :
    State.dropRef (s.withLink k) i = (State.dropRef s i).withLink k := by
  unfold State.dropRef
  simp
  split <;> rfl
@[simp] theorem inFlight_withLink (s : State) (k : Link) (r : Requester) :
    inFlight (s.withLink k) r = inFlight s r := rfl
@[simp] theorem inColumn_withLink (s : State) (k : Link) (r : Requester) :
    inColumn (s.withLink k) r = inColumn s r := rfl
@[simp] theorem outstanding_withLink (s : State) (k : Link) (r : Requester) :
    outstanding (s.withLink k) r = outstanding s r := rfl
@[simp] theorem dropRequest_withLink (s : State) (k : Link) (r : Requester) :
    dropRequest (s.withLink k) r = (dropRequest s r).withLink k := by cases r <;> rfl
@[simp] theorem placeRequest_withLink (s : State) (k : Link) (r : Requester) (q : MemRequest) :
    placeRequest (s.withLink k) r q = (placeRequest s r q).withLink k := by cases r <;> rfl
@[simp] theorem giveUpRequest_withLink (s : State) (k : Link) (r : Requester) :
    giveUpRequest (s.withLink k) r = (giveUpRequest s r).withLink k := by
  unfold giveUpRequest
  rw [dropRequest_withLink]
  generalize dropRequest s r = u
  simp only [withLink_mc]
  repeat' split
  all_goals rfl
@[simp] theorem anyEmitting_withLink (s : State) (k : Link) : anyEmitting (s.withLink k) = anyEmitting s := rfl
@[simp] theorem debtLimit_withLink (s : State) (k : Link) : debtLimit (s.withLink k) = debtLimit s := rfl
@[simp] theorem refreshForced_withLink (s : State) (k : Link) : refreshForced (s.withLink k) = refreshForced s := rfl
@[simp] theorem refreshPostponable_withLink (s : State) (k : Link) :
    refreshPostponable (s.withLink k) = refreshPostponable s := rfl
@[simp] theorem heldDue_withLink (s : State) (k : Link) (l : Fin 4) : heldDue (s.withLink k) l = heldDue s l := rfl
@[simp] theorem waitingLanes_withLink (s : State) (k : Link) (st : LaneState) :
    waitingLanes (s.withLink k) st = waitingLanes s st := rfl
@[simp] theorem chooseGrant_withLink (s : State) (k : Link) : chooseGrant (s.withLink k) = chooseGrant s := rfl
@[simp] theorem columnTimeOf_withLink (s : State) (k : Link) (t : Transaction) :
    columnTimeOf (s.withLink k) t = columnTimeOf s t := rfl
@[simp] theorem requestOf_withLink (s : State) (k : Link) (r : Requester) :
    requestOf (s.withLink k) r = requestOf s r := rfl
@[simp] theorem beginTransaction_withLink (s : State) (k : Link) (r : Requester) (q : MemRequest) :
    beginTransaction (s.withLink k) r q = (beginTransaction s r q).withLink k := by
  unfold beginTransaction
  simp
  repeat' split
  all_goals rfl
@[simp] theorem beginRefresh_withLink (s : State) (k : Link) :
    beginRefresh (s.withLink k) = (beginRefresh s).withLink k := by
  unfold beginRefresh
  simp
  split <;> rfl
@[simp] theorem carryOutGrant_withLink (s : State) (k : Link) (g : Grant) :
    carryOutGrant (s.withLink k) g = (carryOutGrant s g).withLink k := by
  unfold carryOutGrant
  simp
  repeat' split
  all_goals rfl
@[simp] theorem issueBringUp_withLink (s : State) (k : Link) :
    issueBringUp (s.withLink k) = (issueBringUp s).withLink k := by
  unfold issueBringUp
  simp
  repeat' split
  all_goals rfl
@[simp] theorem arbitrate_withLink (s : State) (k : Link) : arbitrate (s.withLink k) = (arbitrate s).withLink k := by
  unfold arbitrate
  simp
  repeat' split
  all_goals rfl
@[simp] theorem dueList_withLink (s : State) (k : Link) : dueList (s.withLink k) = dueList s := rfl
@[simp] theorem pendingQueue_withLink (s : State) (k : Link) (l : Fin 4) :
    pendingQueue (s.withLink k) l = pendingQueue s l := rfl
@[simp] theorem endCue_withLink (s : State) (k : Link) (i : Nat) (c : Cue) (r : EndReason) :
    endCue (s.withLink k) i c r = (endCue s i c r).withLink k := by
  unfold endCue
  simp
  split <;> rfl
@[simp] theorem raiseSkipped_withLink (s : State) (k : Link) (i : Nat) (c : Cue) (n : Nat) (d : Option Nat) :
    raiseSkipped (s.withLink k) i c n d = (raiseSkipped s i c n d).withLink k := by
  unfold raiseSkipped
  repeat' split
  all_goals rfl
@[simp] theorem nextOccurrence_withLink (s : State) (k : Link) (i : Nat) (c : Cue) (a b : Nat) :
    nextOccurrence (s.withLink k) i c a b = (nextOccurrence s i c a b).withLink k := by
  unfold nextOccurrence
  simp
  repeat' split
  all_goals rfl
@[simp] theorem nextTimed_withLink (s : State) (k : Link) (i : Nat) (c : Cue) (a b : Nat) :
    nextTimed (s.withLink k) i c a b = (nextTimed s i c a b).withLink k := by simp [nextTimed]
@[simp] theorem nextStopped_withLink (s : State) (k : Link) (i : Nat) (c : Cue) (a b : Nat) :
    nextStopped (s.withLink k) i c a b = (nextStopped s i c a b).withLink k := by simp [nextStopped]
@[simp] theorem endSkipped_withLink (s : State) (k : Link) (i : Nat) (c : Cue) (r : OccResult) :
    endSkipped (s.withLink k) i c r = (endSkipped s i c r).withLink k := by
  unfold endSkipped
  simp
  repeat' split
  all_goals rfl
@[simp] theorem noteCancelled_withLink (s : State) (k : Link) (i : Nat) (c : Cue) :
    noteCancelled (s.withLink k) i c = (noteCancelled s i c).withLink k := by
  unfold noteCancelled
  simp
  repeat' split
  all_goals rfl
@[simp] theorem noteStopped_withLink (s : State) (k : Link) (b : Bool) :
    noteStopped (s.withLink k) b = (noteStopped s b).withLink k := by
  unfold noteStopped
  simp
  split <;> rfl
@[simp] theorem endReleased_withLink (s : State) (k : Link) (i : Nat) (c : Cue) (r : OccResult) (late cf : Bool)
    (n : Nat) :
    endReleased (s.withLink k) i c r late cf n = (endReleased s i c r late cf n).withLink k := by
  unfold endReleased
  simp
  repeat' split
  all_goals simp_all
@[simp] theorem reachDue_withLink (s : State) (k : Link) (i : Nat) :
    reachDue (s.withLink k) i = (reachDue s i).withLink k := by
  unfold reachDue
  simp
  repeat' split
  all_goals rfl
@[simp] theorem laneRequest_withLink (s : State) (k : Link) (l : Fin 4) :
    laneRequest (s.withLink k) l = laneRequest s l := rfl
@[simp] theorem placeLaneRead_withLink (s : State) (k : Link) (l : Fin 4) :
    placeLaneRead (s.withLink k) l = (placeLaneRead s l).withLink k := by
  unfold placeLaneRead
  simp
  split <;> rfl
@[simp] theorem markMismatch_withLink (s : State) (k : Link) (p : Nat) :
    markMismatch (s.withLink k) p = (markMismatch s p).withLink k := by
  unfold markMismatch
  simp
  split <;> rfl
@[simp] theorem completeRelease_withLink (s : State) (k : Link) (l : Fin 4) :
    completeRelease (s.withLink k) l = (completeRelease s l).withLink k := by
  unfold completeRelease
  simp
  repeat' split
  all_goals simp_all
@[simp] theorem departByte_withLink (s : State) (k : Link) (l : Fin 4) :
    departByte (s.withLink k) l = (departByte s l).withLink k := by
  unfold departByte
  simp
  repeat' split
  all_goals rfl
@[simp] theorem startDue_withLink (s : State) (k : Link) (l : Fin 4) : startDue (s.withLink k) l = startDue s l := rfl
@[simp] theorem startRelease_withLink (s : State) (k : Link) (l : Fin 4) (d : Nat) :
    startRelease (s.withLink k) l d = (startRelease s l d).withLink k := by
  unfold startRelease
  simp
  repeat' split
  all_goals simp_all
@[simp] theorem tryStart_withLink (s : State) (k : Link) (l : Fin 4) :
    tryStart (s.withLink k) l = (tryStart s l).withLink k := by
  unfold tryStart
  simp
  split <;> rfl
@[simp] theorem unstage_withLink (s : State) (k : Link) (l : Fin 4) :
    unstage (s.withLink k) l = (unstage s l).withLink k := by
  unfold unstage
  simp
  split <;> rfl
@[simp] theorem cutLane_withLink (s : State) (k : Link) (l : Fin 4) (c : CutCause) :
    cutLane (s.withLink k) l c = (cutLane s l c).withLink k := by
  unfold cutLane
  simp
  split <;> rfl
@[simp] theorem reportCut_withLink (s : State) (k : Link) (x : Lane) :
    reportCut (s.withLink k) x = (reportCut s x).withLink k := by
  unfold reportCut
  simp
  repeat' split
  all_goals rfl
@[simp] theorem flushOver_withLink (s : State) (k : Link) (l : Fin 4) :
    flushOver (s.withLink k) l = flushOver s l := rfl
@[simp] theorem endFlush_withLink (s : State) (k : Link) (l : Fin 4) :
    endFlush (s.withLink k) l = (endFlush s l).withLink k := by
  unfold endFlush
  simp
  split <;> rfl
@[simp] theorem candidate_withLink (s : State) (k : Link) (l : Fin 4) :
    candidate (s.withLink k) l = candidate s l := rfl
@[simp] theorem pickCue_withLink (s : State) (k : Link) (l : Fin 4) (i : Nat) (c : Cue) :
    pickCue (s.withLink k) l i c = (pickCue s l i c).withLink k := by
  unfold pickCue
  simp
  split <;> rfl
@[simp] theorem pickFor_withLink (s : State) (k : Link) (l : Fin 4) :
    pickFor (s.withLink k) l = (pickFor s l).withLink k := by
  unfold pickFor
  simp
  repeat' split
  all_goals rfl
@[simp] theorem giveBack_withLink (s : State) (k : Link) (l : Fin 4) (i : Nat) (c : Cue) :
    giveBack (s.withLink k) l i c = (giveBack s l i c).withLink k := by
  unfold giveBack
  dsimp only
  rw [State.setCue_withLink, unstage_withLink]
  rfl

theorem restage_withLink (s0 s : State) (j k : Link) (l : Fin 4) :
    restage (s0.withLink j) (s.withLink k) l = (restage s0 s l).withLink k := by
  have he : evaluates (s0.withLink j) (s.withLink k) l = evaluates s0 s l := rfl
  have hd : ∀ d, displacedBy (s0.withLink j) (s.withLink k) l d = displacedBy s0 s l d := fun _ => rfl
  unfold restage
  rw [he]
  simp only [hd, State.lane_withLink, State.cue?_withLink, withLink_time, giveBack_withLink]
  split
  · split
    · split
      · split
        · exact (congrArg (State.withLink · k) (if_pos ‹_›)).symm
        · exact (congrArg (State.withLink · k) (if_neg ‹_›)).symm
      · rfl
    · rfl
  · rfl
theorem settleLane_withLink (s0 s : State) (j k : Link) (l : Fin 4) :
    settleLane (s0.withLink j) (s.withLink k) l = (settleLane s0 s l).withLink k := by
  unfold settleLane
  rw [endFlush_withLink, restage_withLink, endFlush_withLink, pickFor_withLink]
theorem settleLanes_withLink (s0 s : State) (j k : Link) :
    settleLanes (s0.withLink j) (s.withLink k) = (settleLanes s0 s).withLink k :=
  foldl_withLink _ (fun a l => settleLane_withLink s0 a j k l) _ _

@[simp] theorem expireCue_withLink (s : State) (k : Link) (i : Nat) :
    expireCue (s.withLink k) i = (expireCue s i).withLink k := by
  unfold expireCue
  simp
  repeat' split
  all_goals rfl
@[simp] theorem timeCue_withLink (s : State) (k : Link) (i : Nat) :
    timeCue (s.withLink k) i = (timeCue s i).withLink k := by
  unfold timeCue
  rw [State.cue?_withLink]
  split
  · split
    · exact reachDue_withLink _ _ _
    · exact expireCue_withLink _ _ _
  · rfl
@[simp] theorem forwardChange_withLink (s : State) (k : Link) :
    forwardChange (s.withLink k) = (forwardChange s).withLink k := by
  unfold forwardChange
  rw [withLink_cues, foldl_withLink timeCue (fun a i => timeCue_withLink a k i)]
  exact foldl_withLink tryStart (fun a i => tryStart_withLink a k i) _ _
@[simp] theorem fillRequest_withLink (s : State) (k : Link) : fillRequest (s.withLink k) = fillRequest s := rfl
@[simp] theorem placeFill_withLink (s : State) (k : Link) : placeFill (s.withLink k) = (placeFill s).withLink k := by
  unfold placeFill
  simp
  split <;> rfl
@[simp] theorem slotFree_withLink (s : State) (k : Link) : slotFree (s.withLink k) = slotFree s := rfl
@[simp] theorem holdsChunk_withLink (s : State) (k : Link) (p : Nat) :
    holdsChunk (s.withLink k) p = holdsChunk s p := rfl
@[simp] theorem takeChunk_withLink (s : State) (k : Link) (p o : Nat) (d : List Byte) :
    takeChunk (s.withLink k) p o d = (takeChunk s p o d).withLink k := by
  unfold takeChunk
  simp
  split <;> rfl
@[simp] theorem headIs_withLink (s : State) (k : Link) (p : Nat) : headIs (s.withLink k) p = headIs s p := rfl
@[simp] theorem deleteChunks_withLink (s : State) (k : Link) (p : Nat) :
    deleteChunks (s.withLink k) p = (deleteChunks s p).withLink k := by
  unfold deleteChunks
  simp
  repeat' split
  all_goals rfl
@[simp] theorem lanesAtRest_withLink (s : State) (k : Link) : lanesAtRest (s.withLink k) = lanesAtRest s := rfl
@[simp] theorem placeReadBack_withLink (s : State) (k : Link) (bl : List Nat) (o c : Nat) (g : List Byte) :
    placeReadBack (s.withLink k) bl o c g = (placeReadBack s bl o c g).withLink k := by
  unfold placeReadBack
  simp
  repeat' split
  all_goals rfl
@[simp] theorem stopLane_withLink (s : State) (k : Link) (l : Fin 4) :
    stopLane (s.withLink k) l = (stopLane s l).withLink k := by simp [stopLane]

end Sys2Proof.Machine
end

