-- ==== Sys2Proof/Laws/Inbox.lean ====
section
/-!
SUPPORT. The interpreter and the requests that wait: what a request does neither depends on them nor changes them, but
for GET_STATE, which reports their number, and RESET, which removes them; an execution leaves the interpreter busy, and
the frame in transmission alone (R149).
-/

namespace Sys2Proof.Machine

/-- The state with another inbox. -/
def State.withInbox (s : State) (q : List InboxEntry) : State := s.withLink { s.link with inbox := q }

/-- What a request answers, beside another inbox. -/
def answerWithInbox (q : List InboxEntry) (p : State × Answer) : State × Answer := (p.1.withInbox q, p.2)

variable (q : List InboxEntry) (s : State)

@[simp] theorem withInbox_inReset : (s.withInbox q).inReset = s.inReset := rfl
@[simp] theorem withInbox_device : (s.withInbox q).device = s.device := rfl
@[simp] theorem withInbox_executing : (s.withInbox q).executing = s.executing := rfl
@[simp] theorem withInbox_notices : (s.withInbox q).notices = s.notices := rfl
@[simp] theorem withInbox_raised : (s.withInbox q).raised = s.raised := rfl
@[simp] theorem withInbox_time : (s.withInbox q).time = s.time := rfl
@[simp] theorem withInbox_triggers : (s.withInbox q).triggers = s.triggers := rfl
@[simp] theorem withInbox_cues : (s.withInbox q).cues = s.cues := rfl
@[simp] theorem withInbox_lanes : (s.withInbox q).lanes = s.lanes := rfl
@[simp] theorem withInbox_store : (s.withInbox q).store = s.store := rfl
@[simp] theorem withInbox_mc : (s.withInbox q).mc = s.mc := rfl
@[simp] theorem withInbox_refresh : (s.withInbox q).refresh = s.refresh := rfl
@[simp] theorem withInbox_mem : (s.withInbox q).mem = s.mem := rfl
@[simp] theorem withInbox_freeReads : (s.withInbox q).freeReads = s.freeReads := rfl
@[simp] theorem withInbox_pending : (s.withInbox q).pending = s.pending := rfl
@[simp] theorem withInbox_sync : (s.withInbox q).link.pendingSync = s.link.pendingSync := rfl
@[simp] theorem withInbox_payload (i) : (s.withInbox q).payload? i = s.payload? i := rfl
@[simp] theorem withInbox_cue (i) : (s.withInbox q).cue? i = s.cue? i := rfl
@[simp] theorem withInbox_lane (i) : (s.withInbox q).lane i = s.lane i := rfl
@[simp] theorem withInbox_slot : slotFree (s.withInbox q) = slotFree s := rfl
@[simp] theorem withInbox_holds (i) : holdsChunk (s.withInbox q) i = holdsChunk s i := rfl
@[simp] theorem withInbox_rest : lanesAtRest (s.withInbox q) = lanesAtRest s := rfl

/-- An operation that does not read the link and keeps it does not touch the inbox. -/
theorem withInbox_of_core {f : State → State} (h : ∀ s k, f (s.withLink k) = (f s).withLink k)
    (hl : ∀ s, CoreKept s (f s)) (q s) :
    f (s.withInbox q) = (f s).withInbox q := by
  show f (s.withLink { s.link with inbox := q }) = (f s).withLink { (f s).link with inbox := q }
  rw [h, (hl s).link]
theorem queueReply_withInbox (seq code st r) :
    queueReply (s.withInbox q) seq code st r = (queueReply s seq code st r).withInbox q :=
  rfl
theorem syncDeferred_withInbox : syncDeferred (s.withInbox q) = (syncDeferred s).withInbox q := by
  unfold syncDeferred
  rw [withInbox_sync]
  split <;> rfl
theorem endExecution_withInbox (seq code st r) :
    endExecution (s.withInbox q) seq code st r = (endExecution s seq code st r).withInbox q := by
  unfold endExecution; rw [queueReply_withInbox, syncDeferred_withInbox]
theorem freePayload_withInbox (i) :
    (s.withInbox q).freePayload i = (s.freePayload i).withInbox q :=
  withInbox_of_core (f := (·.freePayload i)) (fun s k => State.freePayload_withLink s k i)
    (fun s => CoreKept.freePayload s i) q s
theorem setPayload_withInbox (i p) : (s.withInbox q).setPayload i p = (s.setPayload i p).withInbox q := rfl
theorem takeChunk_withInbox (a b c) :
    takeChunk (s.withInbox q) a b c = (takeChunk s a b c).withInbox q :=
  withInbox_of_core (fun s k => takeChunk_withLink s k a b c) (fun s => CoreKept.takeChunk s a b c) q s
theorem placeReadBack_withInbox (a b c d) :
    placeReadBack (s.withInbox q) a b c d = (placeReadBack s a b c d).withInbox q :=
  withInbox_of_core (fun s k => placeReadBack_withLink s k a b c d) (fun s => CoreKept.placeReadBack s a b c d) q s
theorem finishSeal_withInbox (seq code p e) :
    finishSeal (s.withInbox q) seq code p e = (finishSeal s seq code p e).withInbox q := by
  unfold finishSeal
  rw [withInbox_payload]
  split
  · rw [endExecution_withInbox, setPayload_withInbox, endExecution_withInbox, freePayload_withInbox,
      endExecution_withInbox]
    repeat' split
    all_goals rfl
  · exact endExecution_withInbox _ _ _ _ _ _
theorem resume_withInbox : resume (s.withInbox q) = (resume s).withInbox q := by
  unfold resume
  rw [withInbox_executing]
  split
  · rename_i x seq code w hx
    cases w
    · dsimp only
      rw [takeChunk_withInbox, endExecution_withInbox]; rw [withInbox_slot]
      split <;> rfl
    · dsimp only
      rw [finishSeal_withInbox]; rw [withInbox_holds]
      split <;> rfl
    · dsimp only
      rw [freePayload_withInbox, endExecution_withInbox]; rw [withInbox_holds]
      split <;> rfl
    · dsimp only
      rw [placeReadBack_withInbox, endExecution_withInbox]
      split <;> rfl
    · dsimp only
      split
      · exact endExecution_withInbox _ _ _ _ _ _
      · rfl
    · dsimp only
      rw [endExecution_withInbox]; rw [withInbox_rest]
      split <;> rfl
  · rfl

/-- What an event ends with in the lanes, the store and the executing request. -/
theorem coreTail_withInbox (q0 : List InboxEntry) (s0 : State) :
    coreTail (s0.withInbox q0) (s.withInbox q) = (coreTail s0 s).withInbox q := by
  unfold coreTail
  have h : settleLanes (s0.withInbox q0) (s.withInbox q) = (settleLanes s0 s).withInbox q := by
    have := settleLanes_withLink s0 s { s0.link with inbox := q0 } { s.link with inbox := q }
    refine this.trans ?_
    show _ = (settleLanes s0 s).withLink { (settleLanes s0 s).link with inbox := q }
    rw [settleLanes_link]
  rw [h]
  have h2 : ∀ s : State, (s.withInbox q).freeDoomed = s.freeDoomed.withInbox q :=
    withInbox_of_core State.freeDoomed_withLink CoreKept.freeDoomed q
  have h3 : ∀ s, arbitrate (s.withInbox q) = (arbitrate s).withInbox q :=
    withInbox_of_core arbitrate_withLink CoreKept.arbitrate q
  rw [h2, resume_withInbox, h3]

/-- The end of a request (R149, R150). -/
theorem conclude_withInbox (q0 : List InboxEntry) (s0 : State) (seq code : Byte) (out : State × Answer) :
    conclude (s0.withInbox q0) seq code (answerWithInbox q out) = (conclude s0 seq code out).withInbox q := by
  unfold conclude answerWithInbox
  obtain ⟨s, a⟩ := out
  cases a <;> dsimp only
  · exact endExecution_withInbox _ _ _ _ _ _
  · rw [endExecution_withInbox, coreTail_withInbox]
  · exact coreTail_withInbox q { s with executing := _ } q0 s0
  · exact coreTail_withInbox _ _ _ _
theorem refuse_withInbox (st r) : refuse (s.withInbox q) st r = answerWithInbox q (refuse s st r) := rfl
theorem addRef_withInbox (i) :
    (s.withInbox q).addRef i = (s.addRef i).withInbox q :=
  withInbox_of_core (f := (·.addRef i)) (fun s k => State.addRef_withLink s k i) (fun s => CoreKept.addRef s i) q s
theorem dropRef_withInbox (i) :
    (s.withInbox q).dropRef i = (s.dropRef i).withInbox q :=
  withInbox_of_core (f := (·.dropRef i)) (fun s k => State.dropRef_withLink s k i)
    (fun s => CoreKept.dropRef s i) q s
theorem deleteChunks_withInbox (i) :
    deleteChunks (s.withInbox q) i = (deleteChunks s i).withInbox q :=
  withInbox_of_core (f := (deleteChunks · i)) (fun s k => deleteChunks_withLink s k i)
    (fun s => CoreKept.deleteChunks s i) q s
theorem endCue_withInbox (i c r) :
    endCue (s.withInbox q) i c r = (endCue s i c r).withInbox q :=
  withInbox_of_core (f := (endCue · i c r)) (fun s k => endCue_withLink s k i c r)
    (fun s => CoreKept.endCue s i c r) q s
theorem unstage_withInbox (i) :
    unstage (s.withInbox q) i = (unstage s i).withInbox q :=
  withInbox_of_core (f := (unstage · i)) (fun s k => unstage_withLink s k i) (fun s => CoreKept.unstage s i) q s
theorem cutLane_withInbox (i c) :
    cutLane (s.withInbox q) i c = (cutLane s i c).withInbox q :=
  withInbox_of_core (f := (cutLane · i c)) (fun s k => cutLane_withLink s k i c)
    (fun s => CoreKept.cutLane s i c) q s
theorem pickFor_withInbox (i) :
    pickFor (s.withInbox q) i = (pickFor s i).withInbox q :=
  withInbox_of_core (f := (pickFor · i)) (fun s k => pickFor_withLink s k i) (fun s => CoreKept.pickFor s i) q s
theorem forwardChange_withInbox :
    forwardChange (s.withInbox q) = (forwardChange s).withInbox q :=
  withInbox_of_core forwardChange_withLink CoreKept.forwardChange q s
theorem setCue_withInbox (i c) : (s.withInbox q).setCue i c = (s.setCue i c).withInbox q := rfl
theorem setLane_withInbox (i c) : (s.withInbox q).setLane i c = (s.setLane i c).withInbox q := rfl
theorem dropCue_withInbox (i) : (s.withInbox q).dropCue i = (s.dropCue i).withInbox q := rfl
theorem stops_withInbox : fours.foldl stopLane (s.withInbox q) = (fours.foldl stopLane s).withInbox q :=
  withInbox_of_core (f := fours.foldl stopLane)
    (fun _ k => foldl_withLink stopLane (fun a i => stopLane_withLink a k i) _ _)
    (CoreKept.foldl stopLane CoreKept.stopLane _) q s
theorem advanceTo_withInbox (t) : advanceTo (s.withInbox q) t = (advanceTo s t).withInbox q := by
  unfold advanceTo
  rw [withInbox_time]
  split
  · have : testEnd ((s.withInbox q).setDevice t) = (testEnd (s.setDevice t)).withInbox q := by
      unfold testEnd
      show (if atMaximum (s.setDevice t) then _ else _) = _
      split <;> rfl
    rw [this, forwardChange_withInbox]
  · rfl
theorem removeNotices_withInbox (k) : removeNotices (s.withInbox q) k = (removeNotices s k).withInbox q := by
  unfold removeNotices
  split
  · rfl
  · show (if resendDue { s with notices := { s.notices with held := s.notices.held.drop k } } then _ else _) = _
    dsimp only
    split <;> rfl
theorem acceptInit_withInbox (p) : acceptInit (s.withInbox q) p = (acceptInit s p).withInbox q := rfl
theorem setTimeTo_withInbox (p) : setTimeTo (s.withInbox q) p = (setTimeTo s p).withInbox q := by
  unfold setTimeTo
  dsimp only
  split <;> rfl

/-- A request other than GET_STATE and RESET, beside any inbox. -/
theorem runRequest_withInbox (seq) (r : Req) (h1 : r ≠ .getState) (h2 : r ≠ .reset) :
    runRequest (s.withInbox q) seq r = answerWithInbox q (runRequest s seq r) := by
  cases r
  case getState => exact absurd rfl h1
  case reset => exact absurd rfl h2
  all_goals simp only [runRequest]
  case identify => rfl
  case noticeAck =>
    unfold runNoticeAck
    simp only [withInbox_notices, removeNotices_withInbox]
    split <;> rfl
  case memoryInit =>
    rename_i p
    unfold runMemoryInit
    by_cases h : s.device = .ready ∧ s.store.directory ≠ []
    · have h' : (s.withInbox q).device = .ready ∧ (s.withInbox q).store.directory ≠ [] := h
      rw [if_pos h', if_pos h]
      rfl
    · have h' : ¬((s.withInbox q).device = .ready ∧ (s.withInbox q).store.directory ≠ []) := h
      rw [if_neg h', if_neg h]
      split <;> rfl
  case memoryStatus => rfl
  case openPayload =>
    rename_i p n
    unfold runOpenPayload; simp only [withInbox_payload]
    split
    · rfl
    · by_cases h : n.toNat = 0 ∨ Config.maxPayload < n.toNat
      · rw [if_pos h, if_pos h]
        rfl
      · rw [if_neg h, if_neg h]
        by_cases h : s.store.pool.length < blocksFor n.toNat
        · have h' : (s.withInbox q).store.pool.length < blocksFor n.toNat := h
          rw [if_pos h', if_pos h]
          rfl
        · have h' : ¬(s.withInbox q).store.pool.length < blocksFor n.toNat := h
          rw [if_neg h', if_neg h]
          rfl
  case putData =>
    unfold runPutData
    simp only [withInbox_payload, refuse_withInbox]
    repeat' split
    all_goals rfl
  case sealPayload =>
    unfold runSealPayload
    simp only [withInbox_payload, refuse_withInbox]
    repeat' split
    all_goals rfl
  case deletePayload =>
    unfold runDeletePayload
    simp only [withInbox_payload, refuse_withInbox, freePayload_withInbox, setPayload_withInbox,
      deleteChunks_withInbox]
    repeat' split
    all_goals rfl
  case readBack =>
    unfold runReadBack
    simp only [withInbox_payload, refuse_withInbox]
    repeat' split
    all_goals rfl
  case payloadInfo =>
    unfold runPayloadInfo
    simp only [withInbox_payload, refuse_withInbox]
    repeat' split
    all_goals rfl
  case listPayloads => rfl
  case fileCue b =>
    unfold runFileCue
    have : fileTests (s.withInbox q) b = fileTests s b := rfl
    rw [this]; split
    · rfl
    · rw [addRef_withInbox]
      rfl
  case armCue c d =>
    unfold runArmCue
    have : ∀ c d, armRefusal (s.withInbox q) c d = armRefusal s c d := fun _ _ => rfl
    have h2 : ∀ c d, armCueRecord (s.withInbox q) c d = armCueRecord s c d := fun _ _ => rfl
    simp only [withInbox_cue, refuse_withInbox, this, h2]
    repeat' split
    all_goals rfl
  case cancelCue =>
    unfold runCancelCue
    simp only [withInbox_cue, refuse_withInbox, setCue_withInbox, cutLane_withInbox, unstage_withInbox,
      endCue_withInbox]
    repeat' split
    all_goals rfl
  case discardCue =>
    unfold runDiscardCue
    simp only [withInbox_cue, refuse_withInbox, dropRef_withInbox, dropCue_withInbox]
    repeat' split
    all_goals rfl
  case cueInfo => unfold runCueInfo; simp only [withInbox_cue, refuse_withInbox]; split <;> rfl
  case listCues => rfl
  case stopAll =>
    unfold runStopAll
    simp only [answerWithInbox, withInbox_cues]
    rw [← stops_withInbox]
    rfl
  case getTime => rfl
  case setTime => unfold runSetTime; simp only [withInbox_cues, refuse_withInbox, setTimeTo_withInbox]; split <;> rfl
  case stepTime k =>
    unfold runStepTime
    have : (s.withInbox q).setSlew none = (s.setSlew none).withInbox q := rfl
    simp only [withInbox_time, refuse_withInbox, this, advanceTo_withInbox]
    repeat' split
    all_goals rfl
  case slewTime =>
    rename_i o p
    unfold runSlewTime
    dsimp only
    by_cases g1 : o.toInt = 0 ∨ 1000000 < o.toInt.natAbs
    · rw [if_pos g1, if_pos g1]
      rfl
    · rw [if_neg g1, if_neg g1]
      by_cases g2 : p.toNat < 100
      · rw [if_pos g2, if_pos g2]
        rfl
      · rw [if_neg g2, if_neg g2]
        by_cases g3 : (!s.time.valid) = true
        · have g3' : (!(s.withInbox q).time.valid) = true := g3
          rw [if_pos g3, if_pos g3']
          rfl
        · have g3' : ¬(!(s.withInbox q).time.valid) = true := g3
          rw [if_neg g3, if_neg g3']
          by_cases g4 : s.time.atEnd = true
          · have g4' : (s.withInbox q).time.atEnd = true := g4
            rw [if_pos g4, if_pos g4']
            rfl
          · have g4' : ¬(s.withInbox q).time.atEnd = true := g4
            rw [if_neg g4, if_neg g4']
            rfl
  case setTrigger =>
    unfold runSetTrigger
    repeat' split
    all_goals rfl
  case readStamps =>
    unfold runReadStamps
    repeat' split
    all_goals rfl
  case setLane =>
    unfold runSetLane
    have : ∀ l, pendingQueue (s.withInbox q) l = pendingQueue s l := fun _ => rfl
    simp only [withInbox_lane, refuse_withInbox, this, setLane_withInbox, pickFor_withInbox]
    repeat' split
    all_goals rfl
  case laneStatus => unfold runLaneStatus; split <;> rfl

/-! ### The interpreter after an execution -/

/-- The interpreter takes nothing: a request executes, or an executed reply waits (R149). -/
def interpreterBusy (s : State) : Prop := s.executing.isSome = true ∨ replyWaits s = true

theorem replyWaits_iff : replyWaits s = true ↔ ∃ f, QueuedReply.executed f ∈ s.link.replyQueue := by
  simp only [replyWaits, List.any_eq_true]
  constructor
  · rintro ⟨x, hx, h⟩; cases x with
    | executed f => exact ⟨f, hx⟩
    | syncDone q => simp [QueuedReply.isExecuted] at h
  · rintro ⟨f, hf⟩; exact ⟨_, hf, rfl⟩

/-- A reply of an execution waits as soon as it is queued (R151). -/
theorem queueReply_waits (seq code st r) : replyWaits (queueReply s seq code st r) = true := by
  rw [replyWaits_iff]; exact ⟨_, List.mem_append_right _ (List.mem_singleton_self _)⟩
theorem syncDeferred_waits (h : replyWaits s = true) : replyWaits (syncDeferred s) = true := by
  unfold syncDeferred
  split
  · rw [replyWaits_iff] at h ⊢
    obtain ⟨f, hf⟩ := h
    refine ⟨f, List.mem_append_left _ ?_⟩
    exact List.mem_filter.mpr ⟨hf, rfl⟩
  · exact h
theorem endExecution_waits (seq code st r) :
    replyWaits (endExecution s seq code st r) = true :=
  syncDeferred_waits _ (queueReply_waits _ _ _ _ _)
theorem finishSeal_waits (seq code p e) : replyWaits (finishSeal s seq code p e) = true := by
  unfold finishSeal
  repeat' split
  all_goals exact endExecution_waits _ _ _ _ _

/-- What the lanes, the store and the port do leaves the interpreter as it is. -/
theorem interpreterBusy_of_core {s t : State} (h : CoreKept s t) (hb : interpreterBusy s) : interpreterBusy t := by
  unfold interpreterBusy replyWaits at *
  rwa [h.executing, h.link]
theorem resume_busy (h : interpreterBusy s) : interpreterBusy (resume s) := by
  unfold resume
  repeat' split
  all_goals first
    | exact h
    | exact Or.inr (endExecution_waits _ _ _ _ _)
    | exact Or.inr (finishSeal_waits _ _ _ _ _)
    | exact interpreterBusy_of_core (CoreKept.placeReadBack _ _ _ _ _) h
theorem coreTail_busy (s0 : State) (h : interpreterBusy s) : interpreterBusy (coreTail s0 s) :=
  interpreterBusy_of_core (CoreKept.arbitrate _)
    (resume_busy _ (interpreterBusy_of_core ((CoreKept.settleLanes s0 s).trans (CoreKept.freeDoomed _)) h))
theorem conclude_busy (s0 seq code out) (h : out.2 = .sent → interpreterBusy out.1) :
    interpreterBusy (conclude s0 seq code out) := by
  unfold conclude
  split
  · exact Or.inr (endExecution_waits _ _ _ _ _)
  · exact coreTail_busy _ _ (Or.inr (endExecution_waits _ _ _ _ _))
  · exact coreTail_busy _ _ (Or.inl rfl)
  · rename_i hx; exact coreTail_busy _ _ (h hx)

/-- The link after RESET: its reply queued, and the inbox and the reply memory empty (R133). -/
theorem runReset_link (seq) :
    (runReset s seq).1.link
      = { (queueReply s seq 0x03 .ok [deviceStateCode (deviceAfterReset s.device)]).link with
          inbox := [], replies := [] } := by
  unfold runReset softReset
  have h1 : ∀ u : State, (resetMemory u).link = u.link := by
    intro u
    unfold resetMemory
    split <;> rfl
  have h2 : ∀ u : State, (resetCues u).link = u.link := fun u =>
    (CoreKept.foldl resetLane CoreKept.resetLane fours u).link
  show (resetMemory _).link = _
  rw [h1, (CoreKept.resetStore _).link, h2]
  rfl

/-- RESET alone sends its reply itself. -/
theorem runRequest_sent (seq : Byte) (r : Req) (h : (runRequest s seq r).2 = .sent) : r = .reset := by
  cases r
  case reset => rfl
  all_goals
    simp only [runRequest, runIdentify, runGetState, runNoticeAck, runMemoryInit, runMemoryStatus, runOpenPayload,
      runPutData, runSealPayload, runDeletePayload, runReadBack, runPayloadInfo, runListPayloads, runFileCue,
      runArmCue, runCancelCue, runDiscardCue, runCueInfo, runListCues, runStopAll, runGetTime, runSetTime, runStepTime,
      runSlewTime, runSetTrigger, runReadStamps,
      runSetLane, runLaneStatus, refuse] at h
    (repeat' split at h) <;> cases h

/-- After an execution the interpreter is busy: the request executes on, or its reply waits. -/
theorem execute_busy (seq body) : interpreterBusy (execute s seq body) := by
  unfold execute; dsimp only
  repeat' split
  · exact Or.inr (endExecution_waits _ _ _ _ _)
  · exact Or.inr (endExecution_waits _ _ _ _ _)
  · apply conclude_busy
    intro hs
    have := runRequest_sent _ _ _ hs
    subst this
    right
    show replyWaits (runReset s seq).1 = true
    rw [replyWaits_iff, runReset_link]
    exact (replyWaits_iff _).mp (queueReply_waits s seq 0x03 .ok _)
  · exact Or.inr (endExecution_waits _ _ _ _ _)
theorem removeNotices_tx (n : Nat) : (removeNotices s n).link.tx = s.link.tx := by
  unfold removeNotices
  dsimp only
  repeat' split
  all_goals rfl
theorem advanceTo_tx (n : Nat) : (advanceTo s n).link.tx = s.link.tx := by
  unfold advanceTo
  split
  · rw [(CoreKept.forwardChange _).link]
    unfold testEnd
    split <;> rfl
  · rfl
theorem setTimeTo_tx (n : Nat) : (setTimeTo s n).link.tx = s.link.tx := by
  unfold setTimeTo
  dsimp only
  split <;> rfl

/-- A request leaves the frame in transmission alone. -/
theorem runRequest_tx (seq : Byte) (r : Req) : (runRequest s seq r).1.link.tx = s.link.tx := by
  have core : ∀ {t u : State}, CoreKept t u → u.link.tx = t.link.tx := fun h => congrArg Link.tx h.link
  cases r
  all_goals simp only [runRequest]
  case reset => rw [runReset_link]; rfl
  case identify | getState | memoryStatus | listPayloads | listCues | getTime => rfl
  case noticeAck =>
    unfold runNoticeAck
    split
    · exact removeNotices_tx _ _
    · rfl
  case deletePayload =>
    unfold runDeletePayload
    dsimp only
    repeat' split
    all_goals first
      | rfl
      | exact core (CoreKept.deleteChunks _ _)
      | exact core (CoreKept.freePayload _ _)
  case fileCue =>
    unfold runFileCue
    split
    · rfl
    · exact core ((CoreKept.addRef _ _).trans (CoreKept.setCue _ _ _))
  case cancelCue =>
    unfold runCancelCue
    dsimp only
    repeat' split
    · rfl
    · rfl
    · exact core ((CoreKept.setCue _ _ _).trans (CoreKept.cutLane _ _ _))
    · exact core ((CoreKept.unstage _ _).trans (CoreKept.endCue _ _ _ _))
    · exact core (CoreKept.endCue _ _ _ _)
  case discardCue =>
    unfold runDiscardCue
    repeat' split
    · rfl
    · exact core ((CoreKept.dropRef _ _).trans (CoreKept.dropCue _ _))
    all_goals rfl
  case stopAll =>
    show (fours.foldl stopLane _).link.tx = _
    rw [(CoreKept.foldl stopLane CoreKept.stopLane fours _).link]
  case setTime =>
    unfold runSetTime
    split
    · rfl
    · exact setTimeTo_tx _ _
  case stepTime =>
    unfold runStepTime
    dsimp only
    repeat' split
    all_goals first
      | rfl
      | exact advanceTo_tx _ _
  case setLane =>
    unfold runSetLane
    repeat' split
    all_goals first
      | rfl
      | exact core ((CoreKept.setLane _ _ _).trans (CoreKept.pickFor _ _))
  case memoryInit =>
    unfold runMemoryInit
    repeat' split
    all_goals rfl
  case openPayload =>
    unfold runOpenPayload
    dsimp only
    repeat' split
    all_goals rfl
  case putData =>
    unfold runPutData
    repeat' split
    all_goals rfl
  case sealPayload =>
    unfold runSealPayload
    repeat' split
    all_goals rfl
  case readBack =>
    unfold runReadBack
    repeat' split
    all_goals rfl
  case payloadInfo =>
    unfold runPayloadInfo
    repeat' split
    all_goals rfl
  case armCue =>
    unfold runArmCue
    dsimp only
    repeat' split
    all_goals rfl
  case cueInfo =>
    unfold runCueInfo
    repeat' split
    all_goals rfl
  case slewTime =>
    unfold runSlewTime
    dsimp only
    repeat' split
    all_goals rfl
  case setTrigger =>
    unfold runSetTrigger
    repeat' split
    all_goals rfl
  case readStamps =>
    unfold runReadStamps
    repeat' split
    all_goals rfl
  case laneStatus =>
    unfold runLaneStatus
    repeat' split
    all_goals rfl
theorem endExecution_tx (seq code st r) :
    (endExecution s seq code st r).link.tx = s.link.tx :=
  (OuterKept.endExecution s seq code st r).tx

/-- An execution leaves the frame in transmission alone. -/
theorem execute_tx (seq body) : (execute s seq body).link.tx = s.link.tx := by
  unfold execute; dsimp only
  repeat' split
  · exact endExecution_tx _ _ _ _ _
  · exact endExecution_tx _ _ _ _ _
  · unfold conclude
    split
    · rw [endExecution_tx, runRequest_tx]
    · rw [(OuterKept.coreTail _ _).tx, endExecution_tx, runRequest_tx]
    · rw [(OuterKept.coreTail _ _).tx]; exact runRequest_tx _ _ _
    · rw [(OuterKept.coreTail _ _).tx, runRequest_tx]
  · exact endExecution_tx _ _ _ _ _

end Sys2Proof.Machine
end

