-- ==== Sys2Proof/Laws/Tables.lean ====
section
/-!
SUPPORT. The laws of the tables: reading back an entry, keys that stay in order, and the canonical form of the SDRAM
contents under every operation of memory (R113, R114).
-/

namespace Sys2Proof.Machine

/-! ### Reading back -/

/-- The entry just put is read. -/
@[simp] theorem tget_tput_self {α : Type} (t : List (Nat × α)) (a : Nat) (x : α) : tget (tput t a x) a = some x := by
  induction t with
  | nil => simp [tput, tget]
  | cons e t ih =>
    obtain ⟨k, v⟩ := e
    unfold tput
    split
    · simp [tget]
    · split
      · simp [tget]
      · simp [tget, *]

/-- Every other entry reads as before. -/
theorem tget_tput_ne {α : Type} (t : List (Nat × α)) (a b : Nat) (x : α) (h : b ≠ a) :
    tget (tput t a x) b = tget t b := by
  induction t with
  | nil => simp [tput, tget, h]
  | cons e t ih =>
    obtain ⟨k, v⟩ := e
    unfold tput
    split
    · simp [tget, h]
    · split
      · next hk => subst hk; simp [tget, h]
      · simp only [tget, ih]

/-- An entry removed is not read. -/
@[simp] theorem tget_tdel_self {α : Type} (t : List (Nat × α)) (a : Nat) : tget (tdel t a) a = none := by
  induction t with
  | nil => rfl
  | cons e t ih =>
    obtain ⟨k, v⟩ := e
    by_cases hk : k = a
    · simpa [tdel, List.filter, hk] using ih
    · have h : a ≠ k := fun e => hk e.symm
      simpa [tdel, List.filter, hk, tget, h] using ih

/-- The entries that stay read as before. -/
theorem tget_tdel_ne {α : Type} (t : List (Nat × α)) (a b : Nat) (h : b ≠ a) : tget (tdel t a) b = tget t b := by
  induction t with
  | nil => rfl
  | cons e t ih =>
    obtain ⟨k, v⟩ := e
    by_cases hk : k = a
    · have hb : b ≠ k := fun e => h (e.trans hk)
      rw [show tget ((k, v) :: t) b = tget t b by simp [tget, hb], ← ih]
      simp [tdel, List.filter, hk]
    · by_cases hb : b = k
      · simp [tdel, List.filter, hk, tget, hb]
      · simp only [tget, hb, if_false]
        rw [← ih]
        simp [tdel, List.filter, hk, tget, hb]

/-! ### Keys -/

/-- In a table with rising keys every key after the first is above it. -/
theorem sortedKeys_cons {α : Type} (k : Nat) (v : α) (t : List (Nat × α)) :
    sortedKeys ((k, v) :: t) = true ↔ (∀ e ∈ t, k < e.1) ∧ sortedKeys t = true := by
  induction t generalizing k v with
  | nil => simp [sortedKeys]
  | cons e t ih =>
    obtain ⟨b, y⟩ := e
    simp only [sortedKeys, Bool.and_eq_true, decide_eq_true_eq, List.mem_cons, forall_eq_or_imp]
    constructor
    · rintro ⟨h1, h2⟩
      refine ⟨⟨h1, fun e he => Nat.lt_trans h1 (((ih b y).1 h2).1 e he)⟩, h2⟩
    · rintro ⟨⟨h1, _⟩, h2⟩
      exact ⟨h1, h2⟩

/-- A key of the table after a put is the new key or an old one. -/
theorem mem_tput {α : Type} (t : List (Nat × α)) (a : Nat) (x : α) (e : Nat × α) (h : e ∈ tput t a x) :
    e = (a, x) ∨ e ∈ t := by
  induction t with
  | nil => simpa [tput] using h
  | cons f t ih =>
    obtain ⟨k, v⟩ := f
    unfold tput at h
    split at h
    · rcases List.mem_cons.1 h with h | h
      · exact .inl h
      · exact .inr h
    · split at h
      · rcases List.mem_cons.1 h with h | h
        · exact .inl h
        · exact .inr (List.mem_cons_of_mem _ h)
      · rcases List.mem_cons.1 h with h | h
        · exact .inr (h ▸ List.mem_cons_self)
        · rcases ih h with h | h
          · exact .inl h
          · exact .inr (List.mem_cons_of_mem _ h)

/-- A put keeps the keys rising. -/
theorem sortedKeys_tput {α : Type} (t : List (Nat × α)) (a : Nat) (x : α) (h : sortedKeys t = true) :
    sortedKeys (tput t a x) = true := by
  induction t with
  | nil => rfl
  | cons e t ih =>
    obtain ⟨k, v⟩ := e
    obtain ⟨h1, h2⟩ := (sortedKeys_cons k v t).1 h
    unfold tput
    split
    · next hk =>
      refine (sortedKeys_cons a x _).2 ⟨fun e he => ?_, h⟩
      rcases List.mem_cons.1 he with rfl | he
      · exact hk
      · exact Nat.lt_trans hk (h1 e he)
    · split
      · next hk => exact (sortedKeys_cons a x t).2 ⟨fun e he => hk ▸ h1 e he, h2⟩
      · next hlt hne =>
        refine (sortedKeys_cons k v _).2 ⟨fun e he => ?_, ih h2⟩
        rcases mem_tput t a x e he with rfl | he
        · show k < a
          omega
        · exact h1 e he

/-- A removal keeps the keys rising. -/
theorem sortedKeys_tdel {α : Type} (t : List (Nat × α)) (a : Nat) (h : sortedKeys t = true) :
    sortedKeys (tdel t a) = true := by
  induction t with
  | nil => rfl
  | cons e t ih =>
    obtain ⟨k, v⟩ := e
    obtain ⟨h1, h2⟩ := (sortedKeys_cons k v t).1 h
    by_cases hk : k = a
    · simpa [tdel, List.filter, hk] using ih h2
    · rw [show tdel ((k, v) :: t) a = (k, v) :: tdel t a by simp [tdel, List.filter, hk]]
      exact (sortedKeys_cons k v _).2 ⟨fun e he => h1 e (List.mem_of_mem_filter he), ih h2⟩

/-- A change of the values keeps the keys rising. -/
theorem sortedKeys_map {α : Type} (t : List (Nat × α)) (f : Nat × α → Nat × α) (hf : ∀ e, (f e).1 = e.1)
    (h : sortedKeys t = true) : sortedKeys (t.map f) = true := by
  induction t with
  | nil => rfl
  | cons e t ih =>
    obtain ⟨k, v⟩ := e
    obtain ⟨h1, h2⟩ := (sortedKeys_cons k v t).1 h
    have he := hf (k, v)
    rw [List.map_cons, show f (k, v) = (k, (f (k, v)).2) from Prod.ext he rfl]
    refine (sortedKeys_cons _ _ _).2 ⟨fun e he => ?_, ih h2⟩
    obtain ⟨d, hd, rfl⟩ := List.mem_map.1 he
    rw [hf d]
    exact h1 d hd

/-! ### The SDRAM contents -/

/-- Writing bytes keeps the canonical form. -/
theorem writeBytes_wf (m : List Host.Cell) (a : Nat) (bs : List Byte) (h : Memory.wf m = true) :
    Memory.wf (writeBytes m a bs) = true := by
  induction bs generalizing m a with
  | nil => exact h
  | cons b t ih => exact ih (tput m a b) (a + 1) (sortedKeys_tput m a b h)

/-- The empty contents are in canonical form. -/
@[simp] theorem memory_wf_nil : Memory.wf [] = true := rfl

/-- Bytes outside the span that is written read as before. -/
theorem tget_writeBytes_outside (m : List Host.Cell) (a : Nat) (bs : List Byte) (b : Nat)
    (h : b < a ∨ a + bs.length ≤ b) : tget (writeBytes m a bs) b = tget m b := by
  induction bs generalizing m a with
  | nil => rfl
  | cons x t ih =>
    simp only [List.length_cons] at h
    rw [writeBytes, ih (tput m a x) (a + 1) (by omega), tget_tput_ne m a b x (by omega)]

/-- Bytes inside the span read as written (R114). -/
theorem tget_writeBytes_inside (m : List Host.Cell) (a : Nat) (bs : List Byte) (i : Nat) (h : i < bs.length) :
    tget (writeBytes m a bs) (a + i) = bs[i]? := by
  induction bs generalizing m a i with
  | nil => exact absurd h (by simp)
  | cons x t ih =>
    cases i with
    | zero =>
      rw [writeBytes, tget_writeBytes_outside _ _ _ _ (by omega)]
      simp
    | succ i =>
      rw [writeBytes, show a + (i + 1) = a + 1 + i by omega, ih (tput m a x) (a + 1) i (by simpa using h)]
      simp

/-- What is written is read back (R113, R114). -/
theorem readBytes_writeBytes (m : List Host.Cell) (k a : Nat) (bs : List Byte) :
    readBytes (writeBytes m a bs) k a bs.length = bs := by
  suffices h : ∀ (n i : Nat), i + n = bs.length → readBytes (writeBytes m a bs) k (a + i) n = bs.drop i by
    simpa using h bs.length 0 (by simp)
  intro n
  induction n with
  | zero => intro i hi; simp [readBytes, ← hi]
  | succ n ih =>
    intro i hi
    have hl : i < bs.length := by omega
    rw [readBytes, tget_writeBytes_inside m a bs i hl, show a + i + 1 = a + (i + 1) by omega,
      ih (i + 1) (by omega), List.getElem?_eq_getElem hl]
    simp

/-- A read delivers as many bytes as it asks for. -/
@[simp] theorem readBytes_length (m : List Host.Cell) (k a n : Nat) : (readBytes m k a n).length = n := by
  induction n generalizing a with
  | zero => rfl
  | succ n ih => simp [readBytes, ih]

end Sys2Proof.Machine
end

