-- ==== Sys2Proof/Tests/Slice0.lean ====
section
/-!
SUPPORT. Tests of the model on small states: ill-formed terms, checks and encodings with values from the manual, single
commands with outcomes from the manual's examples, and for every obligation with premises a state that meets them.
-/

namespace Sys2Proof.Tests

open Sys2Proof Sys2Proof.Machine

set_option Elab.async false

/-! ### Well-formedness -/

theorem test_wf_refuses_long_put_data : (Instr.putData 1 2 0 (List.replicate 1035 0)).wf = false := by decide +kernel
theorem test_wf_refuses_known_code : (Instr.unknownRequestCode 1 0x30 []).wf = false := by decide +kernel
theorem test_wf_refuses_long_unknown : (Instr.unknownRequestCode 1 0x99 (List.replicate 1040 0)).wf = false := by
  decide +kernel
theorem test_wf_refuses_empty_request : (Instr.requestArrival 1 []).wf = false := by decide +kernel
theorem test_wf_refuses_long_request : (Instr.requestArrival 1 (List.replicate 1041 0)).wf = false := by
  decide +kernel
theorem test_wf_refuses_long_bad_frame : (Instr.badFrame 1 1 (List.replicate 1041 0) 0).wf = false := by
  decide +kernel
theorem test_wf_accepts : (Instr.putData 1 2 0 (List.replicate 1034 0)).wf = true
    ∧ (Instr.unknownRequestCode 1 0x99 []).wf = true ∧ Instr.tick.wf = true := by decide +kernel

/-! ### Checks and encodings: the check of the nine digits (R77, R142), the example body of section 10.4 -/

/-- The characters 1 to 9. -/
def digits : List Byte := [0x31, 0x32, 0x33, 0x34, 0x35, 0x36, 0x37, 0x38, 0x39]

theorem test_crc32_digits : crc32 digits = 0xCBF43926 := by decide +kernel
theorem test_crc16_digits : crc16 digits = 0x29B1 := by decide +kernel
theorem test_crc32_of_no_bytes : crc32 [] = 0 := by decide +kernel

/-- The parameters of the FILE_CUE example of section 10.4. -/
def exampleCue : CueBody :=
  { cue := 5, lane := 1, payload := 12, options := 4, latePolicy := 1, tolerance := 50, priority := 2, report := 1,
    repeatCount := 6, period := 1000, range := none, start := .time 10000 }

/-- Its body, written out from section 10.4: 24 bytes, the due at offset 18. -/
def exampleBody : List Byte :=
  [0x30, 5, 1, 12, 0, 0, 4, 1, 50, 0, 2, 1, 6, 0, 0xE8, 0x03, 0, 0, 0x10, 0x27, 0, 0, 0, 0]

theorem test_file_cue_example : encodeBody (.fileCue exampleCue) = exampleBody := by decide +kernel
theorem test_file_cue_example_read : readBody exampleBody = some (.fileCue exampleCue) := by decide +kernel
theorem test_file_cue_range_missing : formatCheck (exampleBody.set 5 1) = some .badLength := by decide +kernel
theorem test_file_cue_options_8 : formatCheck (exampleBody.set 6 8) = some .badValue := by decide +kernel
/-- R174's order on a body of 1,031 bytes: its options byte before its length (notes/assumptions/37.md). -/
theorem test_long_file_cue :
    formatCheck (exampleBody.set 6 8 ++ List.replicate 1007 0) = some .badValue
      ∧ formatCheck (exampleBody ++ List.replicate 1007 0) = some .badLength := by decide +kernel
theorem test_table_word_spells_none : decodeTableWord 8 0 = none := by decide +kernel

/-! ### Small states -/

/-- The state a command leads to. -/
def after (c : Instr) (s : State) : State :=
  match exec c s with
  | .next t => t
  | _ => s

/-- The states of the cues in use. -/
def cueStates (s : State) : List (Nat × CueState) := s.cues.map (fun e => (e.1, e.2.state))

/-- The last reply stored: its body, which opens with the code and the status. -/
def lastReply (s : State) : List Byte := ((s.link.replies.getLast?.map (fun r => r.frame.body)).getD [])

def profile : Profile :=
  { rows := 2048, policy := .openRow, interval := 7800, debtLimit := 2, initRefreshes := 2, latency := 3, burst := 8 }

def sealed20 : Payload :=
  { state := .sealed, length := 300, blocks := [0], fillOffset := 300, running := 7, check := some 7, refs := 1,
    mismatch := false }

/-- A part in READY at device time 5,000 with payload 20 of 300 bytes, no notice held and nothing going on. -/
def ready : State :=
  { State.reset with
    device := .ready, link := { Link.reset with line := .on }, notices := { held := [], next := 2 },
    time := { TimeBase.reset with elapsed := 9000, device := 5000, valid := true },
    mc := { MemControl.reset with profile := some profile },
    refresh := { debt := 0, timer := .running 780, request := .absent },
    store := { Store.reset with pool := [1, 2, 3], directory := [(20, sealed20)] } }

/-- A cue of lane 0 on payload 20, due at 6,000, to be released once. -/
def aCue : Cue :=
  { lane := 0, payload := 20, range := none, start := .time 6000, repeatCount := 1, period := 0, late := .sendLate,
    tolerance := 10, priority := 0, report := .each,
    options := { verify := false, autoDiscard := false, armNow := false }, state := .held, due := none, used := 0,
    skipped := 0, last := none, endReason := none, armMoment := none, cut := .none, started := none }

def withCue (c : Cue) (s : State) : State := { s with cues := [(5, c)] }

/-- An enabled lane. -/
def lane (st : LaneState) : Lane :=
  { Lane.reset with state := st, config := { LaneConfig.reset with enabled := true, pace := 10, startThreshold := 32 } }

/-- What a lane holds of cue 5. -/
def held (count : Nat) : HeldCue :=
  { cue := 5, payload := 20, blocks := [0], offset := 0, count := count, check := none }

/-- A transaction on row 0 of bank 0. -/
def transaction (r : Requester) (phase : Phase) (size : Nat) : Transaction :=
  { requester := r, bank := 0, row := 0, pos := 0, size := size, phase := phase, withdrawn := false }

def onPort (op : PortOp) (s : State) : State := { s with mc := { s.mc with port := some op, portLeft := 4 } }

/-- A request that waits for a read of 4 bytes of block 0. -/
def aRead : MemRequest := { block := 0, pos := 0, size := 4 }

/-- Lane 0 EMITTING cue 5, whose release began at 4,990, with its last read in column phase. -/
def emitting (buffer : List Byte) (emitted count : Nat) : State :=
  onPort (.transaction (transaction (.lane 0) .column 4))
    ((withCue { aCue with state := .releasing, due := some 4990, started := some ⟨4990, 0⟩ } ready).setLane 0
      { lane .emitting with
        held := some (held count), buffer := buffer, fetchPos := count, fetched := count, emitted := emitted,
        release := some { start := 4990, lateness := 0, late := false } })

/-- Lane 0 with cue 5 STAGED, due at `due`, and its last read in column phase. -/
def staged (st : LaneState) (buffer : List Byte) (due : Nat) : State :=
  onPort (.transaction (transaction (.lane 0) .column 4))
    ((withCue { aCue with state := .staged, due := some due } ready).setLane 0
      { lane st with held := some (held 40), buffer := buffer, fetchPos := 40, fetched := 40 })

/-- Lane 0 FLUSHING after a cut of cue 5, with its last read in column phase. -/
def cutInColumn : State :=
  (emitting [] 1 4).setLane 0 { (emitting [] 1 4).lane 0 with state := .flushing, cutCause := some .underrun }

/-- A request that waits. -/
def executing (w : Wait) (s : State) : State := { s with executing := some { seq := 9, code := 0x21, wait := w } }

def filling : Payload :=
  { state := .filling, length := 4, blocks := [1], fillOffset := 0, running := 0, check := none, refs := 0,
    mismatch := false }

/-- Payload 21 being filled, with 4 bytes to come. -/
def openFilling : State := ready.setPayload 21 filling

/-- Its 4 bytes taken and waiting in the fill buffer, their write in the given phase. -/
def writing (phase : Phase) : State :=
  onPort (.transaction (transaction .fill phase 4))
    ((ready.setPayload 21 { filling with fillOffset := 4 }).setChunks
      [{ payload := 21, offset := 0, data := [1, 2, 3, 4], written := 0 }])

/-! ### Single commands, with outcomes from the manual's examples -/

/-- The five cues of section 11.5: the forward step from 500,000 by 1,500 ticks. -/
def forwardStep : State :=
  let c : Cue := { aCue with state := .armed }
  let s : State :=
    { ready with
      time := { ready.time with device := 500000 },
      cues :=
        [(2, { c with due := some 500600, priority := 1 }),
          (3, { c with state := .staged, due := some 500400, tolerance := 50 }),
          (4, { c with due := some 501000, late := .skip, tolerance := 100, priority := 3, repeatCount := 3,
                       period := 200 }),
          (6, { c with due := some 502500, tolerance := 0 }),
          (9, { c with lane := 1, due := some 500800, late := .skip, tolerance := 0 })] }
  s.setLane 0
    { lane .primed with
      held := some { held 40 with cue := 3 }, buffer := List.replicate 40 0xAA, fetchPos := 40, fetched := 40 }

theorem test_forward_step_states :
    cueStates (after (.stepTime 1 1500) forwardStep)
      = [(2, .pending), (3, .releasing), (4, .pending), (6, .armed), (9, .ended)] := by decide +kernel
theorem test_forward_step_grouped_skipping :
    (((after (.stepTime 1 1500) forwardStep).cue? 4).map (fun c => (c.due, c.used, c.skipped)))
      = some (some 501400, 2, 2) := by decide +kernel
theorem test_forward_step_late_start :
    ((after (.stepTime 1 1500) forwardStep).lane 0).release
      = some { start := 501500, lateness := 1100, late := true } := by decide +kernel

/-- Section 11.4: cue 7 after its 99th byte of 100, with nothing outstanding. -/
def beforeEnd : State :=
  (withCue { aCue with
      repeatCount := 2, period := 500, state := .releasing, due := some 300000, started := some ⟨300000, 0⟩ }
    { ready with time := { ready.time with device := 300099 } }).setLane 0
    { lane .emitting with
      config := { (lane .emitting).config with leadWindow := 300 },
      held := some (held 100), buffer := [0x55], fetchPos := 100, fetched := 100, emitted := 99,
      release := some { start := 300000, lateness := 0, late := false } }

theorem test_cancel_before_end_byte :
    (lastReply (after (.cancelCue 1 5) beforeEnd), (after (.cancelCue 1 5) beforeEnd).cue? 5 |>.map Cue.endReason,
      ((after (.cancelCue 1 5) beforeEnd).lane 0).pins.abort)
      = ([0x32, 0, 1, 0, 0, 0], some (some .cancelled), true) := by decide +kernel
theorem test_end_byte_before_cancel :
    ((after (.byteSlot 0) beforeEnd).cue? 5).map (fun c => (c.state, c.due, c.used, c.last.map Occurrence.result))
      = some (.armed, some 300500, 1, some .sent) := by decide +kernel

/-- Section 11.1: the pool with blocks 100 to 103 at its head. -/
def poolOf100 : State := { ready with store := { ready.store with pool := [100, 101, 102, 103] } }

theorem test_open_takes_the_pool_head :
    ((after (.openPayload 1 21 2600) poolOf100).payload? 21).map Payload.blocks = some [100, 101]
      ∧ lastReply (after (.openPayload 1 21 2600) poolOf100) = [0x20, 0, 2, 0, 100, 0, 2, 0] := by decide +kernel
theorem test_put_data_out_of_order :
    lastReply (after (.putData 2 21 2 [1]) openFilling) = [0x21, 0x19, 0, 0, 0, 0] := by decide +kernel
theorem test_seal_mismatch_frees :
    (after (.sealPayload 2 21 (some 1)) (ready.setPayload 21 { filling with fillOffset := 4, running := 2 })).payload?
      21 = none := by decide +kernel

/-- Section 11.2: the expiry one tick past the tolerance of a SKIP cue that a hold keeps from starting. -/
theorem test_tolerance_passes :
    let s := (withCue { aCue with
        late := .skip, tolerance := 100, repeatCount := 4, period := 2000, used := 2, state := .staged,
        due := some 104000 } { ready with time := { ready.time with device := 104100 } }).setLane 0
      { lane .primed with hold := true, held := some (held 40), buffer := List.replicate 40 0, fetchPos := 40,
                          fetched := 40 }
    ((after .tick s).cue? 5).map (fun c => (c.state, c.due, c.used, c.skipped, c.last.map Occurrence.lateness))
      = some (.armed, some 106000, 3, 1, some 101) := by decide +kernel

theorem test_get_state_counts :
    lastReply (after (.getState 1) (withCue aCue ready))
      = [0x02, 0, 2, 1, 63, 1, 0, 0, 0, 0, 0, 0, 3, 0, 0, 0] := by decide +kernel
theorem test_not_ready_carries_the_state :
    lastReply (after (.listCues 1) (after .receiveLineOn State.reset))
      = [0x35, 0x13, 0] := by decide +kernel
theorem test_unknown_code : lastReply (after (.unknownRequestCode 1 0x99 []) ready) = [0x99, 0x10] := by
  decide +kernel
theorem test_restarted_is_the_first_frame :
    (after .frameTransmitStart State.reset).link.tx.map TxFrame.frame
      = some { frameType := 0x12, seq := 1, body := [0x01, 1, 0, 0] } := by decide +kernel
theorem test_notice_ack_wraps :
    let n : BitVec 16 → Notice := fun k => { number := k, body := .slewDone, send := .sent, again := false,
                                             lastSent := some 9000 }
    let s := { ready with notices := { held := [n 65535, n 0, n 1], next := 2 } }
    (after (.noticeAck 1 0) s).notices.held.map Notice.number = [1]
      ∧ lastReply (after (.noticeAck 1 0) s) = [0x04, 0, 2, 1]
      ∧ lastReply (after (.noticeAck 1 2) s) = [0x04, 0x12, 3, 1, 0xFF, 0xFF, 1, 0] := by decide +kernel
theorem test_mode_set_ends_the_bring_up :
    let s := onPort (.bringUp .modeSet false)
      { ready with
        device := .initializing,
        mc := { ready.mc with profile := some { profile with rows := 2 },
                              bringUp := some { step := .modeSet, waitEnd := 0, refreshes := 2 } } }
    let t := after .modeSetDone s
    (t.device, t.store.pool, t.store.directory, t.refresh.timer, t.mc.port.isNone)
      = (.ready, [0, 1, 2, 3, 4, 5, 6, 7], [], .running 780, true) := by decide +kernel
theorem test_row_conflict_precharges_first :
    let s := { ready with mc := { ready.mc with banks := ready.mc.banks.set 0 (some 9),
                                                laneReq := ready.mc.laneReq.set 0 (some aRead) } }.setLane 0
      (lane .emitting)
    (after .arbiterGrant s).mc.port
      = some (.transaction (transaction (.lane 0) (.row .precharge) 4)) := by decide +kernel
theorem test_write_stores_bytes :
    let t := after .transactionComplete (writing .column)
    ([0, 1, 2, 3, 4].map t.memByte, t.store.chunks)
      = ([some 1, some 2, some 3, some 4, none], []) := by decide +kernel
theorem test_full_ring_drops_the_oldest :
    let p : Nat → Stamp := fun k => { time := k, edge := .falling }
    let s := { ready with
      triggers := { ready.triggers with
        lines := ready.triggers.lines.set 2 { mode := .rising, notify := false, gap := false, level := some false,
                                              ring := [p 1, p 2, p 3, p 4, p 5, p 6, p 7, p 8] } } }
    let x := (after (.triggerEdge 2 true) s).triggers.lines.get 2
    (x.ring.map Stamp.time, x.gap) = ([2, 3, 4, 5, 6, 7, 8, 5000], true) := by decide +kernel
theorem test_slew_adjustment_counts_two :
    let s := { ready with time := { ready.time with slew := some { remaining := 1, spacing := 100, next := 9001 } } }
    ((after .tick s).time.device, (after .tick s).time.slew) = (5002, none) := by decide +kernel

/-- Section 8.9: a link with a frame in transmission, this reply queue and this inbox, and R20 and R21 stored. -/
def reply20 : Frame := { frameType := 0x11, seq := 20, body := [0x21, 0, 0, 4] }
def reply21 : Frame := { frameType := 0x11, seq := 21, body := [0x40, 0, 1, 0, 0, 0, 0, 0, 0] }
def fullInbox (tx : Option Frame) (queue : List QueuedReply) (inbox : List InboxEntry) : State :=
  { ready with
    link := { ready.link with
      tx := tx.map (fun f => ⟨f, 0⟩), replyQueue := queue, inbox := inbox,
      replies := [{ seq := 20, code := 0x21, frame := reply20 }, { seq := 21, code := 0x40, frame := reply21 }] } }

def request21 : InboxEntry := { seq := 21, body := [0x40] }
def request22 : InboxEntry := { seq := 22, body := [0x34, 5] }
def request23 : InboxEntry := { seq := 23, body := [0x51, 0] }
def request24 : InboxEntry := { seq := 24, body := [0x02] }

/-- What the link of section 8.9 shows: the frame in transmission, the reply queue, the inbox and the prompt list, by
their seqs. -/
def linkRow (s : State) : Option Byte × List Byte × List Byte × List Byte :=
  (s.link.tx.map (fun t => t.frame.seq),
    s.link.replyQueue.map (fun q => match q with
      | .executed f => f.seq
      | .syncDone q => q),
    s.link.inbox.map InboxEntry.seq, s.link.prompt.map Frame.seq)

theorem test_reply_begins_and_request_is_taken :
    linkRow (after .frameTransmitStart
        (fullInbox none [.executed reply20] [request21, request22, request23, request24]))
      = (some 20, [21], [22, 23, 24], []) := by decide +kernel
theorem test_request_behind_a_waiting_reply_is_admitted :
    linkRow (after (.listCues 25) (fullInbox (some reply20) [.executed reply21] [request22, request23, request24]))
      = (some 20, [21], [22, 23, 24, 25], []) := by decide +kernel
theorem test_stored_reply_is_sent_again :
    linkRow (after (.putData 20 21 0 [1, 2, 3, 4])
        (fullInbox (some reply20) [.executed reply21] [request22, request23, request24]))
      = (some 20, [21], [22, 23, 24], [20]) := by decide +kernel
theorem test_stored_copy_ends_and_next_is_taken :
    linkRow (after .frameTransmitEnd
        (fullInbox (some reply20) [.executed reply21] [request22, request23, request24]))
      = (some 21, [22], [23, 24], []) := by decide +kernel

/-- R16: a SKIP cue that its lane picks again in the event of its skip ends the event in STAGED, so its notice has no
next due. -/
theorem test_skip_picked_again_has_no_next_due :
    let s := (withCue { aCue with
        late := .skip, tolerance := 2, repeatCount := 0, period := 10, state := .pending, due := some 4998 }
      ready).setLane 0 (lane .flushing)
    let t := after .tick s
    ((t.cue? 5).map (fun c => (c.state, c.due)), t.notices.held.map Notice.body)
      = (some (.staged, some 5008), [.cueSkipped 5 1 none]) := by decide +kernel
theorem test_skip_that_stays_armed_has_a_next_due :
    (after (.stepTime 1 1500) forwardStep).notices.held.map Notice.body |>.contains
      (.cueSkipped 4 2 (some 501400)) := by decide +kernel

/-! ### Witnesses: for every obligation with premises, states and operands that meet them -/

/-- What a request does, before its reply. -/
def ran (r : Req) (s : State) : State := (runRequest (txBegin s) 7 r).1

/-- Whether a request that is attended to leaves nothing more to do. -/
def requestSettles (r : Req) (s : State) : Bool := attends s 7 r.code && settled (txBegin s) (ran r s)

/-- Whether a request that is attended to leaves the lanes and the store calm. -/
def requestCalm (r : Req) (s : State) : Bool := attends s 7 r.code && calm (txBegin s) (ran r s)

/-- Whether an event of a running part leaves nothing more to do but a grant. -/
def eventGoesOn (f : State → State) (s : State) : Bool := !s.inReset && goesOn (txBegin s) (f (txBegin s))

/-- Whether lane 0 alone has something left to do after an event, which leads to `next` of what the event leaves. -/
def eventLeads (f next : State → State) (s : State) : Bool :=
  !s.inReset && laneLeads (txBegin s) (f (txBegin s)) (next (f (txBegin s))) 0

/-- What an event leads to on lane 0: the state of the lane, and the cue that it holds. -/
def ledTo (f next : State → State) (s : State) : LaneState × Option Nat :=
  let x := (next (f (txBegin s))).lane 0
  (x.state, x.held.map HeldCue.cue)

/-- Lane 0 picks. -/
def picks (s : State) : State := pickFor s 0

/-- The flush of lane 0 ends, and it picks. -/
def flushes (s : State) : State := pickFor (endFlush s 0) 0

theorem witness_StepTakesFrontCommand :
    ({ ready with pending := [.tick, .lineFault] } : State).pending = .tick :: [.lineFault] := rfl
theorem witness_EmptyQueueIsOnePeriod :
    (ready.pending = [] ∧ ready.inReset = false ∧ portEnds ready = false ∧ (∀ l, slotFalls ready l = false)
        ∧ intervalEnds ready = false ∧ tickFalls ready = false ∧ frameOver (countPeriod (txBegin ready)) = false)
      ∧ (beginReset ready).pending = [] ∧ (beginReset ready).inReset = true := by decide +kernel

/-- What falls in the period that begins at `s`: the end of the port's operation, byte slots, the end of the refresh
interval, a tick; and whether a frame is in transmission. -/
def fallsIn (s : State) : Bool × List (Fin 4) × Bool × Bool × Bool :=
  (decide (s.mc.port ≠ none ∧ s.mc.portLeft ≤ 1),
    fours.filter (fun l =>
      decide ((s.lane l).state = .emitting ∧ (s.lane l).slotWaiting = false ∧ (s.lane l).slotIn ≤ 1)),
    intervalEnds s, decide (100 ≤ s.time.phase + 1), (txBegin s).link.tx.isSome)

/-- One event falls in the period: the end of each operation of the port, a byte slot, the end of the interval, a tick,
and the end of a frame, which has been long enough in transmission at each line rate. -/
theorem witness_EmptyQueueIsOnePeriod_events :
    let t := transaction .readBack
    let lasts := fun (op : PortOp) => { ready with mc := { ready.mc with port := some op, portLeft := 1 } }
    let sends := { ready with link := { ready.link with tx := some ⟨{ frameType := 0x13, seq := 0, body := [] }, 70000⟩ } }
    (∀ op ∈ [PortOp.transaction (t (.row .activate) 4), .transaction (t .column 4), .transaction (t .closing 4),
          .refresh .precharge, .refresh .command, .bringUp .precharge false, .bringUp .refresh true,
          .bringUp .modeSet false],
        fallsIn (lasts op) = (true, [], false, false, false))
      ∧ fallsIn ((emitting [1] 1 4).setLane 0 { (emitting [1] 1 4).lane 0 with slotIn := 1 })
        = (false, [0], false, false, false)
      ∧ fallsIn { ready with refresh := { ready.refresh with timer := .running 1 } } = (false, [], true, false, false)
      ∧ fallsIn { ready with time := { ready.time with phase := 99 } } = (false, [], false, true, false)
      ∧ (fallsIn sends = (false, [], false, false, true)
        ∧ (countPeriod (txBegin sends)).link.tx.map TxFrame.clocks = some 70001
        ∧ ∀ r : Config.LineRate, 7 + ([] : List Byte).length ≤ 70001 * r.bitsPerSecond / 1000000000) := by
  refine ⟨by decide +kernel, by decide +kernel, by decide +kernel, by decide +kernel, by decide +kernel,
    by decide +kernel, fun r => ?_⟩
  cases r <;> decide +kernel
theorem witness_PinReset : ready.inReset = false ∧ (beginReset ready).inReset = true := by decide +kernel
theorem witness_InterpreterTests :
    (knownCode 0x99 = false ∧ attends ready 7 0x99 = true)
      ∧ (attends { ready with device := .unconfigured } 7 0x35 = true
        ∧ attends { ready with device := .initializing } 7 0x10 = true)
      ∧ (∀ body ∈ [[0x04, 1], exampleBody.set 6 8, exampleBody.set 5 1, exampleBody.set 1 64],
          knownCode (byteAt body 0) = true ∧ attends ready 7 (byteAt body 0) = true
            ∧ accepted (byteAt body 0) ready.device = true)
      ∧ ([0x04, 1] : List Byte).length < fixedPart 0x04
      ∧ (fixedPart 0x30 ≤ exampleBody.length ∧ flagBytesOk (exampleBody.set 6 8) = false)
      ∧ (flagBytesOk (exampleBody.set 5 1) = true ∧ lengthOk (exampleBody.set 5 1) = false)
      ∧ (flagBytesOk (exampleBody.set 1 64) = true ∧ lengthOk (exampleBody.set 1 64) = true
        ∧ cueIdOk (exampleBody.set 1 64) = false) := by decide +kernel
theorem witness_PartReadersReply :
    (∀ code ∈ [0x01, 0x02, 0x40, 0x11, 0x51], attends ready 7 code = true)
      ∧ (3 : Byte).toNat = (3 : Fin 4).val ∧ 4 ≤ (4 : Byte).toNat := by decide +kernel
theorem witness_DirectoryReadersReply :
    ready.device = .ready ∧ attends ready 7 0x25 = true ∧ attends ready 7 0x26 = true ∧ ready.payload? 255 = none
      ∧ ready.payload? 20 = some sealed20 ∧ sortedKeys ready.store.directory = true := by decide +kernel
theorem witness_CueReadersReply :
    let s := withCue aCue ready
    s.device = .ready ∧ attends s 7 0x34 = true ∧ attends s 7 0x35 = true ∧ s.cue? 63 = none
      ∧ s.cue? 5 = some aCue ∧ sortedKeys s.cues = true := by decide +kernel

/-- Three held notices, the oldest numbered 65,535. -/
def threeNotices : State :=
  let n : BitVec 16 → Notice := fun k => { number := k, body := .slewDone, send := .sent, again := false,
                                           lastSent := some 9000 }
  { ready with notices := { held := [n 65535, n 0, n 1], next := 2 } }

theorem witness_NoticeAckByPosition :
    let o := oldestNumber (txBegin threeNotices).notices
    attends threeNotices 7 0x04 = true ∧ (txBegin threeNotices).notices.held.length = 3
      ∧ ((1 : BitVec 16) - o).toNat < 3
      ∧ (3 ≤ ((65534 : BitVec 16) - o).toNat ∧ (o - 65534).toNat = 1)
      ∧ (3 ≤ ((32767 : BitVec 16) - o).toNat ∧ (o - 32767).toNat = 32768)
      ∧ (3 ≤ ((2 : BitVec 16) - o).toNat ∧ 32768 < (o - 2).toNat)
      ∧ (attends ready 7 0x04 = true ∧ (oldestNumber (txBegin ready).notices - 2).toNat = 0) := by decide +kernel

/-- A memory profile at the edges of its ranges. -/
def aProfile : ProfileBody :=
  { rows := 2048, policy := 1, interval := 1000, debtLimit := 8, initRefreshes := 2, latency := 3, burst := 8 }

theorem witness_MemoryInitBeginsBringUp :
    (attends ready 7 0x10 = true ∧ ready.device = .ready ∧ ready.store.directory ≠ [])
      ∧ attends { ready with device := .unconfigured } 7 0x10 = true
      ∧ (profileOf { aProfile with interval := 999 }).isNone = true ∧ (profileOf aProfile).isSome = true
      ∧ ((aProfile.rows.toNat = 2048 ∧ aProfile.policy.toNat = 1 ∧ 1000 ≤ aProfile.interval.toNat
          ∧ aProfile.debtLimit.toNat ≤ 8 ∧ 2 ≤ aProfile.initRefreshes.toNat ∧ aProfile.latency.toNat = 3
          ∧ aProfile.burst.toNat = 8) ∧ ¬1000 ≤ ({ aProfile with interval := 999 } : ProfileBody).interval.toNat) := by
  decide +kernel
theorem witness_SoftReset :
    (attends ready 7 0x03 = true ∧ ready.device ≠ .initializing ∧ ready.mc.port = none)
      ∧ attends { ready with device := .initializing } 7 0x03 = true
      ∧ (sortedKeys ready.store.directory = true ∧ inColumn ready .fill = false)
      ∧ (attends (writing .column) 7 0x03 = true ∧ sortedKeys (writing .column).store.directory = true
        ∧ inColumn (writing .column) .fill = true)
      ∧ (attends (onPort (.refresh .command) ready) 7 0x03 = true
        ∧ attends (onPort (.bringUp .refresh false) ready) 7 0x03 = true
        ∧ attends (onPort (.transaction (transaction (.lane 0) (.row .activate) 4)) (emitting [1] 1 4)) 7 0x03 = true)
      ∧ (attends (emitting [1] 1 4) 7 0x03 = true ∧ ((emitting [1] 1 4).lane 0).state = .emitting)
      ∧ ((staged .primed [1] 6000).lane 0).state = .primed
      ∧ ((ready.setLane 1 (lane .flushing)).lane 1).state = .flushing ∧ (ready.lane 3).state = .stopped := by
  decide +kernel
theorem witness_OpenPayloadReserves :
    ready.device = .ready ∧ attends ready 7 0x20 = true ∧ ready.payload? 20 = some sealed20
      ∧ ready.payload? 21 = none ∧ (0 : BitVec 32).toNat = 0 ∧ 16777216 < (16777217 : BitVec 32).toNat
      ∧ ready.store.pool.length < (6145 + 2047) / 2048 ∧ (6144 + 2047) / 2048 ≤ ready.store.pool.length
      ∧ (16777216 : BitVec 32).toNat ≤ 16777216 := by decide +kernel

/-- The fill buffer with all four slots taken. -/
def fullBuffer : State :=
  (writing .column).setChunks (List.replicate 4 { payload := 21, offset := 0, data := [1], written := 0 })

theorem witness_PutDataIsTaken :
    openFilling.device = .ready ∧ attends openFilling 7 0x21 = true ∧ openFilling.payload? 22 = none
      ∧ openFilling.payload? 20 = some sealed20 ∧ sealed20.state ≠ .filling
      ∧ openFilling.payload? 21 = some filling ∧ filling.state = .filling ∧ filling.fillOffset = 0
      ∧ filling.length < 0 + [1, 2, 3, 4, 5].length ∧ 0 + [1, 2, 3, 4].length ≤ filling.length
      ∧ calm (txBegin openFilling) (txBegin openFilling) = true ∧ openFilling.store.chunks.length < 4
      ∧ calm (txBegin fullBuffer) (txBegin fullBuffer) = true ∧ 4 ≤ fullBuffer.store.chunks.length
      ∧ attends fullBuffer 7 0x21 = true
      ∧ fullBuffer.payload? 21 = some { filling with fillOffset := 4 } := by decide +kernel
theorem witness_SealPayloadCloses :
    let s := ready.setPayload 21 { filling with fillOffset := 4, running := 2 }
    s.device = .ready ∧ attends s 7 0x22 = true ∧ s.payload? 22 = none ∧ s.payload? 20 = some sealed20
      ∧ openFilling.payload? 21 = some filling ∧ filling.fillOffset ≠ filling.length ∧ attends openFilling 7 0x22 = true
      ∧ s.payload? 21 = some { filling with fillOffset := 4, running := 2 }
      ∧ calm (txBegin s) (txBegin s) = true ∧ holdsChunk s 21 = false
      ∧ calm (txBegin (writing .column)) (txBegin (writing .column)) = true
      ∧ attends (writing .column) 7 0x22 = true ∧ holdsChunk (writing .column) 21 = true := by decide +kernel
theorem witness_DeletePayload :
    let unused := ready.setPayload 20 { sealed20 with refs := 0 }
    ready.device = .ready ∧ attends ready 7 0x23 = true ∧ ready.payload? 21 = none
      ∧ unused.payload? 20 = some { sealed20 with refs := 0 } ∧ requestSettles (.deletePayload 20) unused = true
      ∧ requestSettles (.deletePayload 20) ready = true ∧ 0 < sealed20.refs
      ∧ (ready.setPayload 20 { sealed20 with state := .doomed }).payload? 20 = some { sealed20 with state := .doomed }
      ∧ attends openFilling 7 0x23 = true ∧ holdsChunk openFilling 21 = false
      ∧ calm (txBegin openFilling) (txBegin openFilling) = true
      ∧ (∀ phase ∈ [Phase.column, .row .precharge],
          attends (writing phase) 7 0x23 = true
            ∧ (writing phase).store.chunks = [{ payload := 21, offset := 0, data := [1, 2, 3, 4], written := 0 }]
            ∧ calm (txBegin (writing phase)) (txBegin (writing phase)) = true)
      ∧ inColumn (writing .column) .fill = true ∧ inColumn (writing (.row .precharge)) .fill = false
      ∧ (let s := (writing .column).setPayload 22 filling
        s.payload? 22 = some filling ∧ (21 : Nat) ≠ 22 ∧ attends s 7 0x23 = true
          ∧ calm (txBegin s) (txBegin s) = true) := by decide +kernel
theorem witness_ReadBackBegins :
    ready.device = .ready ∧ attends ready 7 0x24 = true ∧ (0 : BitVec 16).toNat = 0
      ∧ 1024 < (1025 : BitVec 16).toNat ∧ ready.payload? 21 = none ∧ openFilling.payload? 21 = some filling
      ∧ attends openFilling 7 0x24 = true ∧ ready.payload? 20 = some sealed20 ∧ sealed20.state ≠ .filling
      ∧ sealed20.length < 299 + 2 ∧ 299 + 1 ≤ sealed20.length ∧ calm (txBegin ready) (txBegin ready) = true
      ∧ outstanding (txBegin ready) .readBack = false ∧ sealed20.blocks[299 / 2048]? = some 0 := by decide +kernel

/-- A FILE_CUE body for payload 20, due at 6,000. -/
def aBody : CueBody :=
  { cue := 63, lane := 3, payload := 20, options := 0, latePolicy := 1, tolerance := 0, priority := 3, report := 2,
    repeatCount := 2, period := 10, range := some (299, 1), start := .time 6000 }

theorem witness_FileCueRefusals :
    ready.device = .ready ∧ attends ready 7 0x30 = true ∧ aBody.cue.toNat < 64 ∧ aBody.options.toNat < 8
      ∧ ((withCue aCue ready).cue? 5).isSome = true ∧ attends (withCue aCue ready) 7 0x30 = true
      ∧ ready.cue? 63 = none ∧ ready.payload? 21 = none ∧ ready.payload? 20 = some sealed20
      ∧ openFilling.payload? 21 = some filling ∧ filling.state ≠ .sealed
      ∧ (cueOf { aBody with lane := 4 }).isNone = true ∧ (cueOf aBody).isSome = true
      ∧ ((cueOf { aBody with range := some (299, 2) }).bind Cue.range).isSome = true ∧ sealed20.length < 299 + 2
      ∧ ((cueOf { aBody with options := 1 }).map (fun c => c.options.verify)) = some true
      ∧ ((cueOf { aBody with start := .trigger 0 0 1, period := 0 }).map Cue.start) = some (.trigger 0 .rising 1)
      ∧ ((cueOf { aBody with period := 9 }).map Cue.period) = some 9
      ∧ ((cueOf { aBody with options := 4 }).map (fun c => (c.options.armNow, fileValuesOk c 300))) = some (true, true)
      ∧ (6000 : Nat) ≤ ({ ready with time := { ready.time with device := 6000 } } : State).time.device := by
  decide +kernel
theorem witness_FileCueFiles :
    requestSettles (.fileCue aBody) ready = true
      ∧ requestSettles (.fileCue { aBody with options := 4 }) ready = true
      ∧ requestSettles (.fileCue { aBody with options := 4, period := 0, start := .trigger 3 2 2 }) ready = true
      ∧ ((cueOf aBody).map (fun c => fileValuesOk c 300)) = some true
      ∧ ((cueOf { aBody with options := 4, period := 0, start := .trigger 3 2 2 }).map
          (fun c => fileValuesOk c 300)) = some true
      ∧ ready.time.valid = true ∧ ready.time.device < 6000 := by decide +kernel

/-- A cue filed or armed within the lead window of an IDLE lane, which picks it in the same event. -/
theorem witness_FileCueFiles_picked :
    let idle := fun s : State => s.setLane 0 (lane .idle)
    let soon := { aBody with lane := 0, options := 4, start := .time 5400 }
    attends (idle ready) 7 0x30 = true ∧ ((cueOf soon).map (fun c => (c.lane, c.start))) = some (0, .time 5400)
      ∧ ((after (.fileCue 7 soon) (idle ready)).lane 0).state = .staging
      ∧ attends (idle (withCue aCue ready)) 7 0x31 = true
      ∧ ((after (.armCue 7 5 (some 5400)) (idle (withCue aCue ready))).lane 0).state = .staging
      ∧ lastReply (after (.armCue 7 5 (some 5400)) (idle (withCue aCue ready))) = [0x31, 0, 2, 1, 24, 21, 0, 0, 0, 0] := by
  decide +kernel
theorem witness_ArmCueArms :
    let s := withCue aCue ready
    let t := withCue { aCue with start := .trigger 0 .rising 2 } ready
    s.device = .ready ∧ attends s 7 0x31 = true ∧ s.cue? 63 = none ∧ s.cue? 5 = some aCue
      ∧ (withCue { aCue with state := .armed, due := some 6000 } ready).cue? 5 ≠ some aCue
      ∧ ({ s with time := { s.time with valid := false } } : State).time.valid = false
      ∧ (5000 : Nat) ≤ s.time.device ∧ requestSettles (.armCue 5 (some 5001)) s = true
      ∧ requestSettles (.armCue 5 none) s = true ∧ requestSettles (.armCue 5 none) t = true
      ∧ attends t 7 0x31 = true := by decide +kernel
theorem witness_CancelCue :
    (attends ready 7 0x32 = true ∧ ready.cue? 5 = none)
      ∧ attends (withCue { aCue with state := .ended } ready) 7 0x32 = true
      ∧ requestSettles (.cancelCue 5) (withCue aCue ready) = true
      ∧ requestSettles (.cancelCue 5) (withCue { aCue with state := .armed, due := some 6000 } ready) = true
      ∧ requestSettles (.cancelCue 5) (withCue { aCue with state := .triggerWait } ready) = true
      ∧ requestSettles (.cancelCue 5) (withCue { aCue with state := .pending, due := some 4000 } ready) = true
      ∧ requestSettles (.cancelCue 5) (staged .primed [1] 6000) = true
      ∧ (let s := (staged .primed [1] 6000).freePort
        attends s 7 0x32 = true ∧ (s.lane 0).state = .primed
          ∧ laneLeads (txBegin s) (ran (.cancelCue 5) s) (flushes (ran (.cancelCue 5) s)) 0 = true)
      ∧ requestCalm (.cancelCue 5) (emitting [1] 1 4) = true
      ∧ ((emitting [1] 1 4).cue? 5).map Cue.state = some .releasing
      ∧ (let s := (emitting [1] 1 4).freePort
        let t := executing (.cancel 5 none) (ran (.cancelCue 5) s)
        attends s 7 0x32 = true ∧ (s.lane 0).held = some (held 4) ∧ (held 4).cue = 5 ∧ sortedKeys s.cues = true
          ∧ outstanding t (.lane 0) = false ∧ calm (txBegin s) (endFlush t 0) = true)
      ∧ (let s := cutInColumn
        requestCalm (.cancelCue 5) s = true ∧ (s.cue? 5).map Cue.state = some .releasing
          ∧ (s.lane 0).state ≠ .emitting) := by decide +kernel
theorem witness_DiscardCueEmpties :
    (attends ready 7 0x33 = true ∧ ready.cue? 5 = none)
      ∧ requestSettles (.discardCue 5) (withCue aCue ready) = true
      ∧ (withCue aCue ready).payload? aCue.payload = some sealed20
      ∧ (let s := (withCue aCue ready).setPayload 20 { sealed20 with state := .doomed }
        attends s 7 0x33 = true ∧ s.payload? aCue.payload = some { sealed20 with state := .doomed }
          ∧ settled (txBegin s) ((ran (.discardCue 5) s).freePayload 20) = true)
      ∧ requestSettles (.discardCue 5) (withCue { aCue with state := .ended } ready) = true
      ∧ attends (withCue { aCue with state := .armed } ready) 7 0x33 = true := by decide +kernel
/-- Where the other lanes are as after a reset and the table holds cue 5 alone, on lane 0, the lanes are in order when
lane 0 is. -/
theorem laneInvariant_of_lane0 (s : State) (c : Cue) (hc : s.cues = [(5, c)]) (hl : c.lane = 0)
    (hr : ∀ l, l ≠ 0 → s.lane l = Lane.reset)
    (h0 : let x := s.lane 0
      x.config.enabled = true ∧ x.held.map HeldCue.cue = some 5
        ∧ ((c.state = .staged ∧ x.state.holdsStaged = true ∧ x.release = none)
          ∨ (c.state = .releasing ∧ x.state = .emitting ∧ x.release.isSome = true))) : laneInvariant s := by
  obtain ⟨he, hh, hst⟩ := h0
  cases hx : (s.lane 0).held with
  | none => simp [hx] at hh
  | some h =>
    rw [hx] at hh
    have h5 : h.cue = 5 := by simpa using hh
    have hq : s.cue? h.cue = some c := by simp [State.cue?, hc, h5, tget]
    refine ⟨fun l => ?_, fun id c' hc' _ => ?_⟩
    · by_cases hl0 : l = 0
      · subst hl0
        rcases hst with ⟨h1, h2, h3⟩ | ⟨h1, h2, h3⟩
        · cases hs : (s.lane 0).state <;>
            simp_all [LaneState.holdsStaged, LaneState.atRest, holdsCue]
        · simp_all [LaneState.holdsStaged, LaneState.atRest, holdsCue]
      · rw [hr l hl0]
        simp [Lane.reset, LaneConfig.reset, LaneState.atRest, LaneState.holdsStaged]
    · have : id = 5 ∧ c' = c := by
        by_cases hid : id = 5 <;> simp_all [State.cue?, tget]
      exact ⟨h, by rw [this.2, hl]; exact hx, by rw [this.1]; exact h5⟩

/-- Every lane but lane 0 as it is after a reset. -/
theorem others_at_reset (s : State) (x : Lane) (h : s.lanes = ⟨x, Lane.reset, Lane.reset, Lane.reset⟩) :
    ∀ l, l ≠ 0 → s.lane l = Lane.reset := by
  intro l hl
  match l with
  | 0 => exact absurd rfl hl
  | 1 | 2 | 3 => simp [State.lane, h, Quad.get]

theorem witness_StopAllStops :
    (requestCalm .stopAll (withCue aCue ready) = true ∧ lanesAtRest (withCue aCue ready) = true)
      ∧ requestCalm .stopAll (emitting [1] 1 4) = true
      ∧ lanesAtRest (ran .stopAll (emitting [1] 1 4)) = false
      ∧ laneInvariant (emitting [1] 1 4) ∧ laneInvariant (emitting [1] 1 4).freePort
      ∧ (let s := (emitting [1] 1 4).freePort
        let t := executing (.stopAll 0 0) (ran .stopAll s)
        attends s 7 0x36 = true ∧ lanesAtRest (fours.foldl endFlush t).freeDoomed = true)
      ∧ (let s := emitting [1] 1 4
        let t := executing (.stopAll 0 0) (ran .stopAll s)
        attends s 7 0x36 = true ∧ lanesAtRest (fours.foldl endFlush t).freeDoomed = false) :=
  ⟨by decide +kernel, by decide +kernel, by decide +kernel,
    laneInvariant_of_lane0 _ _ rfl rfl (others_at_reset _ _ rfl) (by decide +kernel),
    laneInvariant_of_lane0 _ _ rfl rfl (others_at_reset _ _ rfl) (by decide +kernel), by decide +kernel,
    by decide +kernel⟩
theorem witness_SetAndSlewTime :
    attends (withCue { aCue with state := .armed } ready) 7 0x41 = true ∧ attends ready 7 0x41 = true
      ∧ attends ready 7 0x43 = true ∧ (1000001 : BitVec 32).toInt.natAbs = 1000001
      ∧ (1000000 : BitVec 32).toInt.natAbs ≤ 1000000 ∧ (99 : BitVec 16).toNat < 100 ∧ 100 ≤ (100 : BitVec 16).toNat
      ∧ ready.time.valid = true ∧ ready.time.atEnd = false := by decide +kernel
theorem witness_StepTimeSteps :
    attends ready 7 0x42 = true ∧ (2147483648 : BitVec 32).toInt.natAbs = 2147483648
      ∧ (0xFFFFEC77 : BitVec 32).toInt = -5001 ∧ requestSettles (.stepTime 0xFFFFEC78) ready = true
      ∧ (0xFFFFEC78 : BitVec 32).toInt = -5000 ∧ requestSettles (.stepTime 2147483647) ready = true := by
  decide +kernel
theorem witness_TriggerRequests :
    attends ready 7 0x44 = true ∧ attends ready 7 0x45 = true ∧ 4 ≤ (4 : Byte).toNat ∧ 2 ≤ (2 : Byte).toNat
      ∧ edgeModeOf 3 = some .either ∧ (1 : Byte).toNat = true.toNat ∧ 8 < (9 : Byte).toNat ∧ 1 ≤ (1 : Byte).toNat
      ∧ (8 : Byte).toNat ≤ 8 := by decide +kernel

/-- Lane settings at the edges of their ranges. -/
def aLaneBody : LaneBody := { enabled := 1, pace := 1, leadWindow := 20, startThreshold := 2048, holdLimit := 0 }

theorem witness_SetLaneConfigures :
    (attends ready 7 0x50 = true ∧ 4 ≤ (4 : Byte).toNat ∧ (3 : Byte).toNat = (3 : Fin 4).val)
      ∧ (({ aLaneBody with startThreshold := 31 } : LaneBody).startThreshold.toNat < 32
        ∧ ({ aLaneBody with leadWindow := 19 } : LaneBody).leadWindow.toNat < 20)
      ∧ ¬(2 ≤ aLaneBody.enabled.toNat ∨ aLaneBody.pace.toNat = 0 ∨ aLaneBody.leadWindow.toNat < 20
        ∨ aLaneBody.startThreshold.toNat < 32 ∨ 2048 < aLaneBody.startThreshold.toNat)
      ∧ (attends (emitting [1] 1 4) 7 0x50 = true ∧ ((emitting [1] 1 4).lane 0).state ≠ .idle)
      ∧ (attends (withCue { aCue with state := .pending, due := some 4000 } ready) 7 0x50 = true
        ∧ pendingQueue (withCue { aCue with state := .pending, due := some 4000 } ready) 0 ≠ [])
      ∧ (requestSettles (.setLane 0 aLaneBody) ready = true ∧ candidate ready 0 = none
        ∧ requestSettles (.setLane 0 { aLaneBody with enabled := 0 }) ready = true)
      ∧ (let s := onPort (.refresh .command) (withCue { aCue with state := .armed, due := some 5020 } ready)
        requestSettles (.setLane 0 aLaneBody) s = true ∧ ((ran (.setLane 0 aLaneBody) s).lane 0).state = .staging) := by
  decide +kernel

/-- READ_BACK executing, with nothing read. -/
def reading : State := executing (.readBack [0] 0 4 []) ready

/-- A REPLY frame stored for seq 1 and code 2. -/
def storedReply : StoredReply := { seq := 1, code := 2, frame := { frameType := 0x11, seq := 1, body := [2, 0] } }

/-- A busy link: a frame in transmission, and four entries in each list. -/
def busyLink : State :=
  { reading with
    link := { reading.link with
      tx := some ⟨{ frameType := 0x13, seq := 0, body := [] }, 0⟩,
      inbox := List.replicate 4 { seq := 3, body := [1] }, replies := [storedReply],
      prompt := List.replicate 4 { frameType := 0x11, seq := 8, body := [1, 0x1E] } } }

theorem witness_RequestArrivalIsSorted :
    let room := { busyLink with link := { busyLink.link with prompt := [] } }
    let again := { busyLink with link := { busyLink.link with prompt := [storedReply.frame] } }
    (busyLink.inReset = false ∧ busyLink.executing.isSome = true ∧ busyLink.link.line = .on)
      ∧ ({ busyLink with link := { busyLink.link with line := .arming } } : State).link.line = .arming
      ∧ inProgress (setFramer (txBegin busyLink) .hunt) 9 = true
      ∧ inProgress (setFramer (txBegin busyLink) .hunt) 1 = false
      ∧ (storedFor busyLink 1 2 = some storedReply ∧ 4 ≤ (setFramer (txBegin busyLink) .hunt).link.prompt.length
        ∧ storedReply.frame ∈ (setFramer (txBegin again) .hunt).link.prompt
        ∧ storedReply.frame ∉ (setFramer (txBegin room) .hunt).link.prompt
        ∧ (setFramer (txBegin room) .hunt).link.prompt.length < 4)
      ∧ (storedFor busyLink 1 1 = none ∧ 4 ≤ (setFramer (txBegin busyLink) .hunt).link.inbox.length)
      ∧ (storedFor reading 1 1 = none ∧ (setFramer (txBegin reading) .hunt).link.inbox.length < 4
        ∧ inProgress (setFramer (txBegin reading) .hunt) 1 = false) := by decide +kernel

/-- The same with a free interpreter: a stored reply that is sent again, the seq of an executed reply that waits, and
behind one a request that is admitted and one that finds the inbox full. -/
theorem witness_RequestArrivalIsSorted_free :
    let base := fun s : State => setFramer (txBegin s) .hunt
    let waiting := fullInbox (some reply20) [.executed reply21]
    let four := [request22, request23, request24, { seq := 19, body := [0x02] }]
    (∀ q ∈ [[], [request22], four], (waiting q).inReset = false ∧ (waiting q).executing = none
        ∧ (waiting q).link.line = .on ∧ QueuedReply.executed reply21 ∈ (base (waiting q)).link.replyQueue)
      ∧ (inProgress (base (waiting [])) 21 = true ∧ inProgress (base (waiting four)) 20 = false
        ∧ inProgress (base (waiting four)) 25 = false)
      ∧ ((base (waiting four)).link.replies
          = [] ++ { seq := 20, code := 0x21, frame := reply20 } :: [{ seq := 21, code := 0x40, frame := reply21 }]
        ∧ reply20 ∉ (base (waiting four)).link.prompt ∧ (base (waiting four)).link.prompt.length < 4)
      ∧ ((∀ e ∈ (base (waiting four)).link.replies, e.seq ≠ 25) ∧ 4 ≤ (base (waiting four)).link.inbox.length
        ∧ (base (waiting [request22])).link.inbox.length < 4)
      ∧ (let s := fullInbox none [] []
        s.inReset = false ∧ s.executing = none ∧ s.link.line = .on ∧ inProgress (base s) 20 = false
          ∧ (base s).link.replyQueue = [] ∧ (base s).link.prompt.length < 4) := by decide +kernel
theorem witness_SyncIsAnswered :
    ready.inReset = false ∧ ready.link.line = .on ∧ State.reset.link.line = .arming ∧ State.reset.inReset = false
      ∧ ready.executing = none ∧ reading.link.line = .on ∧ reading.executing.isSome = true ∧ ready.link.inbox = []
      ∧ ({ ready with link := { ready.link with pendingSync := some 4 } } : State).link.pendingSync = some 4
      ∧ ready.link.pendingSync = none := by decide +kernel
theorem witness_FramesDiscarded :
    ready.inReset = false ∧ (0 : BitVec 16) ≠ crc16 [0x01, 0, 1, 0, 1] ∧ (3 : Byte) ≠ 0x01 ∧ (3 : Byte) ≠ 0x02
      ∧ 2000 ≤ elapsedSince ready 7000 ∧ elapsedSince ready 7001 < 2000 ∧ ready.link.gapTimer = none
      ∧ State.reset.link.line = .arming ∧ State.reset.inReset = false ∧ ready.link.line = .on := by decide +kernel
theorem witness_TransmitterOrder :
    (ready.inReset = false ∧ ready.raised = [] ∧ ready.link.tx = none ∧ ready.link.prompt = [] ∧ ready.link.replyQueue = []
        ∧ ready.notices.held = [])
      ∧ (State.reset.inReset = false ∧ State.reset.raised = [] ∧ State.reset.link.tx = none
        ∧ (State.reset.notices.held.map Notice.send) = [.due])
      ∧ (busyLink.inReset = false ∧ busyLink.raised = [] ∧ busyLink.link.tx.isSome = true ∧ busyLink.link.prompt.length = 4)
      ∧ ((txBegin State.reset).link.tx.map (fun t => t.frame.frameType)) = some 0x12 := by decide +kernel

/-- Requests wait and the interpreter is free: it takes nothing behind an executed reply, and the head as that reply
begins transmission, or at the end of any other event; and a request alone is attended to. -/
theorem witness_TransmitterOrder_takes :
    let s := fullInbox none [.executed reply20] [request21, request22]
    let one := fullInbox none [.executed reply20] [request22]
    let v := fullInbox (some reply20) [] []
    (s.inReset = false ∧ s.raised = [] ∧ s.link.tx = none ∧ s.link.prompt = [] ∧ s.executing = none
        ∧ s.link.replyQueue = .executed reply20 :: [] ∧ s.link.inbox = request21 :: [request22])
      ∧ (one.link.inbox = request22 :: [] ∧ request22.body = encodeBody (.cueInfo 5) ∧ request22.body.length ≤ 1040
        ∧ attends v request22.seq (Req.cueInfo 5).code = true
        ∧ (one.link.tx, one.link.replyQueue) = (none, [.executed reply20]))
      ∧ ((heard (fullInbox (some reply20) [] [request21])).link.replyQueue = []
        ∧ (heard (fullInbox (some reply20) [] [request21])).link.tx.isSome = true)
      ∧ (replyWaits (heard (fullInbox (some reply20) [.executed reply21] [request22])) = true
        ∧ replyWaits (heard (fullInbox none [] [request22])) = false)
      ∧ (takesNothing ready = true ∧ takesNothing busyLink = true ∧ ready.link.pendingSync = none) := by decide +kernel

/-- The 0 of the start bit, the bits of 0xC5 from the least significant one, and the 1 of the stop bit, with which every
frame begins, at the first clock of each bit. -/
theorem witness_TransmitterOrder_txd (f : Frame) :
    (frameBytes f)[0]? = some 0xC5
      ∧ ∀ r : Config.LineRate, ∀ i ∈ [0, 1, 8, 9],
          (i * 100000000 + r.bitsPerSecond - 1) / r.bitsPerSecond * r.bitsPerSecond / 100000000 = i
            ∧ i / 10 = 0 := by
  refine ⟨rfl, fun r => ?_⟩
  cases r <;> decide +kernel
theorem witness_ResendTimer :
    let s := fun t0 : Nat =>
      { ready with
        time := { ready.time with elapsed := 200000 },
        notices := { held := [{ number := 1, body := .slewDone, send := .sent, again := false, lastSent := some t0 }],
                     next := 2 } }
    (s 100000).inReset = false ∧ 100000 ≤ elapsedSince (s 100000) 100000 ∧ elapsedSince (s 100001) 100001 < 100000
      ∧ (State.reset.notices.held.map Notice.send) = [.due] ∧ ready.notices.held = [] := by decide +kernel
theorem witness_NoticesJoinAndGo :
    let n : NoticeBody → Notice := fun b => { number := 1, body := b, send := .due, again := false, lastSent := none }
    (∃ x ∈ [n .overflow], x.body = .overflow) ∧ (∀ x ∈ List.replicate 31 (n .slewDone), x.body ≠ .overflow)
      ∧ 31 ≤ (List.replicate 31 (n .slewDone)).length ∧ (List.replicate 30 (n .slewDone)).length < 31 := by
  decide +kernel
theorem witness_ByteMovesTheFramer :
    let on := fun f : Framer => { ready with link := { ready.link with line := .on, framer := f } }
    ready.inReset = false ∧ State.reset.inReset = false ∧ State.reset.link.line = .arming ∧ (on .hunt).inReset = false
      ∧ (on .hunt).link.line = .on
      ∧ (on (.body 1 0 1 [])).link.framer = .body 1 0 1 [] := by decide +kernel
theorem witness_FramesAndNames :
    let s := { ready with link := { ready.link with line := .on } }
    s.inReset = false ∧ s.raised = [] ∧ s.link.line = .on ∧ s.link.framer = .hunt ∧ s.link.gapTimer = none
      ∧ txBegin s = s ∧ takesNothing s = true
      ∧ (let w := fullInbox (some reply20) [.executed reply21] [request22]
        w.link.framer = .hunt ∧ txBegin w = w ∧ takesNothing w = false ∧ replyWaits w = true) := by
  refine ⟨rfl, rfl, rfl, rfl, rfl, rfl, rfl, by decide +kernel⟩
theorem witness_TickCounts :
    let at_ := fun d : Nat => { ready with time := { ready.time with device := d } }
    let ended := { at_ Config.maxTime with time := { (at_ Config.maxTime).time with atEnd := true } }
    eventGoesOn tickTime ready = true ∧ ready.time.atEnd = false ∧ ready.time.slew = none
      ∧ eventGoesOn tickTime (at_ (Config.maxTime - 1)) = true ∧ eventGoesOn tickTime ended = true
      ∧ ended.time.atEnd = true ∧ eventGoesOn reachEnd (at_ Config.maxTime) = true
      ∧ (at_ Config.maxTime).time.atEnd = false ∧ ready.time.device ≠ Config.maxTime
      ∧ (∀ l, startDue ready l = none) ∧ ready.cues = [] := by decide +kernel
theorem witness_SlewAdjusts :
    let s := fun (k : Int) (d : Nat) =>
      { ready with
        time := { ready.time with device := d, slew := some { remaining := k, spacing := 100, next := 9001 } } }
    let s1 := s 1 5000
    s1.inReset = false ∧ 9001 = (s1.time.elapsed + 1) % Config.elapsedModulus ∧ s1.time.atEnd = false
      ∧ eventGoesOn tickTime s1 = true ∧ eventGoesOn tickTime (s (-2) 5000) = true
      ∧ eventGoesOn tickTime (s 1 (Config.maxTime - 3)) = true ∧ Config.maxTime - 3 + 2 < Config.maxTime
      ∧ eventGoesOn tickTime (s 1 (Config.maxTime - 2)) = true ∧ Config.maxTime ≤ Config.maxTime - 2 + 2
      ∧ eventGoesOn tickTime (s 2 (Config.maxTime - 1)) = true ∧ Config.maxTime - 1 < Config.maxTime
      ∧ (9002 : Nat) ≠ (s1.time.elapsed + 1) % Config.elapsedModulus := by decide +kernel

/-- Cue 5 in a state with a due. -/
def cueDue (st : CueState) (due : Nat) (late : LatePolicy) : Cue :=
  { aCue with state := st, due := some due, late := late }

/-- Cue 5 beside a lane 0 that is busy with nothing of its own. -/
def beside (c : Cue) : State := (withCue c ready).setLane 0 (lane .emitting)

theorem witness_DuesAndTolerances :
    (5000 ≤ ready.time.device ∧ (ready.lane 0).state = .stopped
        ∧ eventGoesOn (meetDue 5) (withCue (cueDue .armed 5000 .sendLate) ready) = true)
      ∧ (((beside aCue).lane 0).state ≠ .stopped ∧ (4989 : Nat) + 10 < ready.time.device
        ∧ eventGoesOn (meetDue 5) (beside (cueDue .armed 4989 .skip)) = true)
      ∧ (ready.time.device ≤ 4990 + 10 ∧ eventGoesOn (meetDue 5) (beside (cueDue .armed 4990 .skip)) = true)
      ∧ eventGoesOn (meetDue 5) (staged .staging [1] 5000) = true
      ∧ (ready.time.device < 5001 ∧ (withCue aCue ready).cue? 5 = some aCue ∧ ready.cue? 5 = none)
      ∧ eventGoesOn (fun a => expireCue a 5) (beside (cueDue .pending 4989 .skip)) = true
      ∧ eventGoesOn (fun a => expireCue a 5)
          (let s := staged .primed [1] 4989
           s.setCue 5 (cueDue .staged 4989 .skip)) = true
      ∧ sortedKeys forwardStep.cues = true := by decide +kernel

/-- Cue 6 staged on lane 0, due at `due`, beside cue 5, which is ARMED and due. -/
def dueBeside (due : Nat) : State :=
  let s := (staged .primed [1] 6000).freePort
  { s with
    cues := [(5, cueDue .armed 5000 .sendLate), (6, cueDue .staged due .sendLate)],
    lanes := s.lanes.set 0 { s.lane 0 with held := some { held 40 with cue := 6 } } }

/-- The lane of the cue in the same event: an IDLE one picks it, a busy one and one whose staged cue has reached its due
stay, one whose staged cue's due lies ahead gives it back and picks again; and a lane that a tolerance expiry unstages,
with nothing outstanding, is IDLE at once. -/
theorem witness_DuesAndTolerances_lane :
    let due := cueDue .armed 5000 .sendLate
    let given := fun s : State => (flushes (unstage (s.setCue 6 (cueDue .armed 6000 .sendLate)) 0))
    (eventLeads (meetDue 5) picks ((withCue due ready).setLane 0 (lane .idle)) = true
        ∧ ledTo (meetDue 5) picks ((withCue due ready).setLane 0 (lane .idle)) = (.staging, some 5))
      ∧ eventLeads (meetDue 5) id (beside due) = true
      ∧ (eventLeads (meetDue 5) id (dueBeside 5000) = true ∧ ledTo (meetDue 5) id (dueBeside 5000) = (.primed, some 6))
      ∧ (eventLeads (meetDue 5) given (dueBeside 6000) = true
        ∧ ledTo (meetDue 5) given (dueBeside 6000) = (.staging, some 5))
      ∧ (let s := (staged .primed [1] 4989).freePort.setCue 5 (cueDue .staged 4989 .skip)
        eventLeads (fun a => expireCue a 5) flushes s = true ∧ ledTo (fun a => expireCue a 5) flushes s = (.idle, none))
      ∧ eventLeads (meetDue 5) picks ((staged .staging [1] 5000).freePort) = true := by decide +kernel
theorem witness_OccurrencesEnd :
    (cueDue .armed 5000 .skip).due = some 5000 ∧ (1 : Nat) ≠ 0 ∧ aCue.used + 1 = aCue.repeatCount
      ∧ (¬(({ aCue with repeatCount := 2 } : Cue).repeatCount ≠ 0 ∧ aCue.used + 1 = 2))
      ∧ ready.time.device < 4991 + 10 ∧ 4991 + 10 ≤ Config.maxTime
      ∧ Config.maxTime < Config.maxTime - 9 + 10
      ∧ ({ aCue with started := some ⟨4990, 0⟩, cut := .stop } : Cue).started = some ⟨4990, 0⟩
      ∧ ({ aCue with start := .trigger 0 .rising 2 } : Cue).start = .trigger 0 .rising 2 := by decide +kernel

/-- Cue 5 with a repeat count of 3 and two occurrences every 10 ticks behind device time, one of them skipped with it,
and the requests that count its end. -/
theorem witness_OccurrencesEnd_grouped :
    let c := { cueDue .pending 4979 .skip with repeatCount := 4, period := 10, started := some ⟨4980, 1⟩ }
    (c.due = some 4979 ∧ c.start = .time 6000 ∧ c.started = some ⟨4980, 1⟩ ∧ c.cut = .none
        ∧ ¬(c.repeatCount ≠ 0 ∧ c.used + 1 = c.repeatCount))
      ∧ (({ c with used := 1 } : Cue).groupedSkips (4979 + 10) 5000 = 1
        ∧ ({ c with used := 1 } : Cue).stoppedSkips (4979 + 10) 5000 = 2)
      ∧ (executing (.cancel 5 none) ready).executing = some { seq := 9, code := 0x21, wait := .cancel 5 none }
      ∧ (executing (.stopAll 1 0) ready).executing = some { seq := 9, code := 0x21, wait := .stopAll 1 0 }
      ∧ ready.executing = none := by decide +kernel
theorem witness_GroupedSkipping : 0 < ({ aCue with period := 10 } : Cue).period := by decide +kernel

/-- Cue 5 ARMED at the edge of the lead window of an IDLE lane. -/
def atWindow : State := (withCue (cueDue .armed 5500 .sendLate) ready).setLane 0 (lane .idle)

/-- Cue 6 STAGED, due later than cue 5, which is ARMED. -/
def displaced : State :=
  let s := staged .primed [1] 6000
  { s with
    cues := [(5, cueDue .armed 5400 .sendLate), (6, cueDue .staged 6000 .sendLate)],
    lanes := s.lanes.set 0 { s.lane 0 with held := some { held 40 with cue := 6 } } }

theorem witness_LeadWindowEntered :
    let given := fun s : State => unstage ((txBegin s).setCue 6 (cueDue .armed 6000 .sendLate)) 0
    (atWindow.cue? 5 = some (cueDue .armed 5500 .sendLate) ∧ 5500 ≤ atWindow.time.device + 500
        ∧ (atWindow.lane 0).state = .idle ∧ (candidate (txBegin atWindow) 0).map Prod.fst = some 5
        ∧ atWindow.payload? 20 = some sealed20 ∧ atWindow.inReset = false
        ∧ goesOn (txBegin atWindow) (picks (txBegin atWindow)) = true)
      ∧ ((displaced.lane 0).state = .primed ∧ (displaced.lane 0).held = some { held 40 with cue := 6 }
        ∧ displaced.time.device < 6000 ∧ (5400 : Nat) < 6000 ∧ 5400 ≤ displaced.time.device + 500
        ∧ displaced.inReset = false ∧ flushOver (given displaced) 0 = false)
      ∧ (let s := displaced.freePort
        s.inReset = false ∧ flushOver (given s) 0 = true)
      ∧ (let s := (displaced.setCue 6 (cueDue .staged 5400 .sendLate)).freePort
        s.inReset = false ∧ s.cues.all (fun e => decide (e.2.state ≠ .armed ∨ 5400 ≤ e.2.due.getD 0)) = true)
      ∧ (let s := cutInColumn.freePort.setCue 6 (cueDue .armed 5500 .sendLate)
        (s.lane 0).state = .flushing ∧ s.inReset = false)
      ∧ (let s := (emitting [1] 1 4).setCue 6 (cueDue .armed 5500 .sendLate)
        (s.lane 0).state = .emitting ∧ s.inReset = false)
      ∧ atWindow.time.device + 500 < 5501 ∧ ready.cue? 5 = none
      ∧ (sortedKeys atWindow.cues = true ∧ pendingQueue atWindow 0 = []
        ∧ (dueList atWindow).map Prod.fst = [] ++ 5 :: [] ∧ (ready.lane 0).state ≠ .idle
        ∧ (pendingQueue (withCue (cueDue .pending 5000 .skip) ready) 0).map Prod.fst = 5 :: []) := by decide +kernel

/-- A restage: an evaluation at which cue 5 has entered PENDING, or has come within the window with an earlier due,
displaces cue 6; with an equal due, and once the due of cue 6 has been reached, it stays; and what follows an event. -/
theorem witness_LeadWindowEntered_restage :
    let before := fun s : State => s.setCue 5 aCue
    let pending := displaced.setCue 5 (cueDue .pending 4000 .sendLate)
    let equal := displaced.setCue 6 (cueDue .staged 5400 .sendLate)
    let reached := pending.setCue 6 (cueDue .staged 5000 .sendLate)
    (∀ s ∈ [pending, displaced, equal, reached],
        evaluates (before s) s 0 = true ∧ (s.lane 0).held = some { held 40 with cue := 6 }
          ∧ (s.lane 0).state = .primed)
      ∧ (((restage (before pending) pending 0).cue? 6).map Cue.state = some .armed
        ∧ ((restage (before displaced) displaced 0).cue? 6).map Cue.state = some .armed)
      ∧ (restage (before equal) equal 0 = equal ∧ restage (before reached) reached 0 = reached)
      ∧ (evaluates displaced displaced 0 = false ∧ restage displaced displaced 0 = displaced)
      ∧ (goesOn ready ready = true ∧ settled ready ready = true)
      ∧ laneLeads displaced.freePort displaced.freePort (settleLane displaced.freePort displaced.freePort 0) 0 = true
      ∧ (let s := ready.setPayload 20 { sealed20 with state := .doomed, refs := 0 }
        sortedKeys s.store.directory = true ∧ s.freeDoomed.store.directory = []
          ∧ s.freeDoomed.store.pool = [1, 2, 3, 0]) := by decide +kernel
theorem witness_TriggerLineSampled :
    let s := { ready with
      triggers := { ready.triggers with
        lines := ready.triggers.lines.set 3 { TriggerLine.reset with mode := .rising, level := some false } } }
    (ready.triggers.lines.get 3).level ≠ some false ∧ eventGoesOn (fun a => sampleLine a 3 true) ready = true
      ∧ ((s.triggers.lines.get 3).level = some (!true) ∧ (s.triggers.lines.get 3).mode.records .rising = true
        ∧ eventGoesOn (fun a => sampleLine a 3 true) s = true)
      ∧ (EdgeMode.rising.records .falling = false
        ∧ eventGoesOn (fun a => sampleLine a 3 false)
            (s.setLine 3 { TriggerLine.reset with mode := .rising, level := some true }) = true)
      ∧ ({ aCue with start := .trigger 3 .either 2 } : Cue).start = .trigger 3 .either 2 := by decide +kernel

/-- Lane 0 with its whole range of two bytes buffered and its due reached. -/
def startable : State :=
  (withCue (cueDue .staged 5000 .sendLate) ready).setLane 0
    { lane .primed with held := some (held 2), buffer := [1, 2], fetchPos := 2, fetched := 2 }

theorem witness_ReleaseStarts :
    ((startable.lane 0).held = some (held 2) ∧ startable.cue? 5 = some (cueDue .staged 5000 .sendLate)
        ∧ 5000 ≤ startable.time.device ∧ min (startable.lane 0).config.startThreshold 2 ≤ [1, 2].length
        ∧ (startable.lane 0).hold = false ∧ (startable.lane 0).emitted = 0
        ∧ eventGoesOn (fun a => tryStart a 0) startable = true)
      ∧ (let s := startable.setLane 0 { startable.lane 0 with held := some (held 1), buffer := [1] }
        (s.lane 0).held = some (held 1) ∧ (held 1).count = 1
          ∧ min (s.lane 0).config.startThreshold 1 ≤ (s.lane 0).buffer.length
          ∧ eventGoesOn (fun a => tryStart a 0) s = true)
      ∧ ((ready.lane 0).state ≠ .staging ∧ (ready.lane 0).state ≠ .primed)
      ∧ ((staged .staging [1] 5000).lane 0).buffer.length < min 32 40
      ∧ (staged .staging [1] 5001).time.device < 5001 := by decide +kernel
theorem witness_ByteSlotComes :
    ((ready.lane 0).state ≠ .emitting ∧ ((emitting [1] 1 4).lane 0).state = .emitting)
      ∧ eventGoesOn (fun a => takeSlot a 0) ((emitting [1] 1 4).setLane 0
          { (emitting [1] 1 4).lane 0 with hold := true }) = true
      ∧ eventGoesOn (fun a => takeSlot a 0) (emitting [] 1 4) = true
      ∧ (1 + 1 < (held 4).count ∧ eventGoesOn (fun a => takeSlot a 0) (emitting [1, 2] 1 4) = true)
      ∧ (3 + 1 = (held 4).count ∧ eventGoesOn (fun a => takeSlot a 0) (emitting [1] 3 4) = true) := by decide +kernel

/-- Cue 6, which waits for lane 0 in its pending queue. -/
def withNext (s : State) : State := s.setCue 6 (cueDue .pending 4000 .sendLate)

/-- Lane 0 comes to rest and picks cue 6 in the same event: after an END byte, after a cut with nothing outstanding,
and at the end of a flush. -/
theorem witness_LanePicksNext :
    let one := (startable.setLane 0 { startable.lane 0 with held := some (held 1), buffer := [1] })
    let busy := (emitting [1] 3 4).freePort
    let hold := fun s : State => s.setLane 0 { s.lane 0 with hold := true, holdTimer := some 7999, slotWaiting := true }
    let empty := (emitting [] 1 4).freePort
    (eventLeads (fun a => tryStart a 0) picks (withNext one) = true
        ∧ ledTo (fun a => tryStart a 0) picks (withNext one) = (.staging, some 6))
      ∧ (eventLeads (fun a => takeSlot a 0) picks (withNext busy) = true
        ∧ ledTo (fun a => takeSlot a 0) picks (withNext busy) = (.staging, some 6))
      ∧ (eventLeads (fun a => holdOff a 0) picks (withNext (hold busy)) = true
        ∧ ledTo (fun a => holdOff a 0) picks (withNext (hold busy)) = (.staging, some 6))
      ∧ (eventLeads (fun a => takeSlot a 0) flushes (withNext empty) = true
        ∧ ledTo (fun a => takeSlot a 0) flushes (withNext empty) = (.staging, some 6)
        ∧ ledTo (fun a => takeSlot a 0) flushes empty = (.idle, none))
      ∧ (eventLeads (fun a => holdOff a 0) flushes (hold empty) = true
        ∧ eventLeads (fun a => cutLane a 0 .hold) flushes (withNext (hold empty)) = true
        ∧ ledTo (fun a => cutLane a 0 .hold) flushes (hold empty) = (.idle, none))
      ∧ (eventLeads (fun a => endFlush a 0) picks (withNext cutInColumn.freePort) = true
        ∧ ledTo (fun a => endFlush a 0) picks (withNext cutInColumn.freePort) = (.staging, some 6)) := by
  decide +kernel
theorem witness_CutAndUnstage :
    ((emitting [1] 1 4).lane 0).state = .emitting ∧ (ready.lane 0).state ≠ .emitting
      ∧ ((staged .staging [1] 5000).lane 0).state = .staging ∧ (ready.lane 0).state ≠ .staging
      ∧ (ready.lane 0).state ≠ .primed
      ∧ ((writing (.row .activate)).mc.port = some (.transaction (transaction .fill (.row .activate) 4))
        ∧ (transaction .fill (.row .activate) 4).requester = .fill
        ∧ (writing .column).mc.port = some (.transaction (transaction .fill .column 4))
        ∧ outstanding (writing .column) .fill = true ∧ ready.mc.port = none) := by decide +kernel

/-- The emitting lane 0 held since `t0`. -/
def heldSince (t0 : Nat) : State :=
  (emitting [1, 2] 1 4).setLane 0
    { (emitting [1, 2] 1 4).lane 0 with hold := true, holdTimer := some t0, slotWaiting := true }

theorem witness_HoldLevels :
    (((emitting [1] 1 4).lane 0).hold = false ∧ eventGoesOn (fun a => holdOn a 0) (emitting [1] 1 4) = true)
      ∧ (((heldSince 8000).lane 0).hold = true ∧ goesOn (txBegin (heldSince 8000)) (txBegin (heldSince 8000)) = true)
      ∧ ((ready.lane 0).state ≠ .emitting ∧ eventGoesOn (fun a => holdOff a 0) ready = true)
      ∧ (((heldSince 8000).lane 0).slotWaiting = true ∧ eventGoesOn (fun a => holdOff a 0) (heldSince 8000) = true)
      ∧ (let s := (heldSince 8000).setLane 0 { (heldSince 8000).lane 0 with buffer := [1], emitted := 3 }
        (s.lane 0).emitted + 1 = (held 4).count ∧ eventGoesOn (fun a => holdOff a 0) s = true)
      ∧ (let s := (heldSince 8000).setLane 0 { (heldSince 8000).lane 0 with buffer := [] }
        (s.lane 0).slotWaiting = true ∧ eventGoesOn (fun a => holdOff a 0) s = true)
      ∧ (1000 < elapsedSince (heldSince 7999) 7999
        ∧ eventGoesOn (fun a => cutLane a 0 .hold) (heldSince 7999) = true)
      ∧ elapsedSince (heldSince 8000) 8000 ≤ 1000 := by decide +kernel

/-- A flushing lane 0 with its cut release of one byte. -/
def flushing : State :=
  (emitting [] 1 4).freePort.setLane 0
    { (emitting [] 1 4).lane 0 with state := .flushing, cutCause := some .underrun }

theorem witness_FlushEnds :
    ((flushing.lane 0).state = .flushing ∧ outstanding flushing (.lane 0) = false
        ∧ (flushing.cue? 5).map Cue.state = some .releasing ∧ eventGoesOn (fun a => endFlush a 0) flushing = true)
      ∧ (let s := ready.setLane 0 (lane .flushing)
        outstanding s (.lane 0) = false ∧ (s.lane 0).held = none ∧ eventGoesOn (fun a => endFlush a 0) s = true)
      ∧ outstanding (emitting [] 1 4) (.lane 0) = true := by decide +kernel
theorem witness_WaitsEnd :
    (ready.link.inbox = [] ∧ ready.link.pendingSync = none)
      ∧ eventGoesOn resume (executing (.cancel 5 (some (1, 0))) ready) = true
      ∧ (lanesAtRest ready = true ∧ eventGoesOn resume (executing (.stopAll 1 0) ready) = true)
      ∧ lanesAtRest (emitting [1] 1 4) = false
      ∧ (openFilling.store.chunks.length < 4
        ∧ eventGoesOn resume (executing (.putData 21 0 [1, 2, 3, 4]) openFilling) = true)
      ∧ 4 ≤ fullBuffer.store.chunks.length
      ∧ (holdsChunk openFilling 21 = false ∧ openFilling.payload? 21 = some filling
        ∧ eventGoesOn resume (executing (.seal 21 none) openFilling) = true)
      ∧ (some (1 : BitVec 32) ≠ some filling.running
        ∧ eventGoesOn resume (executing (.seal 21 (some 1)) openFilling) = true)
      ∧ (ready.payload? 20 = some sealed20 ∧ sealed20.state ≠ .filling ∧ holdsChunk ready 20 = false
        ∧ eventGoesOn resume (executing (.seal 20 none) ready) = true)
      ∧ (ready.payload? 22 = none ∧ eventGoesOn resume (executing (.seal 22 none) ready) = true
        ∧ takeChunk ready 22 0 [1] = ready)
      ∧ (let s := executing (.cancel 5 (some (1, 0))) { ready with link := { ready.link with pendingSync := some 4 } }
        s.link.inbox = [] ∧ s.link.pendingSync = some 4 ∧ eventGoesOn resume s = true)
      ∧ holdsChunk (writing .column) 21 = true
      ∧ eventGoesOn resume (executing (.delete 21) openFilling) = true
      ∧ (4 ≤ [1, 2, 3, 4].length ∧ eventGoesOn resume (executing (.readBack [0] 0 4 [1, 2, 3, 4]) ready) = true)
      ∧ ([] : List Byte).length < 4 := by decide +kernel

/-- READY with these requests waiting at a free port, and a refresh debt. -/
def asking (l0 l1 : LaneState) (fill : Option MemRequest) (debt : Nat) : State :=
  let s := (ready.setLane 0 (lane l0)).setLane 1 (lane l1)
  { s with
    mc := { s.mc with laneReq := ⟨some aRead, some aRead, none, none⟩, fillReq := fill, readReq := fill },
    refresh := { s.refresh with debt := debt, request := .waiting } }

theorem witness_ArbiterOrder :
    (∀ st, (asking st st none 1).inReset = false ∧ (asking st st none 1).mc.port = none
        ∧ (asking st st none 1).device = .ready)
      ∧ (asking .idle .idle none 2).refresh.debt = debtLimit (asking .idle .idle none 2)
      ∧ ((asking .emitting .staging none 1).lane 0).state = .emitting
      ∧ ((asking .primed .staging none 1).lane 1).state = .staging
      ∧ ((asking .primed .idle none 1).lane 0).state = .primed
      ∧ ((asking .idle .idle (some aRead) 1).mc.readReq = some aRead)
      ∧ ({ asking .idle .idle (some aRead) 1 with
            mc := { (asking .idle .idle (some aRead) 1).mc with readReq := none } } : State).mc.fillReq = some aRead
      ∧ (0 < 1 ∧ 1 < debtLimit (asking .idle .idle none 1))
      ∧ (onPort (.refresh .command) ready).mc.port ≠ none ∧ State.reset.device ≠ .ready := by
  refine ⟨?_, by decide +kernel⟩
  intro st
  cases st <;> decide +kernel
theorem witness_OperationsBeginAndOpenRows :
    let at_ := fun (r : Option Nat) (op : Option PortOp) =>
      { ready with mc := { ready.mc with banks := ready.mc.banks.set 0 r, port := op } }
    let t := transaction .fill
    (at_ (some 0) none).mc.banks.get (bankOf 0) = some (0 / 4) ∧ (at_ (some 9) none).mc.banks.get 0 = some 9
      ∧ ready.mc.banks.get 0 = none ∧ ready.mc.profile = some profile
      ∧ eventGoesOn rowCommandDone (at_ (some 9) (some (.transaction (t (.row .precharge) 4)))) = true
      ∧ eventGoesOn rowCommandDone (at_ none (some (.transaction (t (.row .activate) 4)))) = true
      ∧ eventGoesOn closingDone (at_ (some 0) (some (.transaction (t .closing 4)))) = true
      ∧ eventGoesOn rowCommandDone
          (at_ none (some (.transaction { t (.row .activate) 4 with withdrawn := true }))) = true := by decide +kernel

/-- Lane 0 STAGING with nothing buffered, its first read of 4 bytes in column phase. -/
def firstRead : State :=
  onPort (.transaction (transaction (.lane 0) .column 4))
    ({ (withCue (cueDue .staged 6000 .sendLate) ready).setLane 0
        { lane .staging with held := some (held 4) } with
      mem := [(0, 1), (1, 2), (2, 3), (3, 4)] })

theorem witness_TransactionsComplete :
    ((firstRead.lane 0).state = .staging ∧ (firstRead.lane 0).held = some (held 4)
        ∧ eventGoesOn transactionDone firstRead = true
        ∧ startDue (transactionDone (txBegin firstRead)) 0 = none)
      ∧ (let s := firstRead.setCue 5 (cueDue .staged 5000 .sendLate)
        eventLeads transactionDone picks s = true ∧ ((transactionDone (txBegin s)).lane 0).state = .emitting)
      ∧ (let s := firstRead.setLane 0 (lane .flushing)
        (s.lane 0).state = .flushing ∧ (s.lane 0).held = none ∧ s.mc.laneReq.get 0 = none
          ∧ eventLeads transactionDone flushes s = true)
      ∧ (let s := { firstRead.setLane 0 (lane .flushing) with
            device := .unconfigured, mc := { firstRead.mc with profile := none } }
        eventLeads transactionDone flushes s = true ∧ (transactionDone (txBegin s)).mc.port = none)
      ∧ (let s := withNext cutInColumn
        (s.lane 0).state = .flushing ∧ (s.lane 0).held = some (held 4) ∧ (s.lane 0).cutCause = some .underrun
          ∧ s.mc.laneReq.get 0 = none ∧ eventLeads transactionDone flushes s = true
          ∧ ledTo transactionDone flushes s = (.staging, some 6))
      ∧ (let s := executing (.readBack [0] 0 8 []) (onPort (.transaction (transaction .readBack .column 4)) ready)
        ([] : List Byte).length + 4 < 8 ∧ calm (txBegin s) (transactionDone (txBegin s)) = true
          ∧ s.inReset = false
          ∧ outstanding (transactionDone (txBegin s)) .readBack = false
          ∧ ([0] : List Nat)[(0 + 0 + 4) / 2048]? = some 0)
      ∧ (let s := executing (.readBack [0] 0 4 []) (onPort (.transaction (transaction .readBack .column 4)) ready)
        4 ≤ ([] : List Byte).length + 4 ∧ s.link.inbox = [] ∧ s.link.pendingSync = none
          ∧ calm (txBegin s) (transactionDone (txBegin s)) = true) := by decide +kernel

/-- The writes of the fill buffer: with nothing waiting, with a PUT_DATA waiting for a slot, with one waiting on as the
head chunk stays, with a SEAL_PAYLOAD waiting for its last chunk, with its payload being deleted, and with its payload
left by a soft reset. -/
theorem witness_TransactionsComplete_writes :
    let c : Chunk := { payload := 21, offset := 0, data := [1, 2, 3, 4], written := 0 }
    (c.written + 4 ≤ c.data.length ∧ (writing .column).store.chunks = c :: [] ∧ (writing .column).store.leaving = []
        ∧ (writing .column).executing = none ∧ eventGoesOn transactionDone (writing .column) = true)
      ∧ (let s := executing (.putData 21 4 [5]) ((writing .column).setChunks [c, c, c, c])
        s.store.chunks = c :: [c, c, c] ∧ c.written + 4 = c.data.length ∧ [c, c, c].length < 4 ∧ s.link.inbox = []
          ∧ s.link.pendingSync = none ∧ calm (txBegin s) (transactionDone (txBegin s)) = true)
      ∧ (let k : Chunk := { c with data := [1, 2, 3, 4, 5] }
        let s := executing (.putData 21 5 [6]) ((writing .column).setChunks [k, c, c, c])
        k.written + 4 < k.data.length ∧ eventGoesOn transactionDone s = true)
      ∧ (let s := fun want => executing (.seal 21 want) (writing .column)
        let calmly := fun t : State => t.link.inbox = [] ∧ calm (txBegin t) (transactionDone (txBegin t)) = true
        let state := fun t : State => ((after .transactionComplete t).payload? 21).map Payload.state
        calmly (s none) ∧ state (s none) = some .sealed ∧ calmly (s (some 1)) ∧ state (s (some 1)) = none
          ∧ some (1 : BitVec 32) ≠ some filling.running
          ∧ ((writing .column).payload? 21).map Payload.state = some .filling)
      ∧ (let s := executing (.delete 21) (writing .column)
        s.link.inbox = [] ∧ calm (txBegin s) (transactionDone (txBegin s)) = true)
      ∧ (let s := (writing .column).setLeaving [21]
        c.payload ∈ s.store.leaving ∧ s.store.leaving.Nodup ∧ sortedKeys s.store.directory = true
          ∧ s.inReset = false) := by decide +kernel

/-- The next requests: of a lane with room for 256 bytes or for all that is left, and of the fill buffer. -/
theorem witness_TransactionsComplete_requests :
    let s := fun (n filled : Nat) =>
      ready.setLane 0 { lane .staging with held := some (held n), buffer := List.replicate filled 0 }
    (∀ st ∈ [s 300 1792, s 40 2008],
        (st.lane 0).state = .staging ∧ outstanding st (.lane 0) = false ∧ 0 < 0 + 40 - (st.lane 0).fetchPos)
      ∧ (256 ≤ 2048 - 1792 ∧ (held 40).count ≤ 2048 - 2008 ∧ (held 300).blocks[0 / 2048]? = some 0)
      ∧ ((s 300 1793).lane 0).buffer.length = 1793 ∧ (2048 - 1793 < 256 ∧ 2048 - 1793 < 300)
      ∧ (firstRead.lane 0).held.isSome = true ∧ outstanding firstRead (.lane 0) = true
      ∧ (let t := (writing .column).freePort
        (t.payload? 21).map Payload.blocks = some [1] ∧ outstanding t .fill = false
          ∧ ([1] : List Nat)[(0 + 0) / 2048]? = some 1)
      ∧ outstanding (writing .column) .fill = true ∧ ready.store.chunks = [] := by decide +kernel
theorem witness_RefreshRuns :
    let s := fun (op : Option PortOp) (debt : Nat) (r : RefreshRequest) =>
      { ready with mc := { ready.mc with port := op }, refresh := { ready.refresh with debt := debt, request := r } }
    (ready.refresh.timer = .running 780 ∧ ready.refresh.debt < profile.debtLimit
        ∧ eventGoesOn intervalExpires ready = true ∧ eventGoesOn intervalExpires (s none 1 .absent) = true)
      ∧ eventGoesOn refreshPrecharged (s (some (.refresh .precharge)) 1 .inFlight) = true
      ∧ eventGoesOn refreshDone (s (some (.refresh .command)) 2 .inFlight) = true
      ∧ eventGoesOn refreshDone (s (some (.refresh .command)) 1 .inFlight) = true
      ∧ eventGoesOn refreshDone (s (some (.refresh .command)) 0 .absent) = true
      ∧ (let t := { s (some (.refresh .precharge)) 0 .absent with device := .initializing }
        t.inReset = false ∧ t.mc.port = some (.refresh .precharge) ∧ (after .refreshPrechargeDone t).mc.banks = Quad.all none
          ∧ (s (some (.refresh .command)) 0 .absent).refresh.request ≠ .inFlight)
      ∧ State.reset.refresh.timer = .stopped
      ∧ (s (some (.refresh .command)) 1 .inFlight).mc.port ≠ some (.refresh .precharge) := by decide +kernel
theorem witness_BringUpRuns :
    let b := fun (st : BringStep) (op : Option PortOp) (n : Nat) =>
      { ready with
        device := .initializing,
        mc := { ready.mc with profile := some { profile with rows := 2 }, port := op,
                              bringUp := some { step := st, waitEnd := 9000, refreshes := n } } }
    let abandoned := fun c : BringCommand =>
      { ready with device := .unconfigured, mc := { ready.mc with port := some (.bringUp c true) } }
    (elapsedReached (b .wait none 0) 9000 = true ∧ elapsedReached (b .wait none 0) 9001 = false
        ∧ eventGoesOn waitEnds (b .wait none 0) = true)
      ∧ eventGoesOn bringUpPrecharged (b .precharge (some (.bringUp .precharge false)) 0) = true
      ∧ eventGoesOn bringUpRefreshed (b .refresh (some (.bringUp .refresh false)) 1) = true
      ∧ eventGoesOn modeSetDone (b .modeSet (some (.bringUp .modeSet false)) 2) = true
      ∧ eventGoesOn bringUpPrecharged (abandoned .precharge) = true
      ∧ eventGoesOn bringUpRefreshed (abandoned .refresh) = true ∧ eventGoesOn modeSetDone (abandoned .modeSet) = true
      ∧ ready.mc.bringUp = none ∧ ready.mc.port = none
      ∧ (∀ st ∈ [BringStep.wait, .precharge, .refresh, .modeSet],
          (b st none 0).mc.port = none ∧ (b st none 0).device = .initializing)
      ∧ (abandoned .refresh).device = .unconfigured
      ∧ (let u := b .refresh (some (.bringUp .refresh false)) 1
        (∀ c, u.mc.port ≠ some (.bringUp .precharge c)) ∧ (∀ c, u.mc.port ≠ some (.bringUp .modeSet c))
          ∧ after .bringupPrechargeDone u = u)
      ∧ (∀ c, (onPort (.refresh .command) ready).mc.port ≠ some (.bringUp .refresh c)) := by decide +kernel

/-- The invariants hold of a part in READY with a cue, and a step goes on from it. -/
theorem witness_KeptInvariants :
    let s := withCue aCue { ready with pending := [.tick] }
    (∃ t, step s = .next t) ∧ Memory.wf s.mem = true ∧ ringInvariant s ∧ timeInvariant s ∧ linkInvariant s
      ∧ noticeInvariant s ∧ cueInvariant s := by
  refine ⟨⟨_, rfl⟩, by decide +kernel, by unfold ringInvariant; decide +kernel,
    ⟨by decide +kernel, by decide +kernel, fun w h => by cases h⟩, by unfold linkInvariant; decide +kernel,
    ⟨by decide +kernel, by decide +kernel, trivial⟩, by decide +kernel, fun e he => ?_⟩
  obtain rfl : e = (5, aCue) := by simpa [withCue] using he
  exact ⟨by decide +kernel, by unfold Cue.dueFits; decide +kernel⟩

/-- A part in READY with every block in the pool but the one of payload 20, which cue 5 releases on lane 0; the lane's
last read is in column phase. -/
def inOrder : State :=
  let s := emitting [1] 1 4
  { s with
    pending := [.tick], store := { s.store with pool := List.range' 1 8191 },
    mc := { s.mc with banks := s.mc.banks.set 0 (some 0) } }

/-- The invariants of the memory port, the lanes and the payload store hold of it together, and a step goes on. -/
theorem witness_LanesAndStoreKept :
    (∃ t, step inOrder = .next t) ∧ cueInvariant inOrder ∧ controllerInvariant inOrder ∧ laneInvariant inOrder
      ∧ storeInvariant inOrder := by
  have hport : inOrder.mc.port = some (.transaction (transaction (.lane 0) .column 4)) := rfl
  refine ⟨⟨_, rfl⟩, ⟨by decide +kernel, fun e he => ?_⟩, ⟨⟨by decide +kernel, by decide +kernel, ?_, ?_⟩,
      ⟨by decide +kernel, fun _ => ⟨by decide +kernel, by decide +kernel, by decide +kernel, by decide +kernel, ?_⟩⟩,
      ⟨?_, ?_⟩, by decide +kernel⟩,
    laneInvariant_of_lane0 _ _ rfl rfl (others_at_reset _ _ rfl) (by decide +kernel), by decide +kernel,
    by decide +kernel, by decide +kernel, ?_, by decide +kernel, ?_, by decide +kernel, ?_⟩
  · obtain rfl : e = _ := List.mem_singleton.mp he
    exact ⟨by decide +kernel, by unfold Cue.dueFits; decide +kernel⟩
  · rintro p ⟨⟩
    unfold Profile.legal
    decide +kernel
  · intro c hc
    rw [hport] at hc
    cases hc
  · constructor
    · intro h
      cases h
    · rintro ⟨st, h⟩
      rw [hport] at h
      cases h
  · intro r q h
    match r with
    | .fill => cases h
    | .readBack => cases h
    | .lane 0 => cases h
    | .lane 1 => cases h
    | .lane 2 => cases h
    | .lane 3 => cases h
  · intro t h
    rw [hport] at h
    obtain rfl := PortOp.transaction.inj (Option.some.inj h)
    exact ⟨by unfold spanFits; decide +kernel, fun _ => by decide +kernel⟩
  · rintro p - ⟨⟩
    show (List.range' 1 8191 ++ [0]).Perm (List.range 8192)
    rw [List.range_eq_range', show (8192 : Nat) = 8191 + 1 from rfl, List.range'_succ]
    exact List.perm_append_comm
  · intro e he _
    obtain rfl : e = _ := List.mem_singleton.mp he
    exact ⟨sealed20, by decide +kernel, by decide +kernel⟩
  · rintro e id p ⟨⟩

end Sys2Proof.Tests
end

section
/-!
PROOFS. The requests of the trigger unit (R69, R71): how the two read their operands, what each answers, and from there
what the part does with them (O27). Both stand in the rows from 0x40 on, which the grid of R129 accepts in every device
state, and both answer by a plain reply, so one rule about such requests carries all four cases.
-/

namespace Sys2Proof.Machine

/-! ### Named operands -/

/-- A lane or a trigger line is missing exactly above 3. -/
theorem fourOf_eq_none_iff (b : Byte) : fourOf b = none ↔ 4 ≤ b.toNat := by
  unfold fourOf
  match b.toNat with
  | 0 | 1 | 2 | 3 => simp
  | k + 4 => simp

/-- A lane or a trigger line is read as its own number. -/
theorem fourOf_eq_some {b : Byte} {l : Fin 4} (h : b.toNat = l.val) : fourOf b = some l := by
  unfold fourOf
  rw [h]
  match l with
  | 0 | 1 | 2 | 3 => rfl

/-- An edge mode is missing exactly above 3 (R172). -/
theorem edgeModeOf_eq_none_iff (b : Byte) : edgeModeOf b = none ↔ 4 ≤ b.toNat := by
  unfold edgeModeOf
  match b.toNat with
  | 0 | 1 | 2 | 3 => simp
  | k + 4 => simp

/-- A true or false byte is missing exactly above 1 (R172). -/
theorem flagOf_eq_none_iff (b : Byte) : flagOf b = none ↔ 2 ≤ b.toNat := by
  unfold flagOf
  match b.toNat with
  | 0 | 1 => simp
  | k + 2 => simp

/-- A true or false byte is read as the truth value that it spells. -/
theorem flagOf_eq_some {b : Byte} {n : Bool} (h : b.toNat = n.toNat) : flagOf b = some n := by
  unfold flagOf
  rw [h]
  cases n <;> rfl

/-! ### What the two requests answer -/

/-- SET_TRIGGER refuses a line, a mode or a notify value outside its values (R69). -/
theorem runSetTrigger_refused (s : State) {line mode notify : Byte}
    (h : 4 ≤ line.toNat ∨ 4 ≤ mode.toNat ∨ 2 ≤ notify.toNat) :
    runSetTrigger s line mode notify = refuse s .badValue := by
  rw [← fourOf_eq_none_iff, ← edgeModeOf_eq_none_iff, ← flagOf_eq_none_iff] at h
  unfold runSetTrigger
  split
  next hl hm hn => simp [hl, hm, hn] at h
  next => rfl

/-- SET_TRIGGER replaces the mode and the notify flag of its line (R69). -/
theorem runSetTrigger_ok (s : State) {line mode notify : Byte} {l : Fin 4} {m : EdgeMode} {n : Bool}
    (hl : line.toNat = l.val) (hm : edgeModeOf mode = some m) (hn : notify.toNat = n.toNat) :
    runSetTrigger s line mode notify
      = (s.setLine l { s.triggers.lines.get l with mode := m, notify := n }, .says .ok []) := by
  simp only [runSetTrigger, fourOf_eq_some hl, hm, flagOf_eq_some hn]

/-- READ_STAMPS refuses a line above 3 and a count outside 1 to 8 (R71). -/
theorem runReadStamps_refused (s : State) {line n : Byte} (h : 4 ≤ line.toNat ∨ n.toNat = 0 ∨ 8 < n.toNat) :
    runReadStamps s line n = refuse s .badValue := by
  unfold runReadStamps
  split
  next => rfl
  next l hl =>
    have hline : ¬ 4 ≤ line.toNat := by simp [← fourOf_eq_none_iff, hl]
    exact if_pos (by omega)

/-- READ_STAMPS takes the oldest stamps out of the ring and clears the gap flag; its results carry the stamps and the
flag as it stood (R71). -/
theorem runReadStamps_ok (s : State) {line n : Byte} {l : Fin 4} (hl : line.toNat = l.val) (h1 : 1 ≤ n.toNat)
    (h8 : n.toNat ≤ 8) :
    let x := s.triggers.lines.get l
    runReadStamps s line n
      = (s.setLine l { x with ring := x.ring.drop n.toNat, gap := false },
          .says .ok (stampBytes (x.ring.take n.toNat) x.gap)) := by
  simp only [runReadStamps, fourOf_eq_some hl]
  exact if_neg (by omega)

/-! ### Requests accepted in every device state -/

/-- The grid of R129 accepts the requests from 0x40 on in every device state. -/
theorem accepted_of_ge_0x40 {code : Byte} (h : 0x40 ≤ code.toNat) (d : DeviceState) : accepted code d = true := by
  cases d with
  | ready => rfl
  | unconfigured => simp [accepted, h]
  | initializing =>
    have hcode : code ≠ 0x10 := by rintro rfl; exact absurd h (by decide)
    simp only [accepted, h, decide_true, Bool.or_true, Bool.true_and, decide_eq_true hcode]

/-- A request from 0x40 on that is attended to and answers by a plain reply, with the link as it was, is replied to in
the event in which it arrives. -/
theorem exec_command_says {s t : State} {seq : Byte} {r : Req} {st : Status} {res : List Byte}
    (h : attends s seq r.code = true) (hcode : 0x40 ≤ r.code.toNat) (hl : (encodeBody r).length ≤ Config.maxBody)
    (hd : decodeBody (encodeBody r) = .ok r) (hrun : runRequest (txBegin s) seq r = (t, .says st res))
    (hlink : t.link = (txBegin s).link) :
    exec (r.command seq) s = .next (replied t seq r.code st res) := by
  obtain ⟨-, -, hinbox, -, -, hsync, -, -⟩ := (attends_iff s seq r.code).mp h
  rw [exec_command, hostRequest_says s t seq r st res h hl hd (accepted_of_ge_0x40 hcode _) hrun
    (by simp [hlink, hinbox]) (by simp [hlink, hsync])]

/-- SET_TRIGGER that is attended to is replied to with what its block answers. -/
theorem exec_setTrigger_says {s t : State} {seq line mode notify : Byte} {st : Status} {res : List Byte}
    (h : attends s seq 0x44 = true) (hrun : runSetTrigger (txBegin s) line mode notify = (t, .says st res))
    (hlink : t.link = (txBegin s).link) :
    exec (.setTrigger seq line mode notify) s = .next (replied t seq 0x44 st res) :=
  exec_command_says (r := .setTrigger line mode notify) h (by simp [Req.code]) (by simp [encodeBody, Config.maxBody])
    rfl hrun hlink

/-- READ_STAMPS that is attended to is replied to with what its block answers. -/
theorem exec_readStamps_says {s t : State} {seq line n : Byte} {st : Status} {res : List Byte}
    (h : attends s seq 0x45 = true) (hrun : runReadStamps (txBegin s) line n = (t, .says st res))
    (hlink : t.link = (txBegin s).link) :
    exec (.readStamps seq line n) s = .next (replied t seq 0x45 st res) :=
  exec_command_says (r := .readStamps line n) h (by simp [Req.code]) (by simp [encodeBody, Config.maxBody])
    rfl hrun hlink

/-! ### The obligation -/

/-- Settles O27: for each of the two requests, the refusal and the acceptance by the block, carried to the part. -/
theorem triggerRequests : Obligations.TriggerRequests := by
  unfold Obligations.TriggerRequests
  refine ⟨fun seq line mode notify s h => ⟨fun hbad => ?_, fun l m n hl hm hn => ?_⟩,
    fun seq line n s h => ⟨fun hbad => ?_, fun l hl h1 h8 => ?_⟩⟩
  · exact exec_setTrigger_says h (runSetTrigger_refused _ hbad) rfl
  · have hrun := runSetTrigger_ok (txBegin s) hl hm hn
    rw [txBegin_triggers] at hrun
    exact exec_setTrigger_says h hrun rfl
  · exact exec_readStamps_says h (runReadStamps_refused _ hbad) rfl
  · have hrun := runReadStamps_ok (txBegin s) hl h1 h8
    simp only [txBegin_triggers, stampBytes, List.length_take] at hrun
    exact exec_readStamps_says h hrun rfl

end Sys2Proof.Machine
end

section
/-!
PROOFS. OPEN_PAYLOAD (R78): its body spells its operands, the four outcomes of its block in the order of its tests, the
refusal by the grid of R129 outside READY, and from there what the part does with the request (O14).
-/

namespace Sys2Proof.Machine

/-! ### Fields of a body -/

@[simp] theorem toLE_length (n v : Nat) : (toLE n v).length = n := by
  induction n generalizing v with
  | zero => rfl
  | succ n ih => simp [toLE, ih]

/-- The bytes of a number spell it modulo what so many bytes can hold (R172). -/
theorem fromLE_toLE (n v : Nat) : fromLE (toLE n v) = v % 256 ^ n := by
  induction n generalizing v with
  | zero => simp [toLE, fromLE, Nat.mod_one]
  | succ n ih =>
    have hbyte : (BitVec.ofNat 8 v).toNat = v % 256 := BitVec.toNat_ofNat v 8
    rw [toLE, fromLE, ih, hbyte, Nat.pow_succ', Nat.mod_mul]

/-- A field that follows the bytes `pre` and was written with room for all its bits reads as the value written. -/
theorem fieldAt_toLE {w : Nat} (pre : List Byte) (n : Nat) (v : BitVec w) (post : List Byte) (h : 2 ^ w = 256 ^ n) :
    fieldAt (pre ++ (toLE n v.toNat ++ post)) pre.length n w = v := by
  rw [fieldAt, List.drop_left, List.take_left' (toLE_length n _), fromLE_toLE, ← h, Nat.mod_eq_of_lt v.isLt,
    BitVec.ofNat_toNat, BitVec.setWidth_eq]

/-- The body of an OPEN_PAYLOAD is decoded to it (R173, R174). -/
theorem decodeBody_openPayload (id : Byte) (len : BitVec 32) :
    decodeBody (encodeBody (.openPayload id len)) = .ok (.openPayload id len) := by
  have hfield : fieldAt (encodeBody (.openPayload id len)) 2 4 32 = len := by
    simpa [encodeBody, Req.code] using fieldAt_toLE [0x20, id] 4 len [] (by decide)
  have hread : readBody (encodeBody (.openPayload id len))
      = some (.openPayload id (fieldAt (encodeBody (.openPayload id len)) 2 4 32)) := rfl
  have hformat : formatCheck (encodeBody (.openPayload id len)) = none := rfl
  simp only [decodeBody, hread, hformat, hfield]

/-! ### The tests of R78 -/

/-- A payload holds a block of 2,048 bytes for each begun part of its length (R73). -/
theorem blocksFor_eq (length : Nat) : blocksFor length = (length + 2047) / 2048 := by
  simp only [blocksFor, Config.blockBytes]
  omega

/-- A length from 1 to 16,777,216 passes the length test. -/
theorem length_inRange {n : Nat} (h1 : 1 ≤ n) (h2 : n ≤ 16777216) : ¬(n = 0 ∨ Config.maxPayload < n) := by
  simp only [Config.maxPayload]
  omega

section
variable (s : State) {id : Byte} {len : BitVec 32}

/-- The first test: an id that is not FREE is refused, with the state of its entry. -/
theorem runOpenPayload_inUse {p : Payload} (hp : s.payload? id.toNat = some p) :
    runOpenPayload s id len = refuse s .inUse [payloadStateCode (some p.state)] := by
  simp only [runOpenPayload, hp]

/-- The second test: a length of 0 or above 16,777,216 is refused. -/
theorem runOpenPayload_badValue (hp : s.payload? id.toNat = none) (hlen : len.toNat = 0 ∨ 16777216 < len.toNat) :
    runOpenPayload s id len = refuse s .badValue := by
  simp only [runOpenPayload, hp]
  exact if_pos hlen

/-- The third test: a pool with fewer blocks than the length takes is refused, with the blocks that it has. -/
theorem runOpenPayload_noSpace (hp : s.payload? id.toNat = none) (h1 : 1 ≤ len.toNat) (h2 : len.toNat ≤ 16777216)
    (hn : s.store.pool.length < blocksFor len.toNat) :
    runOpenPayload s id len = refuse s .noSpace (u16 s.store.pool.length) := by
  simp only [runOpenPayload, hp]
  rw [if_neg (length_inRange h1 h2), if_pos hn]

/-- A payload that passes the tests is opened in FILLING, with its blocks taken from the head of the pool. -/
theorem runOpenPayload_ok (hp : s.payload? id.toNat = none) (h1 : 1 ≤ len.toNat) (h2 : len.toNat ≤ 16777216)
    (hn : blocksFor len.toNat ≤ s.store.pool.length) :
    let n := blocksFor len.toNat
    runOpenPayload s id len
      = ({ s with
            store :=
              { s.store with
                pool := s.store.pool.drop n,
                directory :=
                  tput s.store.directory id.toNat (newPayload len.toNat (s.store.pool.take n)) } },
          .says .ok (u16 n ++ u16 ((s.store.pool.take n).headD 0) ++ u16 (s.store.pool.length - n))) := by
  simp only [runOpenPayload, hp]
  rw [if_neg (length_inRange h1 h2), if_neg (Nat.not_lt.mpr hn), List.length_drop]
  rfl

end

/-! ### The request in the part -/

/-- A request that the grid does not accept is refused with NOT_READY, the reply carrying the device state (R129). -/
theorem exec_command_notReady {s : State} {seq : Byte} {r : Req} (h : attends s seq r.code = true)
    (hl : (encodeBody r).length ≤ Config.maxBody) (hd : decodeBody (encodeBody r) = .ok r)
    (ha : accepted r.code s.device = false) :
    exec (r.command seq) s = .next (replied (txBegin s) seq r.code .notReady [deviceStateCode s.device]) := by
  obtain ⟨-, -, hinbox, -, -, hsync, -, -⟩ := (attends_iff s seq r.code).mp h
  obtain ⟨hread, -⟩ := decodeBody_ok _ r hd
  have hx : execute (txBegin s) seq (encodeBody r)
      = queueReply (txBegin s) seq r.code .notReady [deviceStateCode s.device] := by
    simp only [execute, hread, byteAt_encodeBody, txBegin_device, ha, Bool.false_eq_true, if_false]
    exact endExecution_eq _ _ _ _ _ (by simpa using hsync)
  rw [exec_command, hostRequest, requestEvent_eq s seq (encodeBody r) (by simpa using h) (encodeBody_ne r) hl
    (by rw [hx]; simpa using hinbox), hx, replied, ended_of_empty _ (by simpa using hinbox)]

/-- A request that the grid accepts and that answers by a plain reply, with the link as it was, is replied to in the
event in which it arrives. -/
theorem exec_command_accepted_says {s t : State} {seq : Byte} {r : Req} {st : Status} {res : List Byte}
    (h : attends s seq r.code = true) (hl : (encodeBody r).length ≤ Config.maxBody)
    (hd : decodeBody (encodeBody r) = .ok r) (ha : accepted r.code s.device = true)
    (hrun : runRequest (txBegin s) seq r = (t, .says st res)) (hlink : t.link = (txBegin s).link) :
    exec (r.command seq) s = .next (replied t seq r.code st res) := by
  obtain ⟨-, -, hinbox, -, -, hsync, -, -⟩ := (attends_iff s seq r.code).mp h
  rw [exec_command, hostRequest_says s t seq r st res h hl hd ha hrun (by simp [hlink, hinbox])
    (by simp [hlink, hsync])]

/-- The body of an OPEN_PAYLOAD fits into a frame (R141). -/
theorem encodeBody_openPayload_length (id : Byte) (len : BitVec 32) :
    (encodeBody (.openPayload id len)).length ≤ Config.maxBody := by
  simp [encodeBody, Config.maxBody]

/-- The grid of R129 accepts OPEN_PAYLOAD in READY alone. -/
theorem accepted_openPayload (d : DeviceState) : accepted 0x20 d = decide (d = .ready) := by
  cases d <;> rfl

/-- OPEN_PAYLOAD in READY is replied to with what its block answers. -/
theorem exec_openPayload_says {s t : State} {seq id : Byte} {len : BitVec 32} {st : Status} {res : List Byte}
    (h : attends s seq 0x20 = true) (hready : s.device = .ready)
    (hrun : runOpenPayload (txBegin s) id len = (t, .says st res)) (hlink : t.link = (txBegin s).link) :
    exec (.openPayload seq id len) s = .next (replied t seq 0x20 st res) :=
  exec_command_accepted_says (r := .openPayload id len) h (encodeBody_openPayload_length id len)
    (decodeBody_openPayload id len) ((accepted_openPayload _).trans (decide_eq_true hready)) hrun hlink

/-! ### The obligation -/

/-- Settles O14: the refusal by the grid, then the tests of R78 in order and the reservation by the block, carried to
the part. -/
theorem openPayloadReserves : Obligations.OpenPayloadReserves := by
  unfold Obligations.OpenPayloadReserves
  intro seq id len s h
  dsimp only
  rw [← blocksFor_eq]
  have hentry : (txBegin s).payload? id.toNat = s.payload? id.toNat := txBegin_payload? s id.toNat
  refine ⟨fun hdev => ?notReady, fun hdev p hp => ?inUse, fun hdev hp hlen => ?badValue,
    fun hdev hp h1 h2 hn => ?noSpace, fun hdev hp h1 h2 hn => ?opened⟩
  case notReady =>
    exact exec_command_notReady (r := .openPayload id len) h (encodeBody_openPayload_length id len)
      (decodeBody_openPayload id len) ((accepted_openPayload _).trans (decide_eq_false hdev))
  case inUse => exact exec_openPayload_says h hdev (runOpenPayload_inUse _ (hentry.trans hp)) rfl
  case badValue => exact exec_openPayload_says h hdev (runOpenPayload_badValue _ (hentry.trans hp) hlen) rfl
  case noSpace =>
    have hrun := runOpenPayload_noSpace (txBegin s) (hentry.trans hp) h1 h2 (by simpa using hn)
    rw [txBegin_store] at hrun
    exact exec_openPayload_says h hdev hrun rfl
  case opened =>
    have hrun := runOpenPayload_ok (txBegin s) (hentry.trans hp) h1 h2 (by simpa using hn)
    simp only [txBegin_store] at hrun ⊢
    exact exec_openPayload_says h hdev hrun rfl

end Sys2Proof.Machine
end

section
/-!
PROOFS. What a step can do, said once. A command, and a period of the clock, is a row of moves: a move is one change of
the link, one event in the lanes, the cues or the memory together with what it ends with there, the execution of one
request, one period of the counters, or a pin reset. Every invariant is then proved of the moves alone, and that no
command stops and none touches the queue of commands follows from them (O3).
-/

namespace Sys2Proof.Machine

/-! ### Effects and moves -/

/-- What an event does in the lanes, the cues, the time base, the trigger unit or the memory, before what it ends
with. -/
inductive Effect : State → State → Prop where
  | rest (s) : Effect s s
  | start (s l) : Effect s (tryStart s l)
  | slot (s l) : Effect s (takeSlot s l)
  | hold (s l) : Effect s (holdOn s l)
  | release (s l) : Effect s (holdOff s l)
  | holdLimit (s l) : Effect s (cutLane s l .hold)
  | flushEnd (s l) : Effect s (endFlush s l)
  | rowCommand (s) : Effect s (rowCommandDone s)
  | transaction (s) : Effect s (transactionDone s)
  | closing (s) : Effect s (closingDone s)
  | resume (s) : Effect s (resume s)
  | interval (s) : Effect s (intervalExpires s)
  | refreshPrecharge (s) : Effect s (refreshPrecharged s)
  | refreshCommand (s) : Effect s (refreshDone s)
  | wait (s) : Effect s (waitEnds s)
  | bringUpPrecharge (s) : Effect s (bringUpPrecharged s)
  | bringUpRefresh (s) : Effect s (bringUpRefreshed s)
  | modeSet (s) : Effect s (modeSetDone s)
  | tick (s) : Effect s (tickTime s)
  | timeEnd (s) (h : atMaximum s = true) : Effect s (reachEnd s)
  | due (s id) : Effect s (meetDue id s)
  | tolerance (s id) : Effect s (expireCue s id)
  | window (s id) : Effect s (enterWindow id s)
  | sample (s i level) : Effect s (sampleLine s i level)

/-- One move of the part. -/
inductive Move : State → State → Prop where
  | begin (s) : Move s (txBegin s)
  | offer (s) : Move s s.offerRaised
  | event {s t} (s0) (h : Effect s t) : Move s (coreTail s0 t)
  | grant (s) : Move s (arbitrate s)
  | take {s : State} {e : InboxEntry} {q : List InboxEntry} (he : s.executing = none) (hq : s.link.inbox = e :: q)
      (hw : replyWaits s = false) : Move s (execute { s with link := { s.link with inbox := q } } e.seq e.body)
  | framer (s f) : Move s (setFramer s f)
  | sort (s seq body) : Move s (sortRequest s seq body)
  | sync (s seq) : Move s (handleSync s seq)
  | deferred (s) : Move s (syncDeferred s)
  | lineOn (s : State) : Move s { s with link := { s.link with line := .on } }
  | sent (s) : Move s (txEnd s)
  | resend (s : State) : Move s s.orderResend
  | period (s) : Move s (countPeriod s)
  | level (s l b) : Move s (keepLevel s l b)
  | resetBegin (s) : Move s (beginReset s)
  | resetEnd (s) : Move s (pinResetState s)

/-- A row of moves. -/
abbrev Moves : State → State → Prop := Relation.ReflTransGen Move

theorem Moves.one {s t : State} (h : Move s t) : Moves s t := .single h

/-! ### The frame of every event -/

theorem takeNext_moves (s : State) : Moves s (takeNext s) := by
  unfold takeNext
  split
  next e q he hq =>
    split
    · exact .refl
    next hw => exact (Moves.one (.take he hq (by simpa using hw))).tail (.offer _)
  · exact .refl

theorem linkTurn_moves (s : State) : Moves s (linkTurn s) := (Moves.one (.begin s)).trans (takeNext_moves _)

theorem linkSettle_moves (s : State) : Moves s (linkSettle s) := (linkTurn_moves s).trans (linkTurn_moves _)

/-- An event is a row of moves where what takes place in it is one. -/
theorem event_moves {f : State → State} (hf : ∀ s, Moves s (f s)) (s : State) : Moves s (event f s) := by
  unfold event
  split
  · exact .refl
  · exact (((Moves.one (.begin s)).trans (hf _)).tail (.offer _)).trans (linkSettle_moves _)

theorem eventIf_moves {holds : State → Bool} {f : State → State} (hf : ∀ s, Moves s (f s)) (s : State) :
    Moves s (eventIf holds f s) := by
  unfold eventIf
  split
  · exact event_moves hf s
  · exact .refl

theorem coreEvent_moves {f : State → State} (hf : ∀ s, Effect s (f s)) (s : State) : Moves s (coreEvent f s) :=
  event_moves (fun a => .one (.event a (hf a))) s

theorem coreEventIf_moves {holds : State → Bool} {f : State → State} (hf : ∀ s, Effect s (f s)) (s : State) :
    Moves s (coreEventIf holds f s) := by
  unfold coreEventIf
  split
  · exact coreEvent_moves hf s
  · exact .refl

/-! ### Frames of the host -/

theorem requestFrame_moves (s : State) (seq : Byte) (body : List Byte) : Moves s (requestFrame s seq body) := by
  unfold requestFrame
  split
  · exact .refl
  · exact .one (.sort s seq body)

theorem arriveFrame_moves (s : State) (r : Received) : Moves s (arriveFrame s r) := by
  unfold arriveFrame
  split
  · exact .one (.sort _ _ _)
  · exact .one (.sync _ _)
  · exact .refl

theorem takeByte_moves (s : State) (b : Byte) : Moves s (takeByte s b) := by
  unfold takeByte
  split
  · exact .refl
  · dsimp only
    split
    · exact (Moves.one (.framer _ _)).trans (arriveFrame_moves _ _)
    · exact .one (.framer _ _)

theorem hostRequest_moves (seq : Byte) (r : Req) (s : State) : Moves s (hostRequest seq r s) :=
  eventIf_moves (fun a => requestFrame_moves a seq (encodeBody r)) s

/-! ### The port and the clock -/

/-- What ends on the port is one of the effects. -/
theorem portStep_effect (s : State) : Effect s (portStep s) := by
  unfold portStep
  split
  · split
    · exact .rowCommand s
    · exact .transaction s
    · exact .closing s
  · exact .refreshPrecharge s
  · exact .refreshCommand s
  · exact .bringUpPrecharge s
  · exact .bringUpRefresh s
  · exact .modeSet s
  · exact .rest s

theorem foldl_moves {α : Type} {f : State → α → State} (hf : ∀ s a, Moves s (f s a)) (l : List α) (s : State) :
    Moves s (l.foldl f s) := by
  induction l generalizing s with
  | nil => exact .refl
  | cons a t ih => exact (hf s a).trans (ih _)

theorem whenFalls_moves {falls : Bool} {f : State → State} (hf : ∀ s, Moves s (f s)) (s : State) :
    Moves s (whenFalls falls f s) := by
  cases falls
  · exact .refl
  · exact hf s

theorem tickChecks_moves (s : State) : Moves s (tickChecks s) :=
  (((foldl_moves (fun a l => coreEventIf_moves (fun b => .holdLimit b l) a) fours s).trans
    (eventIf_moves (fun a => .one (.framer a .hunt)) _)).trans
    (eventIf_moves (fun a => .one (.resend a)) _)).trans
    (coreEventIf_moves .wait _)

theorem tickPeriod_moves (s : State) : Moves s (tickPeriod s) :=
  (coreEvent_moves .tick s).trans (tickChecks_moves _)

theorem clockPeriod_moves (s : State) : Moves s (clockPeriod s) := by
  unfold clockPeriod
  split
  · exact .refl
  · exact ((((((Moves.one (.begin s)).tail (.period _)).trans
      (whenFalls_moves (coreEvent_moves portStep_effect) _)).trans
      (foldl_moves (fun a l => whenFalls_moves (coreEvent_moves (.slot · l)) a) fours _)).trans
      (whenFalls_moves (coreEvent_moves .interval) _)).trans
      (whenFalls_moves tickPeriod_moves _)).trans
      (eventIf_moves (fun a => .one (.sent a)) _)

/-! ### Commands and steps -/

/-- The command TIME_END is an event of the time end, or nothing. -/
theorem timeEnd_moves (s : State) : Moves s (coreEventIf atMaximum reachEnd s) := by
  unfold coreEventIf
  split
  next h =>
    unfold coreEvent event
    split
    · exact .refl
    · have hb : atMaximum (txBegin s) = true := by simpa [atMaximum] using h
      exact (((Moves.one (.begin s)).tail (.event _ (.timeEnd _ hb))).tail (.offer _)).trans (linkSettle_moves _)
  · exact .refl

/-- Every command answers a next state, to which a row of moves leads. -/
theorem exec_moves (c : Instr) (s : State) : ∃ t, exec c s = .next t ∧ Moves s t := by
  cases c
  case unknownRequestCode seq code params =>
    exact ⟨_, rfl, eventIf_moves (fun a => requestFrame_moves a seq (code :: params)) s⟩
  case requestArrival seq body =>
    exact ⟨_, rfl, eventIf_moves (fun a => (Moves.one (.framer a .hunt)).trans (requestFrame_moves _ seq body)) s⟩
  case syncArrival seq => exact ⟨_, rfl, eventIf_moves (fun a => (Moves.one (.framer a .hunt)).tail (.sync _ seq)) s⟩
  case syncDoneDeferred => exact ⟨_, rfl, eventIf_moves (fun a => .one (.deferred a)) s⟩
  case badFrame type seq body check =>
    refine ⟨_, rfl, eventIf_moves (fun a => ?_) s⟩
    split
    · exact .one (.framer a .hunt)
    · exact (Moves.one (.framer a .hunt)).trans (arriveFrame_moves _ _)
  case partialFrameTimeout => exact ⟨_, rfl, eventIf_moves (fun a => .one (.framer a .hunt)) s⟩
  case lineFault => exact ⟨_, rfl, eventIf_moves (fun a => .one (.framer a .hunt)) s⟩
  case receiveLineOn => exact ⟨_, rfl, event_moves (fun a => .one (.lineOn a)) s⟩
  case frameTransmitStart => exact ⟨_, rfl, eventIf_moves (fun a => .one (.begin a)) s⟩
  case frameTransmitEnd => exact ⟨_, rfl, eventIf_moves (fun a => .one (.sent a)) s⟩
  case noticeResendExpiry => exact ⟨_, rfl, eventIf_moves (fun a => .one (.resend a)) s⟩
  case byteReceived b => exact ⟨_, rfl, event_moves (fun a => takeByte_moves a b) s⟩
  case pinResetBegin =>
    refine ⟨_, rfl, ?_⟩
    split
    · exact .refl
    · exact .one (.resetBegin s)
  case pinResetEnd =>
    refine ⟨_, rfl, ?_⟩
    split
    · exact .one (.resetEnd s)
    · exact .refl
  case holdAsserted l =>
    refine ⟨_, rfl, ?_⟩
    split
    · exact .one (.level s l true)
    · exact coreEvent_moves (.hold · l) s
  case holdDeasserted l =>
    refine ⟨_, rfl, ?_⟩
    split
    · exact .one (.level s l false)
    · exact coreEvent_moves (.release · l) s
  case tick => exact ⟨_, rfl, coreEvent_moves .tick s⟩
  case slewAdjustment => exact ⟨_, rfl, coreEventIf_moves .tick s⟩
  case timeEnd => exact ⟨_, rfl, timeEnd_moves s⟩
  case dueReached id => exact ⟨_, rfl, coreEventIf_moves (.due · id.val) s⟩
  case toleranceExpiry id => exact ⟨_, rfl, coreEventIf_moves (.tolerance · id.val) s⟩
  case leadWindowEntry id => exact ⟨_, rfl, coreEventIf_moves (.window · id.val) s⟩
  case triggerEdge i level => exact ⟨_, rfl, coreEvent_moves (.sample · i level) s⟩
  case releaseStart l => exact ⟨_, rfl, coreEventIf_moves (.start · l) s⟩
  case byteSlot l => exact ⟨_, rfl, coreEventIf_moves (.slot · l) s⟩
  case holdLimitExpiry l => exact ⟨_, rfl, coreEventIf_moves (.holdLimit · l) s⟩
  case flushEnd l => exact ⟨_, rfl, coreEventIf_moves (.flushEnd · l) s⟩
  case arbiterGrant => exact ⟨_, rfl, eventIf_moves (fun a => .one (.grant a)) s⟩
  case rowCommandDone => exact ⟨_, rfl, coreEventIf_moves .rowCommand s⟩
  case transactionComplete => exact ⟨_, rfl, coreEventIf_moves .transaction s⟩
  case closingPrechargeDone => exact ⟨_, rfl, coreEventIf_moves .closing s⟩
  case cancelCueDone | stopAllDone | putDataTaken | sealFinish | deleteFinish | readBackFinish =>
    exact ⟨_, rfl, coreEventIf_moves .resume s⟩
  case refreshIntervalExpiry => exact ⟨_, rfl, coreEventIf_moves .interval s⟩
  case refreshPrechargeDone => exact ⟨_, rfl, coreEventIf_moves .refreshPrecharge s⟩
  case refreshComplete => exact ⟨_, rfl, coreEventIf_moves .refreshCommand s⟩
  case bringupWaitEnd => exact ⟨_, rfl, coreEventIf_moves .wait s⟩
  case bringupPrechargeDone => exact ⟨_, rfl, coreEventIf_moves .bringUpPrecharge s⟩
  case bringupRefreshDone => exact ⟨_, rfl, coreEventIf_moves .bringUpRefresh s⟩
  case modeSetDone => exact ⟨_, rfl, coreEventIf_moves .modeSet s⟩
  -- what is left are the 28 requests by name
  all_goals exact ⟨_, rfl, hostRequest_moves _ _ s⟩

/-- Whatever every move keeps, and what no command that waits bears on, every step keeps. -/
theorem step_keeps {P : State → Prop} (hm : ∀ s t, Move s t → P s → P t)
    (hq : ∀ (s : State) q, P s → P { s with pending := q }) {s t : State} (hs : P s) (h : step s = .next t) : P t := by
  have hmoves : ∀ s t, Moves s t → P s → P t := by
    intro s t hst hs
    induction hst with
    | refl => exact hs
    | tail _ hbc ih => exact hm _ _ hbc ih
  unfold step at h
  split at h
  · cases h
    exact hmoves _ _ (clockPeriod_moves s) hs
  next c rest _ =>
    obtain ⟨u, hu, hmv⟩ := exec_moves c { s with pending := rest }
    rw [hu] at h
    cases h
    exact hmoves _ _ hmv (hq s rest hs)

end Sys2Proof.Machine
end

section
/-!
PROOFS. What faces the host is left alone by every effect but the end of a waiting request, and by every request but
RESET and NOTICE_ACK: the link, the notice queue, the pin reset, the commands that wait, and whether a request executes.
No command touches the queue of commands (O3).
-/

namespace Sys2Proof.Machine

/-- What faces the host is as it was. -/
structure HostKept (s t : State) : Prop where
  inReset : t.inReset = s.inReset
  link : t.link = s.link
  notices : t.notices = s.notices
  pending : t.pending = s.pending
  executing : t.executing.isSome = s.executing.isSome

namespace HostKept

theorem refl (s : State) : HostKept s s := ⟨rfl, rfl, rfl, rfl, rfl⟩

theorem trans {s t u : State} (h : HostKept s t) (k : HostKept t u) : HostKept s u :=
  ⟨k.inReset.trans h.inReset, k.link.trans h.link, k.notices.trans h.notices, k.pending.trans h.pending,
    k.executing.trans h.executing⟩

theorem ofCore {s t : State} (h : CoreKept s t) : HostKept s t :=
  ⟨h.inReset, h.link, h.notices, h.pending, h.executing⟩

/-! ### The memory -/

theorem withMem (s : State) (m : List Host.Cell) : HostKept s { s with mem := m } := ⟨rfl, rfl, rfl, rfl, rfl⟩

theorem withRefresh (s : State) (r : Refresh) : HostKept s { s with refresh := r } := ⟨rfl, rfl, rfl, rfl, rfl⟩

theorem rowCommandDone (s : State) : HostKept s (rowCommandDone s) := by
  unfold Machine.rowCommandDone afterRowCommand
  repeat' split
  all_goals exact ⟨rfl, rfl, rfl, rfl, rfl⟩

theorem portAfterColumn (s : State) (t : Transaction) : HostKept s (portAfterColumn s t) := by
  unfold Machine.portAfterColumn
  split <;> exact ⟨rfl, rfl, rfl, rfl, rfl⟩

theorem countFreeRead (s : State) (t : Transaction) : HostKept s (countFreeRead s t) := by
  unfold Machine.countFreeRead
  split <;> exact ⟨rfl, rfl, rfl, rfl, rfl⟩

theorem appendReadBack (s : State) (bytes : List Byte) : HostKept s (appendReadBack s bytes) := by
  unfold Machine.appendReadBack
  split
  next he => exact ⟨rfl, rfl, rfl, rfl, by rw [he]; rfl⟩
  · exact refl s

theorem handOver (s : State) (t : Transaction) : HostKept s (handOver s t) := by
  unfold Machine.handOver
  split
  · exact (countFreeRead s t).trans (ofCore (CoreKept.deliverLane _ _ _))
  · exact (countFreeRead s t).trans (appendReadBack _ _)
  · exact (withMem s _).trans (ofCore (CoreKept.fillDone _ _))

theorem transactionDone (s : State) : HostKept s (transactionDone s) := by
  unfold Machine.transactionDone
  repeat' split
  · exact (portAfterColumn _ _).trans (handOver _ _)
  all_goals exact refl s

theorem closingDone (s : State) : HostKept s (closingDone s) := by
  unfold Machine.closingDone
  repeat' split
  all_goals exact ⟨rfl, rfl, rfl, rfl, rfl⟩

theorem placeRefresh (s : State) : HostKept s (placeRefresh s) := by
  unfold Machine.placeRefresh
  split <;> exact ⟨rfl, rfl, rfl, rfl, rfl⟩

theorem intervalExpires (s : State) : HostKept s (intervalExpires s) := by
  unfold Machine.intervalExpires
  split
  · exact (withRefresh s _).trans (placeRefresh _)
  · exact refl s

theorem refreshPrecharged (s : State) : HostKept s (refreshPrecharged s) := by
  unfold Machine.refreshPrecharged
  split <;> exact ⟨rfl, rfl, rfl, rfl, rfl⟩

theorem repayRefresh (s : State) : HostKept s (repayRefresh s) := by
  unfold Machine.repayRefresh
  split
  · exact (withRefresh s _).trans (placeRefresh _)
  · exact refl s

theorem refreshDone (s : State) : HostKept s (refreshDone s) := by
  unfold Machine.refreshDone
  split
  · exact HostKept.trans (t := s.freePort) ⟨rfl, rfl, rfl, rfl, rfl⟩ (repayRefresh _)
  · exact refl s

theorem waitEnds (s : State) : HostKept s (waitEnds s) := by
  unfold Machine.waitEnds
  repeat' split
  all_goals exact ⟨rfl, rfl, rfl, rfl, rfl⟩

theorem bringUpPrecharged (s : State) : HostKept s (bringUpPrecharged s) := by
  unfold Machine.bringUpPrecharged
  dsimp only
  repeat' split
  all_goals exact ⟨rfl, rfl, rfl, rfl, rfl⟩

theorem bringUpRefreshed (s : State) : HostKept s (bringUpRefreshed s) := by
  unfold Machine.bringUpRefreshed
  dsimp only
  repeat' split
  all_goals exact ⟨rfl, rfl, rfl, rfl, rfl⟩

theorem modeSetDone (s : State) : HostKept s (modeSetDone s) := by
  unfold Machine.modeSetDone
  dsimp only
  repeat' split
  all_goals exact ⟨rfl, rfl, rfl, rfl, rfl⟩

/-! ### Time and trigger lines -/

theorem testEnd (s : State) : HostKept s (testEnd s) := by
  unfold Machine.testEnd
  split <;> exact ⟨rfl, rfl, rfl, rfl, rfl⟩

theorem advanceTo (s : State) (t : Nat) : HostKept s (advanceTo s t) := by
  unfold Machine.advanceTo
  split
  · exact HostKept.trans (t := s.setDevice t) ⟨rfl, rfl, rfl, rfl, rfl⟩
      ((testEnd _).trans (ofCore (CoreKept.forwardChange _)))
  · exact ⟨rfl, rfl, rfl, rfl, rfl⟩

theorem countSlew (s : State) (w : Slew) : HostKept s (countSlew s w) := by
  unfold Machine.countSlew
  dsimp only
  generalize (if 0 < w.remaining then w.remaining - 1 else w.remaining + 1) = r
  split <;> exact ⟨rfl, rfl, rfl, rfl, rfl⟩

theorem tickTime (s : State) : HostKept s (tickTime s) := by
  have h0 : HostKept s (countElapsed s) := ⟨rfl, rfl, rfl, rfl, rfl⟩
  refine h0.trans ?_
  unfold Machine.tickTime tickDevice adjustTime
  dsimp only
  repeat' split
  · exact refl _
  · exact (countSlew _ _).trans (advanceTo _ _)
  · exact countSlew _ _
  · exact advanceTo _ _

theorem recordStamp (s : State) (i : Fin 4) (e : StampEdge) : HostKept s (recordStamp s i e) := by
  unfold Machine.recordStamp
  dsimp only
  split <;> exact ⟨rfl, rfl, rfl, rfl, rfl⟩

theorem sampleLine (s : State) (i : Fin 4) (level : Bool) : HostKept s (sampleLine s i level) := by
  unfold Machine.sampleLine
  dsimp only
  repeat' split
  · exact HostKept.trans (t := s.setLine i _) ⟨rfl, rfl, rfl, rfl, rfl⟩ (recordStamp _ _ _)
  all_goals exact ⟨rfl, rfl, rfl, rfl, rfl⟩

/-! ### Effects -/

theorem meetDue (s : State) (id : Nat) : CoreKept s (meetDue id s) := by
  unfold Machine.meetDue
  repeat' split
  · exact CoreKept.reachDue _ _
  · exact CoreKept.tryStart _ _
  · exact CoreKept.refl s

theorem enterWindow (s : State) (id : Nat) : CoreKept s (enterWindow id s) := by
  unfold Machine.enterWindow
  split
  · exact CoreKept.settleLane _ _ _
  · exact CoreKept.refl s

/-- Every effect but the end of a waiting request leaves what faces the host alone. -/
theorem effect {s t : State} (h : Effect s t) : t = Machine.resume s ∨ HostKept s t := by
  cases h
  case resume => exact .inl rfl
  all_goals right
  case rest => exact refl s
  case start l => exact ofCore (CoreKept.tryStart _ _)
  case slot l => exact ofCore (CoreKept.takeSlot _ _)
  case hold l => exact ofCore (CoreKept.holdOn _ _)
  case release l => exact ofCore (CoreKept.holdOff _ _)
  case holdLimit l => exact ofCore (CoreKept.cutLane _ _ _)
  case flushEnd l => exact ofCore (CoreKept.endFlush _ _)
  case rowCommand => exact rowCommandDone s
  case transaction => exact transactionDone s
  case closing => exact closingDone s
  case interval => exact intervalExpires s
  case refreshPrecharge => exact refreshPrecharged s
  case refreshCommand => exact refreshDone s
  case wait => exact waitEnds s
  case bringUpPrecharge => exact bringUpPrecharged s
  case bringUpRefresh => exact bringUpRefreshed s
  case modeSet => exact modeSetDone s
  case tick => exact tickTime s
  case timeEnd => exact ⟨rfl, rfl, rfl, rfl, rfl⟩
  case due id => exact ofCore (meetDue s id)
  case tolerance id => exact ofCore (CoreKept.expireCue _ _)
  case window id => exact ofCore (enterWindow s id)
  case sample i level => exact sampleLine s i level

end HostKept

/-! ### Requests -/

/-- The requests that touch lanes, cues and payloads at most. -/
def withinCore : Req → Bool
  | .reset | .noticeAck _ | .memoryInit _ | .setTime _ | .stepTime _ | .slewTime _ _ | .setTrigger _ _ _
  | .readStamps _ _ => false
  | _ => true

theorem runDeletePayload_core (s : State) (id : Byte) : CoreKept s (runDeletePayload s id).1 := by
  unfold runDeletePayload
  dsimp only
  repeat' split
  · exact .refl s
  · exact .deleteChunks _ _
  · exact .freePayload _ _
  · exact .setPayload _ _ _
  · exact .refl s

theorem runCancelCue_core (s : State) (id : Byte) : CoreKept s (runCancelCue s id).1 := by
  unfold runCancelCue
  dsimp only
  repeat' split
  · exact .refl s
  · exact .refl s
  · exact (CoreKept.setCue _ _ _).trans (.cutLane _ _ _)
  · exact (CoreKept.unstage _ _).trans (.endCue _ _ _ _)
  · exact .endCue _ _ _ _

theorem runSetLane_core (s : State) (l : Byte) (b : LaneBody) : CoreKept s (runSetLane s l b).1 := by
  unfold runSetLane
  split
  · split
    · exact .refl s
    · split
      · exact .refl s
      · exact (CoreKept.setLane s _ _).trans (.pickFor _ _)
  · exact .refl s

/-- A request that touches lanes, cues and payloads at most leaves the rest of the part alone. -/
theorem runRequest_core (s : State) (seq : Byte) (r : Req) (h : withinCore r = true) :
    CoreKept s (runRequest s seq r).1 := by
  cases r
  case reset | noticeAck | memoryInit | setTime | stepTime | slewTime | setTrigger | readStamps =>
    exact absurd h (by simp [withinCore])
  case identify | getState | memoryStatus | listPayloads | listCues | getTime => exact .refl s
  case openPayload id len =>
    show CoreKept s (runOpenPayload s id len).1
    unfold runOpenPayload
    dsimp only
    repeat' split
    all_goals constructor <;> rfl
  case putData id off data =>
    show CoreKept s (runPutData s id off data).1
    unfold runPutData
    repeat' split
    all_goals exact .refl s
  case sealPayload id want =>
    show CoreKept s (runSealPayload s id want).1
    unfold runSealPayload
    repeat' split
    all_goals exact .refl s
  case deletePayload id => exact runDeletePayload_core s id
  case readBack id off n =>
    show CoreKept s (runReadBack s id off n).1
    unfold runReadBack
    repeat' split
    all_goals exact .refl s
  case payloadInfo id =>
    show CoreKept s (runPayloadInfo s id).1
    unfold runPayloadInfo
    split <;> exact .refl s
  case fileCue b =>
    show CoreKept s (runFileCue s b).1
    unfold runFileCue
    split
    · exact .refl s
    · exact (CoreKept.addRef _ _).trans (.setCue _ _ _)
  case armCue id new =>
    show CoreKept s (runArmCue s id new).1
    unfold runArmCue
    dsimp only
    repeat' split
    · exact .refl s
    · exact .refl s
    · exact .refl s
    · exact .setCue _ _ _
  case cancelCue id => exact runCancelCue_core s id
  case discardCue id =>
    show CoreKept s (runDiscardCue s id).1
    unfold runDiscardCue
    repeat' split
    · exact .refl s
    · exact (CoreKept.dropRef _ _).trans (.dropCue _ _)
    · exact .dropCue _ _
    · exact .refl s
  case cueInfo id =>
    show CoreKept s (runCueInfo s id).1
    unfold runCueInfo
    split <;> exact .refl s
  case stopAll =>
    have hcues : CoreKept s { s with cues := s.cues.map (fun e => (e.1, e.2.stopped)) } := by constructor <;> rfl
    show CoreKept s (runStopAll s).1
    unfold runStopAll
    dsimp only
    exact hcues.trans (.foldl _ .stopLane fours _)
  case setLane l b => exact runSetLane_core s l b
  case laneStatus l =>
    show CoreKept s (runLaneStatus s l).1
    unfold runLaneStatus
    split <;> exact .refl s

theorem runStepTime_host (s : State) (k : BitVec 32) : HostKept s (runStepTime s k).1 := by
  unfold runStepTime
  dsimp only
  repeat' split
  · exact .refl s
  · exact .refl s
  · exact .refl s
  · exact HostKept.trans (t := s.setSlew none) ⟨rfl, rfl, rfl, rfl, rfl⟩ (.advanceTo _ _)
  · exact ⟨rfl, rfl, rfl, rfl, rfl⟩

/-- Every request but RESET and NOTICE_ACK leaves what faces the host alone; its reply is made afterwards. -/
theorem runRequest_host (s : State) (seq : Byte) (r : Req) (h1 : r ≠ .reset) (h2 : ∀ n, r ≠ .noticeAck n) :
    HostKept s (runRequest s seq r).1 := by
  by_cases hc : withinCore r = true
  · exact .ofCore (runRequest_core s seq r hc)
  cases r
  case reset => exact absurd rfl h1
  case noticeAck n => exact absurd rfl (h2 n)
  case memoryInit p =>
    show HostKept s (runMemoryInit s p).1
    unfold runMemoryInit
    repeat' split
    all_goals exact ⟨rfl, rfl, rfl, rfl, rfl⟩
  case setTime v =>
    show HostKept s (runSetTime s v).1
    unfold runSetTime setTimeTo
    dsimp only
    repeat' split
    all_goals exact ⟨rfl, rfl, rfl, rfl, rfl⟩
  case stepTime k => exact runStepTime_host s k
  case slewTime k sp =>
    show HostKept s (runSlewTime s k sp).1
    unfold runSlewTime
    dsimp only
    repeat' split
    all_goals exact ⟨rfl, rfl, rfl, rfl, rfl⟩
  case setTrigger l m n =>
    show HostKept s (runSetTrigger s l m n).1
    unfold runSetTrigger
    split <;> exact ⟨rfl, rfl, rfl, rfl, rfl⟩
  case readStamps l n =>
    show HostKept s (runReadStamps s l n).1
    unfold runReadStamps
    dsimp only
    repeat' split
    all_goals exact ⟨rfl, rfl, rfl, rfl, rfl⟩
  all_goals exact absurd rfl hc

/-- What the soft reset leaves of the part as a whole: the pin reset, the commands that wait, and a free interpreter. -/
theorem softReset_pending (s : State) :
    (softReset s).pending = s.pending ∧ (softReset s).inReset = s.inReset
      ∧ (softReset s).executing.isSome = s.executing.isSome := by
  have hcues : ∀ u : State, CoreKept u { u with cues := [] } := fun u => by constructor <;> rfl
  have hc : CoreKept (resetLink s) (resetCues (resetLink s)) := CoreKept.trans (.foldl _ .resetLane _ _) (hcues _)
  have hs : CoreKept (resetCues (resetLink s)) (resetStore (resetCues (resetLink s))) := .resetStore _
  have hm : ∀ u, (resetTimeAndTriggers (resetMemory u)).pending = u.pending
      ∧ (resetTimeAndTriggers (resetMemory u)).inReset = u.inReset
      ∧ (resetTimeAndTriggers (resetMemory u)).executing = u.executing := by
    intro u
    unfold resetTimeAndTriggers resetMemory
    dsimp only
    split <;> exact ⟨rfl, rfl, rfl⟩
  obtain ⟨h1, h2, h3⟩ := hm (resetStore (resetCues (resetLink s)))
  have hall := hc.trans hs
  rw [softReset, h1, h2, h3]
  exact ⟨hall.pending, hall.inReset, hall.executing⟩

theorem removeNotices_pending (s : State) (k : Nat) :
    (removeNotices s k).pending = s.pending ∧ (removeNotices s k).inReset = s.inReset := by
  unfold removeNotices
  dsimp only
  repeat' split
  all_goals exact ⟨rfl, rfl⟩

/-- No request touches the queue of commands. -/
theorem runRequest_pending (s : State) (seq : Byte) (r : Req) : (runRequest s seq r).1.pending = s.pending := by
  cases r
  case reset => exact (softReset_pending _).1
  case noticeAck n =>
    show (runNoticeAck s n).1.pending = _
    unfold runNoticeAck
    split
    · exact (removeNotices_pending _ _).1
    · rfl
  all_goals exact (runRequest_host s seq _ (by simp) (by simp)).pending

theorem conclude_pending (s0 : State) (seq code : Byte) (out : State × Answer) :
    (conclude s0 seq code out).pending = out.1.pending := by
  unfold conclude
  split
  · exact (OuterKept.endExecution _ _ _ _ _).pending
  · exact (OuterKept.coreTail _ _).pending.trans (OuterKept.endExecution _ _ _ _ _).pending
  · exact (OuterKept.coreTail _ _).pending
  · exact (OuterKept.coreTail _ _).pending

theorem execute_pending (s : State) (seq : Byte) (body : List Byte) : (execute s seq body).pending = s.pending := by
  unfold execute
  dsimp only
  repeat' split
  · exact (OuterKept.endExecution _ _ _ _ _).pending
  · exact (OuterKept.endExecution _ _ _ _ _).pending
  · exact (conclude_pending _ _ _ _).trans (runRequest_pending _ _ _)
  · exact (OuterKept.endExecution _ _ _ _ _).pending

theorem Effect.pending {s t : State} (h : Effect s t) : t.pending = s.pending := by
  rcases HostKept.effect h with rfl | h
  · exact (OuterKept.resume s).pending
  · exact h.pending

/-- No move touches the queue of commands. -/
theorem Move.pending {s t : State} (h : Move s t) : t.pending = s.pending := by
  cases h
  case begin => simp
  case event _ u h => exact (OuterKept.coreTail _ _).pending.trans h.pending
  case grant => exact (CoreKept.arbitrate s).pending
  case take => exact execute_pending _ _ _
  case sort seq body =>
    unfold sortRequest resendStored joinPrompt
    repeat' split
    all_goals rfl
  case sync seq =>
    unfold handleSync
    dsimp only
    split <;> rfl
  case deferred => exact (OuterKept.syncDeferred s).pending
  case sent =>
    unfold txEnd
    dsimp only
    repeat' split
    all_goals rfl
  all_goals rfl

theorem Moves.pending {s t : State} (h : Moves s t) : t.pending = s.pending := by
  induction h with
  | refl => rfl
  | tail _ h ih => exact h.pending.trans ih

/-- Settles O3: every command is a row of moves, and no move touches the queue of commands. -/
theorem everyCommandGoesOn : Obligations.EveryCommandGoesOn := by
  unfold Obligations.EveryCommandGoesOn
  intro c s
  obtain ⟨t, ht, hm⟩ := exec_moves c s
  exact ⟨t, ht, hm.pending⟩

/-- Settles O1. -/
theorem stepTakesFrontCommand : Obligations.StepTakesFrontCommand := by
  unfold Obligations.StepTakesFrontCommand
  intro c rest s h
  simp only [step, h]

end Sys2Proof.Machine
end

section
/-!
PROOFS. The link stays within its capacities (O56): what joins the inbox, the prompt list and the reply memory finds
room there or makes it, and the interpreter, which alone makes executed replies, takes no request while one waits.
-/

namespace Sys2Proof.Machine

/-! ### What the invariant reads -/

@[simp] theorem isExecuted_executed (f : Frame) : (QueuedReply.executed f).isExecuted = true := rfl

@[simp] theorem isExecuted_syncDone (seq : Byte) : (QueuedReply.syncDone seq).isExecuted = false := rfl

/-- The capacities are read from the link and from whether a request executes. -/
theorem linkInvariant_congr {s t : State} (hl : t.link = s.link) (he : t.executing.isSome = s.executing.isSome)
    (h : linkInvariant s) : linkInvariant t := by
  unfold linkInvariant at h ⊢
  rwa [hl, he]

theorem linkInvariant_host {s t : State} (hk : HostKept s t) (h : linkInvariant s) : linkInvariant t :=
  linkInvariant_congr hk.link hk.executing h

/-- No executed reply waits exactly where the executed replies of the queue are none. -/
theorem executedReplies_eq_nil_iff (s : State) :
    s.link.replyQueue.filter QueuedReply.isExecuted = [] ↔ replyWaits s = false := by
  simp [replyWaits, List.filter_eq_nil_iff]

/-- While a request executes no executed reply waits. -/
theorem replyWaits_of_executing {s : State} (h : linkInvariant s) (he : s.executing.isSome = true) :
    replyWaits s = false := by
  obtain ⟨-, -, -, hr, -⟩ := h
  rw [he, if_pos rfl] at hr
  rw [← executedReplies_eq_nil_iff, ← List.length_eq_zero_iff]
  omega

/-! ### Replies -/

/-- The reply memory never outgrows its size (R151). -/
theorem storeReply_length (m : List StoredReply) (r : StoredReply) (h : m.length ≤ Config.replyMemorySize) :
    (storeReply m r).length ≤ Config.replyMemorySize := by
  have hle := List.length_filter_le (fun e : StoredReply => decide (e.seq ≠ r.seq)) m
  have hsize : Config.replyMemorySize = 8 := rfl
  unfold storeReply
  dsimp only
  generalize List.filter (fun e : StoredReply => decide (e.seq ≠ r.seq)) m = others at hle ⊢
  rw [List.length_append, List.length_singleton]
  split
  next => rw [List.length_drop]; omega
  next => omega

theorem queueSyncDone_keeps_link {s : State} (seq : Byte) (h : linkInvariant s) :
    linkInvariant (queueSyncDone s seq) := by
  obtain ⟨hi, hp, hm, hr, -⟩ := h
  refine ⟨hi, hp, hm, ?_, ?_⟩
  · have hq : (queueSyncDone s seq).link.replyQueue.filter QueuedReply.isExecuted
        = s.link.replyQueue.filter QueuedReply.isExecuted := by
      show (s.link.replyQueue.filter QueuedReply.isExecuted ++ [QueuedReply.syncDone seq]).filter
        QueuedReply.isExecuted = _
      rw [List.filter_append, List.filter_filter]
      simp
    rw [hq]
    exact hr
  · simp [queueSyncDone, List.filter_filter]

theorem syncDeferred_keeps_link {s : State} (h : linkInvariant s) : linkInvariant (syncDeferred s) := by
  unfold syncDeferred
  split
  · exact queueSyncDone_keeps_link _ h
  · exact h

/-- An executed reply joins a queue that holds none. -/
theorem queueReply_keeps_link {s : State} (seq code : Byte) (st : Status) (res : List Byte) (h : linkInvariant s)
    (hw : replyWaits s = false) : linkInvariant (queueReply s seq code st res) := by
  obtain ⟨hi, hp, hm, -, hd⟩ := h
  rw [← executedReplies_eq_nil_iff] at hw
  refine ⟨hi, hp, storeReply_length _ _ hm, ?_, ?_⟩
  · simpa [queueReply, hw] using List.length_filter_le QueuedReply.isExecuted [_]
  · simpa [queueReply] using hd

theorem endExecution_keeps_link {s : State} (seq code : Byte) (st : Status) (res : List Byte) (h : linkInvariant s)
    (hw : replyWaits s = false) : linkInvariant (endExecution s seq code st res) :=
  syncDeferred_keeps_link (queueReply_keeps_link seq code st res h hw)

/-! ### The end of an event -/

theorem finishSeal_keeps_link {s : State} (seq code : Byte) (id : Nat) (want : Option (BitVec 32))
    (h : linkInvariant s) (hw : replyWaits s = false) : linkInvariant (finishSeal s seq code id want) := by
  have after : ∀ {t : State} (st res), CoreKept s t → linkInvariant (endExecution t seq code st res) := by
    intro t st res hk
    refine endExecution_keeps_link _ _ _ _ (linkInvariant_host (.ofCore hk) h) ?_
    rwa [replyWaits, hk.link]
  unfold finishSeal
  repeat' split
  · exact after _ _ (.refl s)
  · exact after _ _ (.setPayload _ _ _)
  · exact after _ _ (.freePayload _ _)
  · exact after _ _ (.refl s)

theorem resume_keeps_link {s : State} (h : linkInvariant s) : linkInvariant (resume s) := by
  unfold resume
  split
  next seq code w he =>
    have hw : replyWaits s = false := replyWaits_of_executing h (by rw [he]; rfl)
    have after : ∀ {t : State} (st res), CoreKept s t → linkInvariant (endExecution t seq code st res) := by
      intro t st res hk
      refine endExecution_keeps_link _ _ _ _ (linkInvariant_host (.ofCore hk) h) ?_
      rwa [replyWaits, hk.link]
    repeat' split
    · exact after _ _ (.takeChunk _ _ _ _)
    · exact h
    · exact h
    · exact finishSeal_keeps_link _ _ _ _ h hw
    · exact h
    · exact after _ _ (.freePayload _ _)
    · exact after _ _ (.refl s)
    · exact linkInvariant_host (.ofCore (.placeReadBack _ _ _ _ _)) h
    · exact after _ _ (.refl s)
    · exact h
    · exact after _ _ (.refl s)
    · exact h
  · exact h

theorem coreTail_keeps_link {s : State} (s0 : State) (h : linkInvariant s) : linkInvariant (coreTail s0 s) := by
  have h1 := linkInvariant_host (.ofCore ((CoreKept.settleLanes s0 s).trans (.freeDoomed _))) h
  exact linkInvariant_host (.ofCore (.arbitrate _)) (resume_keeps_link h1)

/-! ### Executions -/

/-- The link as a soft reset leaves it behind its reply. -/
theorem runReset_keeps_link {s : State} (seq : Byte) (h : linkInvariant s) (hw : replyWaits s = false) :
    linkInvariant (runReset s seq).1 := by
  obtain ⟨-, hp, -, hr, hd⟩ :=
    queueReply_keeps_link seq 0x03 .ok [deviceStateCode (deviceAfterReset s.device)] h hw
  have he : (runReset s seq).1.executing.isSome = false :=
    (softReset_pending (queueReply s seq 0x03 .ok [deviceStateCode (deviceAfterReset s.device)])).2.2
  unfold linkInvariant
  rw [runReset_link, he]
  exact ⟨Nat.zero_le _, hp, Nat.zero_le _, hr, hd⟩

/-- Every request but RESET leaves the link to its reply. -/
theorem runRequest_leaves_link (s : State) (seq : Byte) (r : Req) (hr : r ≠ .reset) :
    (runRequest s seq r).1.link = s.link
      ∧ (runRequest s seq r).1.executing.isSome = s.executing.isSome := by
  by_cases hn : ∃ n, r = .noticeAck n
  · obtain ⟨n, rfl⟩ := hn
    show (runNoticeAck s n).1.link = _ ∧ (runNoticeAck s n).1.executing.isSome = _
    unfold runNoticeAck removeNotices
    dsimp only
    repeat' split
    all_goals exact ⟨rfl, rfl⟩
  · have hk := runRequest_host s seq r hr (by simpa using hn)
    exact ⟨hk.link, hk.executing⟩

theorem conclude_keeps_link {s : State} (seq : Byte) (r : Req) (h : linkInvariant s) (hw : replyWaits s = false)
    (code : Byte) : linkInvariant (conclude s seq code (runRequest s seq r)) := by
  by_cases hr : r = .reset
  · subst hr
    exact coreTail_keeps_link _ (runReset_keeps_link seq h hw)
  obtain ⟨hl, he⟩ := runRequest_leaves_link s seq r hr
  have hk : linkInvariant (runRequest s seq r).1 := linkInvariant_congr hl he h
  have hw' : replyWaits (runRequest s seq r).1 = false := by rwa [replyWaits, hl]
  unfold conclude
  split
  · exact endExecution_keeps_link _ _ _ _ hk hw'
  · exact coreTail_keeps_link _ (endExecution_keeps_link _ _ _ _ hk hw')
  · refine coreTail_keeps_link _ ?_
    obtain ⟨hi, hp, hm, -, hd⟩ := hk
    refine ⟨hi, hp, hm, ?_, hd⟩
    rw [← executedReplies_eq_nil_iff] at hw'
    simp [hw']
  · exact coreTail_keeps_link _ hk

theorem execute_keeps_link {s : State} (seq : Byte) (body : List Byte) (h : linkInvariant s)
    (hw : replyWaits s = false) : linkInvariant (execute s seq body) := by
  unfold execute
  dsimp only
  repeat' split
  · exact endExecution_keeps_link _ _ _ _ h hw
  · exact endExecution_keeps_link _ _ _ _ h hw
  · exact conclude_keeps_link seq _ h hw _
  · exact endExecution_keeps_link _ _ _ _ h hw

/-! ### Moves -/

theorem txBegin_keeps_link {s : State} (h : linkInvariant s) : linkInvariant (txBegin s) := by
  obtain ⟨hi, hp, hm, hr, hd⟩ := h
  unfold txBegin
  split
  · exact ⟨hi, hp, hm, hr, hd⟩
  · split
    next f t hf =>
      rw [hf] at hp
      exact ⟨hi, Nat.le_of_succ_le hp, hm, hr, hd⟩
    · split
      next q t hq =>
        rw [hq] at hr hd
        refine ⟨hi, hp, hm, ?_, ?_⟩
        · refine Nat.le_trans (Nat.add_le_add_right ?_ _) hr
          exact (List.Sublist.filter _ (List.sublist_cons_self q t)).length_le
        · exact Nat.le_trans (List.Sublist.filter _ (List.sublist_cons_self q t)).length_le hd
      · split <;> exact ⟨hi, hp, hm, hr, hd⟩

theorem joinPrompt_keeps_link {s : State} (f : Frame) (h : linkInvariant s) : linkInvariant (joinPrompt s f) := by
  unfold joinPrompt
  split
  next hroom =>
    obtain ⟨hi, -, hm, hr, hd⟩ := h
    exact ⟨hi, by simpa using hroom, hm, hr, hd⟩
  · exact h

theorem sortRequest_keeps_link {s : State} (seq : Byte) (body : List Byte) (h : linkInvariant s) :
    linkInvariant (sortRequest s seq body) := by
  unfold sortRequest resendStored
  repeat' split
  · exact h
  · exact h
  · exact joinPrompt_keeps_link _ h
  · exact joinPrompt_keeps_link _ h
  next hroom =>
    obtain ⟨-, hp, hm, hr, hd⟩ := h
    exact ⟨by simpa using hroom, hp, hm, hr, hd⟩

theorem handleSync_keeps_link {s : State} (seq : Byte) (h : linkInvariant s) : linkInvariant (handleSync s seq) := by
  obtain ⟨-, hp, -, hr, hd⟩ := h
  have h0 : linkInvariant { s with link := { s.link with inbox := [], replies := [] } } :=
    ⟨Nat.zero_le _, hp, Nat.zero_le _, hr, hd⟩
  unfold handleSync
  dsimp only
  split
  · exact queueSyncDone_keeps_link seq h0
  · exact ⟨Nat.zero_le _, hp, Nat.zero_le _, hr, hd⟩

theorem txEnd_keeps_link {s : State} (h : linkInvariant s) : linkInvariant (txEnd s) := by
  unfold txEnd
  dsimp only
  repeat' split
  all_goals exact h

theorem move_keeps_link (s t : State) (hm : Move s t) (h : linkInvariant s) : linkInvariant t := by
  cases hm
  case begin => exact txBegin_keeps_link h
  case offer => exact linkInvariant_congr rfl rfl h
  case event u s0 hu =>
    refine coreTail_keeps_link s0 ?_
    rcases HostKept.effect hu with rfl | hk
    · exact resume_keeps_link h
    · exact linkInvariant_host hk h
  case grant => exact linkInvariant_host (.ofCore (.arbitrate s)) h
  case take e q _ hq hw =>
    refine execute_keeps_link _ _ ?_ hw
    obtain ⟨hi, hp, hm, hr, hd⟩ := h
    rw [hq] at hi
    exact ⟨Nat.le_of_succ_le hi, hp, hm, hr, hd⟩
  case framer f => exact h
  case sort seq body => exact sortRequest_keeps_link seq body h
  case sync seq => exact handleSync_keeps_link seq h
  case deferred => exact syncDeferred_keeps_link h
  case lineOn => exact h
  case sent => exact txEnd_keeps_link h
  case resend => exact linkInvariant_congr rfl rfl h
  case period =>
    obtain ⟨hi, hp, hm, hr, hd⟩ := h
    exact ⟨hi, hp, hm, hr, hd⟩
  case level => exact linkInvariant_congr rfl rfl h
  case resetBegin => exact ⟨Nat.zero_le _, Nat.zero_le _, Nat.zero_le _, Nat.zero_le _, Nat.zero_le _⟩
  case resetEnd => exact ⟨Nat.zero_le _, Nat.zero_le _, Nat.zero_le _, Nat.zero_le _, Nat.zero_le _⟩

/-- Settles O56: every move keeps the capacities of the link. -/
theorem linkCapacitiesKept : Obligations.LinkCapacitiesKept := by
  unfold Obligations.LinkCapacitiesKept
  exact fun s t hs h => step_keeps move_keeps_link (fun _ _ h => h) hs h

end Sys2Proof.Machine
end

section
/-!
PROOFS. The notice queue stays consecutive and within its size (O57). The invariant reads the numbers and the bodies of
the held notices alone, and what the transmitter and a resend change are the send states.
-/

namespace Sys2Proof.Machine

/-! ### Numbers and bodies -/

/-- What of a held notice its sending leaves alone. -/
def Notice.content (n : Notice) : BitVec 16 × NoticeBody := (n.number, n.body)

/-- The same notices are held under the same numbers, whatever their send states. -/
structure ContentKept (q r : NoticeQueue) : Prop where
  held : r.held.map Notice.content = q.held.map Notice.content
  next : r.next = q.next

theorem ContentKept.refl (q : NoticeQueue) : ContentKept q q := ⟨rfl, rfl⟩

theorem ContentKept.trans {q r u : NoticeQueue} (h : ContentKept q r) (k : ContentKept r u) : ContentKept q u :=
  ⟨k.held.trans h.held, k.next.trans h.next⟩

theorem ContentKept.map (q : NoticeQueue) {f : Notice → Notice} (hf : ∀ n, (f n).content = n.content) :
    ContentKept q { q with held := q.held.map f } := by
  refine ⟨?_, rfl⟩
  rw [List.map_map]
  exact List.map_congr_left (fun n _ => hf n)

@[simp] theorem resend_content (n : Notice) : n.resend.content = n.content := by
  unfold Notice.resend
  split <;> rfl

@[simp] theorem sent_content (n : Notice) (now : Nat) : (n.sent now).content = n.content := by
  unfold Notice.sent
  split
  · split <;> rfl
  · rfl

theorem beginFirstDue_content (l : List Notice) :
    (beginFirstDue l).map Notice.content = l.map Notice.content := by
  induction l with
  | nil => rfl
  | cons n t ih =>
    unfold beginFirstDue
    split
    · rfl
    · rw [List.map_cons, ih, List.map_cons]

theorem orderResend_content (s : State) : ContentKept s.notices s.orderResend.notices := .map _ resend_content

theorem txBegin_content (s : State) : ContentKept s.notices (txBegin s).notices := by
  refine ⟨?_, txBegin_next s⟩
  unfold txBegin
  repeat' split
  · rfl
  · rfl
  · rfl
  · exact beginFirstDue_content _
  · rfl

theorem txEnd_content (s : State) : ContentKept s.notices (txEnd s).notices := by
  unfold txEnd
  dsimp only
  repeat' split
  · exact .map _ (sent_content · _)
  · exact .refl _
  · exact .refl _

/-! ### The invariant of a queue -/

/-- The numbers of a list run from `n` on. -/
theorem consecutive_congr {l m : List Notice} (h : m.map Notice.content = l.map Notice.content) (n : BitVec 16)
    (hl : consecutive n l) : consecutive n m := by
  induction l generalizing m n with
  | nil =>
    obtain rfl : m = [] := by simpa using h
    trivial
  | cons x t ih =>
    cases m with
    | nil => simp at h
    | cons y u =>
      simp only [List.map_cons, List.cons.injEq, Notice.content, Prod.mk.injEq] at h
      obtain ⟨⟨hxy, -⟩, ht⟩ := h
      exact ⟨hxy.trans hl.1, ih ht _ hl.2⟩

theorem anyOverflow_congr {l m : List Notice} (h : m.map Notice.content = l.map Notice.content) :
    m.any Notice.isOverflow = l.any Notice.isOverflow := by
  have hof : Notice.isOverflow = (fun c : BitVec 16 × NoticeBody => decide (c.2 = .overflow)) ∘ Notice.content := rfl
  rw [hof, ← List.any_map, ← List.any_map, h]

/-- The invariant is read from the contents. -/
theorem noticeInvariant_congr {s t : State} (hk : ContentKept s.notices t.notices) (h : noticeInvariant s) :
    noticeInvariant t := by
  have hlen : t.notices.held.length = s.notices.held.length := by
    simpa using congrArg List.length hk.held
  obtain ⟨h1, h2, h3⟩ := h
  refine ⟨hlen ▸ h1, fun hfull => ?_, ?_⟩
  · rw [anyOverflow_congr hk.held]
    exact h2 (hlen ▸ hfull)
  · rw [hlen, hk.next]
    exact consecutive_congr hk.held _ h3

theorem consecutive_append {l : List Notice} (n : BitVec 16) (x : Notice) (hl : consecutive n l)
    (hx : x.number = n + BitVec.ofNat 16 l.length) : consecutive n (l ++ [x]) := by
  induction l generalizing n with
  | nil => exact ⟨by simpa using hx, trivial⟩
  | cons y t ih =>
    refine ⟨hl.1, ih _ hl.2 ?_⟩
    rw [hx, List.length_cons, BitVec.add_assoc, Nat.add_comm t.length 1, BitVec.ofNat_add]
    rfl

theorem consecutive_drop {l : List Notice} (k : Nat) (n : BitVec 16) (hl : consecutive n l) :
    consecutive (n + BitVec.ofNat 16 k) (l.drop k) := by
  induction k generalizing l n with
  | zero => simpa using hl
  | succ k ih =>
    cases l with
    | nil => trivial
    | cons x t =>
      rw [List.drop_succ_cons, Nat.add_comm k 1, BitVec.ofNat_add, ← BitVec.add_assoc]
      exact ih _ hl.2

/-- A notice joined under the next number keeps the numbers consecutive. -/
theorem append_consecutive (q : NoticeQueue) (b : NoticeBody)
    (h : consecutive (q.next - BitVec.ofNat 16 q.held.length) q.held) :
    consecutive ((q.append b).next - BitVec.ofNat 16 (q.append b).held.length) (q.append b).held := by
  have hnext : (q.append b).next - BitVec.ofNat 16 (q.append b).held.length
      = q.next - BitVec.ofNat 16 q.held.length := by
    simp only [NoticeQueue.append, List.length_append, List.length_singleton, BitVec.ofNat_add]
    bv_omega
  rw [hnext]
  refine consecutive_append _ _ h ?_
  rw [BitVec.sub_add_cancel]

/-- What is asked of the queue of a part. -/
def queueInOrder (q : NoticeQueue) : Prop :=
  q.held.length ≤ Config.noticeQueueSize
    ∧ (q.held.length = Config.noticeQueueSize → q.held.any Notice.isOverflow = true)
    ∧ consecutive (q.next - BitVec.ofNat 16 q.held.length) q.held

theorem noticeInvariant_iff (s : State) : noticeInvariant s ↔ queueInOrder s.notices := Iff.rfl

/-- An offered notice keeps the queue in order: OVERFLOW takes the 32nd place, and nothing joins it (R162). -/
theorem offer_keeps_order (q : NoticeQueue) (b : NoticeBody) (h : queueInOrder q) : queueInOrder (q.offer b) := by
  obtain ⟨hlen, hfull, hnum⟩ := h
  have hsize : Config.noticeQueueSize = 32 := rfl
  unfold NoticeQueue.offer
  split
  · exact ⟨hlen, hfull, hnum⟩
  next hno =>
    have hjoined : ∀ b, (q.append b).held.length = q.held.length + 1 := fun b => by simp [NoticeQueue.append]
    have hless : q.held.length ≠ Config.noticeQueueSize := fun he => hno (hfull he)
    split
    next hlast =>
      refine ⟨by rw [hjoined]; omega, fun _ => ?_, append_consecutive q _ hnum⟩
      simp [NoticeQueue.append, Notice.isOverflow]
    next hroom =>
      refine ⟨by rw [hjoined]; omega, fun he => ?_, append_consecutive q _ hnum⟩
      rw [hjoined] at he
      omega

theorem offers_keep_order (l : List NoticeBody) (q : NoticeQueue) (h : queueInOrder q) :
    queueInOrder (l.foldl NoticeQueue.offer q) := by
  induction l generalizing q with
  | nil => exact h
  | cons b t ih => exact ih _ (offer_keeps_order q b h)

/-! ### Acknowledgements and replies -/

theorem removeNotices_keeps_notices {s : State} (k : Nat) (h : noticeInvariant s) :
    noticeInvariant (removeNotices s k) := by
  unfold removeNotices
  split
  · exact h
  next hk =>
    have hdrop : noticeInvariant { s with notices := { s.notices with held := s.notices.held.drop k } } := by
      obtain ⟨hlen, -, hnum⟩ := h
      have hle : (s.notices.held.drop k).length ≤ s.notices.held.length - k := (List.length_drop).le
      refine ⟨?_, fun hfull => ?_, ?_⟩
      · exact Nat.le_trans hle (Nat.le_trans (Nat.sub_le _ _) hlen)
      · have hsize : Config.noticeQueueSize = 32 := rfl
        have hfull' : (s.notices.held.drop k).length = Config.noticeQueueSize := hfull
        omega
      · by_cases hkl : k ≤ s.notices.held.length
        · have hnum' := consecutive_drop k _ hnum
          have hfirst : s.notices.next - BitVec.ofNat 16 s.notices.held.length + BitVec.ofNat 16 k
              = s.notices.next - BitVec.ofNat 16 (s.notices.held.drop k).length := by
            have hsplit : s.notices.held.length = (s.notices.held.drop k).length + k := by
              rw [List.length_drop]; omega
            rw [hsplit, BitVec.ofNat_add]
            bv_omega
          rwa [hfirst] at hnum'
        · rw [show s.notices.held.drop k = [] from List.drop_eq_nil_of_le (by omega)]
          trivial
    dsimp only
    split
    · exact noticeInvariant_congr (orderResend_content _) hdrop
    · exact hdrop

theorem endExecution_content (s : State) (seq code : Byte) (st : Status) (res : List Byte) :
    ContentKept s.notices (endExecution s seq code st res).notices := by
  unfold endExecution syncDeferred
  split
  · exact orderResend_content { queueReply s seq code st res with link := _ }
  · exact .refl _

theorem finishSeal_content (s : State) (seq code : Byte) (id : Nat) (want : Option (BitVec 32)) :
    ContentKept s.notices (finishSeal s seq code id want).notices := by
  unfold finishSeal
  repeat' split
  · exact endExecution_content _ _ _ _ _
  · exact endExecution_content (s.setPayload id _) _ _ _ _
  · have h := endExecution_content (s.freePayload id) seq code
    rw [(CoreKept.freePayload s id).notices] at h
    exact h _ _
  · exact endExecution_content _ _ _ _ _

theorem resume_content (s : State) : ContentKept s.notices (resume s).notices := by
  have after : ∀ {t : State} (seq code st res), CoreKept s t →
      ContentKept s.notices (endExecution t seq code st res).notices :=
    fun seq code st res hk => hk.notices ▸ endExecution_content _ seq code st res
  unfold resume
  repeat' split
  · exact after _ _ _ _ (.takeChunk _ _ _ _)
  · exact .refl _
  · exact .refl _
  · exact finishSeal_content _ _ _ _ _
  · exact .refl _
  · exact after _ _ _ _ (.freePayload _ _)
  · exact endExecution_content _ _ _ _ _
  · rw [(CoreKept.placeReadBack _ _ _ _ _).notices]; exact .refl _
  · exact endExecution_content _ _ _ _ _
  · exact .refl _
  · exact endExecution_content _ _ _ _ _
  · exact .refl _
  · exact .refl _

theorem coreTail_content (s0 s : State) : ContentKept s.notices (coreTail s0 s).notices := by
  have h := resume_content (settleLanes s0 s).freeDoomed
  rw [((CoreKept.settleLanes s0 s).trans (.freeDoomed _)).notices] at h
  rw [coreTail, (CoreKept.arbitrate _).notices]
  exact h

/-! ### Executions and moves -/

/-- A queue that a reset leaves is in order. -/
theorem restarted_inOrder (kind : ResetKind) : queueInOrder (.restarted kind) := by
  refine ⟨?_, fun h => ?_, (by decide : (1 : BitVec 16) = 2 - BitVec.ofNat 16 1), trivial⟩
  · exact Nat.le_add_left 1 31
  · exact absurd (show (1 : Nat) = 32 from h) (by decide)

/-- A queue that holds no notice is in order. -/
theorem noneHeld_inOrder (n : BitVec 16) : queueInOrder { held := [], next := n } :=
  ⟨Nat.zero_le _, fun h => absurd (show (0 : Nat) = 32 from h) (by decide), trivial⟩

theorem softReset_notices (s : State) : (softReset s).notices = .restarted .soft := by
  have hm : ∀ u, (resetMemory u).notices = u.notices := by
    intro u
    unfold resetMemory
    split <;> rfl
  have hc : CoreKept (resetLink s) (fours.foldl resetLane (resetLink s)) := .foldl _ .resetLane _ _
  show (resetMemory _).notices = _
  rw [hm, (CoreKept.resetStore _).notices]
  exact hc.notices

theorem runRequest_keeps_notices {s : State} (seq : Byte) (r : Req) (h : noticeInvariant s) :
    noticeInvariant (runRequest s seq r).1 := by
  by_cases hr : r = .reset
  · subst hr
    rw [noticeInvariant_iff]
    show queueInOrder (softReset _).notices
    rw [softReset_notices]
    exact restarted_inOrder _
  by_cases hn : ∃ n, r = .noticeAck n
  · obtain ⟨n, rfl⟩ := hn
    show noticeInvariant (runNoticeAck s n).1
    unfold runNoticeAck
    split
    · exact removeNotices_keeps_notices _ h
    · exact h
  · have hk := (runRequest_host s seq r hr (by simpa using hn)).notices
    exact noticeInvariant_congr (hk ▸ .refl _) h

theorem conclude_keeps_notices (s0 : State) (seq code : Byte) (out : State × Answer) (h : noticeInvariant out.1) :
    noticeInvariant (conclude s0 seq code out) := by
  unfold conclude
  split
  · exact noticeInvariant_congr (endExecution_content _ _ _ _ _) h
  · exact noticeInvariant_congr ((endExecution_content _ _ _ _ _).trans (coreTail_content _ _)) h
  · exact noticeInvariant_congr (coreTail_content s0 { out.1 with executing := _ }) h
  · exact noticeInvariant_congr (coreTail_content _ _) h

theorem execute_keeps_notices {s : State} (seq : Byte) (body : List Byte) (h : noticeInvariant s) :
    noticeInvariant (execute s seq body) := by
  unfold execute
  dsimp only
  repeat' split
  · exact noticeInvariant_congr (endExecution_content _ _ _ _ _) h
  · exact noticeInvariant_congr (endExecution_content _ _ _ _ _) h
  · exact conclude_keeps_notices _ _ _ _ (runRequest_keeps_notices _ _ h)
  · exact noticeInvariant_congr (endExecution_content _ _ _ _ _) h

theorem move_keeps_notices (s t : State) (hm : Move s t) (h : noticeInvariant s) : noticeInvariant t := by
  cases hm
  case begin => exact noticeInvariant_congr (txBegin_content s) h
  case offer => exact offers_keep_order _ _ h
  case event u s0 hu =>
    refine noticeInvariant_congr ((?_ : ContentKept s.notices u.notices).trans (coreTail_content _ _)) h
    rcases HostKept.effect hu with rfl | hk
    · exact resume_content s
    · exact hk.notices ▸ .refl _
  case grant => exact noticeInvariant_congr ((CoreKept.arbitrate s).notices ▸ .refl _) h
  case take e q _ _ _ => exact execute_keeps_notices (s := { s with link := _ }) _ _ h
  case framer f => exact h
  case sort seq body =>
    refine noticeInvariant_congr (s := s) ?_ h
    unfold sortRequest resendStored joinPrompt
    repeat' split
    all_goals exact .refl _
  case sync seq =>
    refine noticeInvariant_congr ?_ h
    unfold handleSync
    dsimp only
    split
    · exact orderResend_content { s with link := _ }
    · exact .refl _
  case deferred =>
    refine noticeInvariant_congr ?_ h
    unfold syncDeferred
    split
    · exact orderResend_content { s with link := _ }
    · exact .refl _
  case lineOn => exact h
  case sent => exact noticeInvariant_congr (txEnd_content s) h
  case resend => exact noticeInvariant_congr (orderResend_content s) h
  case period => exact h
  case level => exact h
  case resetBegin => exact noneHeld_inOrder 1
  case resetEnd => exact restarted_inOrder .pin

/-- Settles O57: every move keeps the notice queue in order. -/
theorem noticeQueueKept : Obligations.NoticeQueueKept := by
  unfold Obligations.NoticeQueueKept
  exact fun s t hs h => step_keeps move_keeps_notices (fun _ _ h => h) hs h

end Sys2Proof.Machine
end

section
/-!
PROOFS. What the end of an occurrence does, said once: the cue goes on in a state that no lane holds, or it ends and its
payload reference falls, and its slot may become EMPTY; lanes, port and scheduler are as they were. And the laws of the
tables that the invariants of the cue table and the directory rest on.
-/

namespace Sys2Proof.Machine

/-! ### Tables -/

/-- What is read at a key stands in the table. -/
theorem mem_of_tget {α : Type} {t : List (Nat × α)} {a : Nat} {x : α} (h : tget t a = some x) : (a, x) ∈ t := by
  induction t with
  | nil => simp [tget] at h
  | cons e t ih =>
    obtain ⟨k, v⟩ := e
    by_cases hk : a = k
    · simp only [tget, if_pos hk, Option.some.injEq] at h
      rw [hk, h]
      exact List.mem_cons_self
    · simp only [tget, if_neg hk] at h
      exact List.mem_cons_of_mem _ (ih h)

/-- In a table with rising keys every entry is read at its key. -/
theorem tget_of_mem {α : Type} {t : List (Nat × α)} {e : Nat × α} (hs : sortedKeys t = true) (h : e ∈ t) :
    tget t e.1 = some e.2 := by
  induction t with
  | nil => simp at h
  | cons f t ih =>
    obtain ⟨k, v⟩ := f
    obtain ⟨hk, hs'⟩ := (sortedKeys_cons k v t).1 hs
    rcases List.mem_cons.1 h with rfl | he
    · simp [tget]
    · rw [tget, if_neg (Nat.ne_of_gt (hk e he))]
      exact ih hs' he

/-- Reading after a put. -/
theorem tget_tput {α : Type} (t : List (Nat × α)) (a b : Nat) (x : α) :
    tget (tput t a x) b = if b = a then some x else tget t b := by
  split
  next h => rw [h, tget_tput_self]
  next h => exact tget_tput_ne t a b x h

/-- Reading after a removal. -/
theorem tget_tdel {α : Type} (t : List (Nat × α)) (a b : Nat) :
    tget (tdel t a) b = if b = a then none else tget t b := by
  split
  next h => rw [h, tget_tdel_self]
  next h => exact tget_tdel_ne t a b h

theorem mem_tdel {α : Type} {t : List (Nat × α)} {a : Nat} {e : Nat × α} : e ∈ tdel t a ↔ e ∈ t ∧ e.1 ≠ a := by
  simp [tdel]

/-! ### Cue records -/

/-- A record that a cue of the same lane and payload goes on with, in a state that no lane holds. -/
structure Cue.GoesOnAs (c d : Cue) : Prop where
  lane : d.lane = c.lane
  payload : d.payload = c.payload
  due : d.dueFits
  notStaged : d.state ≠ .staged
  notReleasing : d.state ≠ .releasing

theorem Cue.dueFits_toHeld (c : Cue) : c.toHeld.dueFits := by simp [Cue.dueFits, Cue.toHeld]

theorem Cue.dueFits_toArmed (c : Cue) (d : Nat) : (c.toArmed d).dueFits := by simp [Cue.dueFits, Cue.toArmed]

theorem Cue.dueFits_toPending (c : Cue) (d : Nat) : (c.toPending d).dueFits := by simp [Cue.dueFits, Cue.toPending]

theorem Cue.dueFits_toTriggerWait (c : Cue) (n : Nat) : (c.toTriggerWait n).dueFits := by
  simp [Cue.dueFits, Cue.toTriggerWait]

theorem Cue.dueFits_toEnded (c : Cue) (r : EndReason) : (c.toEnded r).dueFits := by simp [Cue.dueFits, Cue.toEnded]

namespace Cue.GoesOnAs

theorem toHeld {c d : Cue} (hl : d.lane = c.lane) (hp : d.payload = c.payload) : c.GoesOnAs d.toHeld :=
  ⟨hl, hp, dueFits_toHeld d, nofun, nofun⟩

theorem toArmed {c d : Cue} (hl : d.lane = c.lane) (hp : d.payload = c.payload) (n : Nat) : c.GoesOnAs (d.toArmed n) :=
  ⟨hl, hp, dueFits_toArmed d n, nofun, nofun⟩

theorem toPending {c d : Cue} (hl : d.lane = c.lane) (hp : d.payload = c.payload) (n : Nat) :
    c.GoesOnAs (d.toPending n) :=
  ⟨hl, hp, dueFits_toPending d n, nofun, nofun⟩

theorem toTriggerWait {c d : Cue} (hl : d.lane = c.lane) (hp : d.payload = c.payload) (n : Nat) :
    c.GoesOnAs (d.toTriggerWait n) :=
  ⟨hl, hp, dueFits_toTriggerWait d n, nofun, nofun⟩

theorem toEnded {c d : Cue} (hl : d.lane = c.lane) (hp : d.payload = c.payload) (r : EndReason) :
    c.GoesOnAs (d.toEnded r) :=
  ⟨hl, hp, dueFits_toEnded d r, nofun, nofun⟩

end Cue.GoesOnAs

theorem recordSkipped_lane (c : Cue) (k : Nat) (r : OccResult) (now due : Nat) :
    (c.recordSkipped k r now due).lane = c.lane := by
  unfold Cue.recordSkipped
  split <;> rfl

theorem recordSkipped_payload (c : Cue) (k : Nat) (r : OccResult) (now due : Nat) :
    (c.recordSkipped k r now due).payload = c.payload := by
  unfold Cue.recordSkipped
  split <;> rfl

/-! ### Notes -/

/-- Only the raised notices and what a waiting request has counted may differ. -/
structure NotesOnly (s t : State) : Prop where
  core : CoreKept s t
  cues : t.cues = s.cues
  lanes : t.lanes = s.lanes
  store : t.store = s.store
  mc : t.mc = s.mc
  refresh : t.refresh = s.refresh
  fills : t.executing.bind Executing.fills = s.executing.bind Executing.fills

namespace NotesOnly

theorem refl (s : State) : NotesOnly s s := ⟨.refl s, rfl, rfl, rfl, rfl, rfl, rfl⟩

theorem trans {s t u : State} (h : NotesOnly s t) (k : NotesOnly t u) : NotesOnly s u :=
  ⟨h.core.trans k.core, k.cues.trans h.cues, k.lanes.trans h.lanes, k.store.trans h.store, k.mc.trans h.mc,
    k.refresh.trans h.refresh, k.fills.trans h.fills⟩

theorem raise (s : State) (b : NoticeBody) : NotesOnly s (s.raise b) := ⟨.raise s b, rfl, rfl, rfl, rfl, rfl, rfl⟩

theorem raiseSkipped (s : State) (id : Nat) (c : Cue) (n : Nat) (d : Option Nat) :
    NotesOnly s (raiseSkipped s id c n d) := by
  unfold Machine.raiseSkipped
  split
  · exact raise _ _
  · exact refl s

theorem noteCancelled (s : State) (id : Nat) (c : Cue) : NotesOnly s (noteCancelled s id c) := by
  refine ⟨.noteCancelled s id c, ?_, ?_, ?_, ?_, ?_, ?_⟩
  all_goals
    unfold Machine.noteCancelled
    split
    next he => split <;> simp [he, Executing.fills]
    · rfl

theorem noteStopped (s : State) (b : Bool) : NotesOnly s (noteStopped s b) := by
  refine ⟨.noteStopped s b, ?_, ?_, ?_, ?_, ?_, ?_⟩
  all_goals
    unfold Machine.noteStopped
    split
    next he => cases b <;> simp [he, Executing.fills]
    · rfl

end NotesOnly

/-! ### The end of an occurrence -/

/-- What the cue table and the store are after an occurrence of cue `id` has ended: the cue goes on, or it is ENDED or
gone and its payload reference has fallen. -/
inductive TableAfter (s : State) (id : Nat) (c : Cue) (t : State) : Prop where
  | goesOn (d : Cue) (h : c.GoesOnAs d) (hc : d.counted = true) (hcues : t.cues = tput s.cues id d)
      (hstore : t.store = s.store)
  | ended (d : Cue) (h : c.GoesOnAs d) (hc : d.counted = false) (hcues : t.cues = tput s.cues id d)
      (hstore : t.store = (s.dropRef c.payload).store)
  | gone (hcues : t.cues = tdel s.cues id) (hstore : t.store = (s.dropRef c.payload).store)

/-- What the end of an occurrence of cue `id` leaves: lanes, port and refresh scheduler as they were. -/
structure AfterOccurrence (s : State) (id : Nat) (c : Cue) (t : State) : Prop where
  core : CoreKept s t
  lanes : t.lanes = s.lanes
  mc : t.mc = s.mc
  refresh : t.refresh = s.refresh
  fills : t.executing.bind Executing.fills = s.executing.bind Executing.fills
  table : TableAfter s id c t

theorem dropRef_store_congr {s u : State} (h : u.store = s.store) (id : Nat) :
    (u.dropRef id).store = (s.dropRef id).store := by
  unfold State.dropRef
  rw [payload_congr h]
  split
  · simp [State.setPayload, h]
  · exact h

/-- Where the notes alone differ before an occurrence ends, and the record's counts, what it leaves is the same. -/
theorem AfterOccurrence.ofNotes {s u t : State} {id : Nat} {c d : Cue} (hn : NotesOnly s u) (hl : d.lane = c.lane)
    (hp : d.payload = c.payload) (h : AfterOccurrence u id d t) : AfterOccurrence s id c t := by
  have goes : ∀ e, d.GoesOnAs e → c.GoesOnAs e := fun e k =>
    ⟨k.lane.trans hl, k.payload.trans hp, k.due, k.notStaged, k.notReleasing⟩
  refine ⟨hn.core.trans h.core, h.lanes.trans hn.lanes, h.mc.trans hn.mc, h.refresh.trans hn.refresh,
    h.fills.trans hn.fills, ?_⟩
  rcases h.table with ⟨e, k, hc, hcues, hstore⟩ | ⟨e, k, hc, hcues, hstore⟩ | ⟨hcues, hstore⟩
  · exact .goesOn e (goes e k) hc (hn.cues ▸ hcues) (hstore.trans hn.store)
  · exact .ended e (goes e k) hc (hn.cues ▸ hcues) (hstore.trans (hp ▸ dropRef_store_congr hn.store _))
  · exact .gone (hn.cues ▸ hcues) (hstore.trans (hp ▸ dropRef_store_congr hn.store _))

theorem AfterOccurrence.setCue (s : State) (id : Nat) {c d : Cue} (h : c.GoesOnAs d) (hc : d.counted = true) :
    AfterOccurrence s id c (s.setCue id d) :=
  ⟨.setCue s id d, rfl, rfl, rfl, rfl, .goesOn d h hc rfl rfl⟩

theorem endCue_after (s : State) (id : Nat) (c : Cue) (r : EndReason) : AfterOccurrence s id c (endCue s id c r) := by
  have hr : (endCue s id c r).refresh = s.refresh ∧ (endCue s id c r).executing = s.executing := by
    unfold endCue State.dropRef
    dsimp only
    split <;> split <;> exact ⟨rfl, rfl⟩
  obtain ⟨-, hl, hm⟩ := CuesOnly.endCue s id c r
  refine ⟨.endCue s id c r, hl, hm, hr.1, by rw [hr.2], ?_⟩
  have hcues : (s.dropRef c.payload).cues = s.cues := by
    unfold State.dropRef
    split <;> rfl
  unfold endCue
  dsimp only
  split
  · exact .gone (congrArg (tdel · id) hcues) rfl
  · exact .ended _ (.toEnded rfl rfl r) rfl (congrArg (tput · id _) hcues) rfl

theorem nextOccurrence_after (s : State) (id : Nat) (c : Cue) (d n : Nat) :
    AfterOccurrence s id c (nextOccurrence s id c d n) := by
  unfold nextOccurrence
  repeat' split
  · exact .ofNotes (.raiseSkipped s id c n _) rfl rfl (endCue_after _ _ _ _)
  · exact .ofNotes (.raiseSkipped s id c n _) rfl rfl (.setCue _ _ (.toHeld rfl rfl) rfl)
  · exact .ofNotes (.raiseSkipped s id c n _) rfl rfl (.setCue _ _ (.toArmed rfl rfl _) rfl)
  · exact .ofNotes (.raiseSkipped s id c n _) rfl rfl (.setCue _ _ (.toPending rfl rfl _) rfl)

theorem nextTimed_after (s : State) (id : Nat) (c : Cue) (d n : Nat) : AfterOccurrence s id c (nextTimed s id c d n) :=
  .ofNotes (.refl s) (recordSkipped_lane _ _ _ _ _) (recordSkipped_payload _ _ _ _ _) (nextOccurrence_after _ _ _ _ _)

theorem nextStopped_after (s : State) (id : Nat) (c : Cue) (d n : Nat) :
    AfterOccurrence s id c (nextStopped s id c d n) :=
  .ofNotes (.refl s) (recordSkipped_lane _ _ _ _ _) (recordSkipped_payload _ _ _ _ _) (nextOccurrence_after _ _ _ _ _)

/-- What the end of an occurrence by skipping leaves. -/
theorem endSkipped_after (s : State) (id : Nat) (c : Cue) (r : OccResult) :
    AfterOccurrence s id c (endSkipped s id c r) := by
  have hl := recordSkipped_lane c 1 r s.time.device (c.due.getD 0)
  have hp := recordSkipped_payload c 1 r s.time.device (c.due.getD 0)
  unfold endSkipped
  dsimp only
  repeat' split
  · exact .ofNotes (.raiseSkipped s id _ 1 none) hl hp (endCue_after _ _ _ _)
  · exact .ofNotes (.refl s) hl hp (nextStopped_after _ _ _ _ _)
  · exact .ofNotes (.refl s) hl hp (nextTimed_after _ _ _ _ _)
  · exact .ofNotes (.raiseSkipped s id _ 1 none) hl hp (.setCue _ _ (.toTriggerWait rfl rfl _) rfl)

/-- What the end of a released occurrence leaves. -/
theorem endReleased_after (s : State) (id : Nat) (c : Cue) (r : OccResult) (late fault : Bool) (n : Nat) :
    AfterOccurrence s id c (endReleased s id c r late fault n) := by
  have reported : NotesOnly s
      (if (c.recordReleased r late fault n).reports then
        s.raise (.cueOccurrence id r late fault n ((c.started.map StartReport.lateness).getD 0)
          (c.recordReleased r late fault n).used)
      else s) := by
    split
    · exact .raise _ _
    · exact .refl s
  unfold endReleased
  dsimp only
  generalize (if (c.recordReleased r late fault n).reports then _ else s) = u at reported ⊢
  repeat' split
  · exact .ofNotes (d := c.recordReleased r late fault n) (reported.trans (.noteCancelled _ _ _)) rfl rfl
      (endCue_after _ _ _ _)
  · exact .ofNotes (d := c.recordReleased r late fault n) (reported.trans (.noteStopped _ _)) rfl rfl
      (endCue_after _ _ _ _)
  · exact .ofNotes (d := c.recordReleased r late fault n) (reported.trans (.noteStopped _ _)) rfl rfl
      (.setCue _ _ (.toHeld rfl rfl) rfl)
  · exact .ofNotes (d := c.recordReleased r late fault n) reported rfl rfl (endCue_after _ _ _ _)
  · exact .ofNotes (d := c.recordReleased r late fault n) reported rfl rfl (nextTimed_after _ _ _ _ _)
  · exact .ofNotes (d := c.recordReleased r late fault n) reported rfl rfl (.setCue _ _ (.toTriggerWait rfl rfl _) rfl)

end Sys2Proof.Machine
end

section
/-!
PROOFS. The cue table stays in order (O58). What the lanes and the store do at the port leaves the cue table alone; what
an operation writes into a slot is a record with a due exactly where its state has one.
-/

namespace Sys2Proof.Machine

/-! ### What only the port sees -/

/-- The two states differ in the memory controller, but for its profile, and the refresh scheduler at most. -/
def PortOnly (s t : State) : Prop :=
  { s with mc := { t.mc with profile := s.mc.profile }, refresh := t.refresh } = t

namespace PortOnly

theorem refl (s : State) : PortOnly s s := rfl

theorem trans {s t u : State} (h : PortOnly s t) (k : PortOnly t u) : PortOnly s u := by
  unfold PortOnly at *
  rw [← h] at k
  exact k

theorem core {s t : State} (h : PortOnly s t) : CoreKept s t := by
  rw [← h]
  constructor <;> rfl

theorem cues {s t : State} (h : PortOnly s t) : t.cues = s.cues := by rw [← h]
theorem lanes {s t : State} (h : PortOnly s t) : t.lanes = s.lanes := by rw [← h]
theorem store {s t : State} (h : PortOnly s t) : t.store = s.store := by rw [← h]
theorem executing {s t : State} (h : PortOnly s t) : t.executing = s.executing := by rw [← h]
theorem profile {s t : State} (h : PortOnly s t) : t.mc.profile = s.mc.profile := by rw [← h]

theorem occupyPort (s : State) (op : PortOp) (n : Nat) : PortOnly s (s.occupyPort op n) := rfl

theorem dropRequest (s : State) (r : Requester) : PortOnly s (dropRequest s r) := by cases r <;> rfl

theorem placeRequest (s : State) (r : Requester) (q : MemRequest) : PortOnly s (placeRequest s r q) := by
  cases r <;> rfl

theorem giveUpRequest (s : State) (r : Requester) : PortOnly s (giveUpRequest s r) := by
  refine (dropRequest s r).trans ?_
  unfold Machine.giveUpRequest
  dsimp only
  split <;> rfl

theorem placeLaneRead (s : State) (l : Fin 4) : PortOnly s (placeLaneRead s l) := by
  unfold Machine.placeLaneRead
  split
  · exact placeRequest _ _ _
  · exact refl s

theorem placeFill (s : State) : PortOnly s (placeFill s) := by
  unfold Machine.placeFill
  split
  · exact placeRequest _ _ _
  · exact refl s

theorem placeReadBack (s : State) (blocks : List Nat) (o n : Nat) (got : List Byte) :
    PortOnly s (placeReadBack s blocks o n got) := by
  unfold Machine.placeReadBack
  repeat' split
  · exact refl s
  · exact placeRequest _ _ _
  · exact refl s

theorem beginTransaction (s : State) (r : Requester) (q : MemRequest) : PortOnly s (beginTransaction s r q) := by
  unfold Machine.beginTransaction
  dsimp only
  repeat' split
  all_goals rfl

theorem beginRefresh (s : State) : PortOnly s (beginRefresh s) := by
  unfold Machine.beginRefresh
  dsimp only
  split <;> rfl

theorem carryOutGrant (s : State) (g : Grant) : PortOnly s (carryOutGrant s g) := by
  unfold Machine.carryOutGrant
  split
  · exact beginRefresh s
  · split
    · exact (dropRequest _ _).trans (beginTransaction _ _ _)
    · exact refl s

theorem issueBringUp (s : State) : PortOnly s (issueBringUp s) := by
  unfold Machine.issueBringUp
  repeat' split
  all_goals rfl

theorem arbitrate (s : State) : PortOnly s (arbitrate s) := by
  unfold Machine.arbitrate
  repeat' split
  · exact refl s
  · exact carryOutGrant _ _
  · exact refl s
  · exact issueBringUp s
  · exact refl s

theorem rowCommandDone (s : State) : PortOnly s (rowCommandDone s) := by
  unfold Machine.rowCommandDone afterRowCommand
  repeat' split
  all_goals rfl

theorem portAfterColumn (s : State) (t : Transaction) : PortOnly s (portAfterColumn s t) := by
  unfold Machine.portAfterColumn
  split <;> rfl

theorem closingDone (s : State) : PortOnly s (closingDone s) := by
  unfold Machine.closingDone
  repeat' split
  all_goals rfl

theorem placeRefresh (s : State) : PortOnly s (placeRefresh s) := by
  unfold Machine.placeRefresh
  split <;> rfl

theorem withRefresh (s : State) (r : Refresh) : PortOnly s { s with refresh := r } := rfl

theorem intervalExpires (s : State) : PortOnly s (intervalExpires s) := by
  unfold Machine.intervalExpires
  split
  · exact (withRefresh s _).trans (placeRefresh _)
  · exact refl s

theorem refreshPrecharged (s : State) : PortOnly s (refreshPrecharged s) := by
  unfold Machine.refreshPrecharged
  split <;> rfl

theorem repayRefresh (s : State) : PortOnly s (repayRefresh s) := by
  unfold Machine.repayRefresh
  split
  · exact (withRefresh s _).trans (placeRefresh _)
  · exact refl s

theorem refreshDone (s : State) : PortOnly s (refreshDone s) := by
  unfold Machine.refreshDone
  split
  · exact PortOnly.trans (t := s.freePort) rfl (repayRefresh _)
  · exact refl s

theorem waitEnds (s : State) : PortOnly s (waitEnds s) := by
  unfold Machine.waitEnds
  repeat' split
  all_goals rfl

theorem bringUpPrecharged (s : State) : PortOnly s (bringUpPrecharged s) := by
  unfold Machine.bringUpPrecharged
  dsimp only
  repeat' split
  all_goals rfl

theorem bringUpRefreshed (s : State) : PortOnly s (bringUpRefreshed s) := by
  unfold Machine.bringUpRefreshed
  dsimp only
  repeat' split
  all_goals rfl

end PortOnly

/-! ### The invariant -/

theorem cueInvariant_congr {s t : State} (h : t.cues = s.cues) (hs : cueInvariant s) : cueInvariant t := by
  unfold cueInvariant
  rw [h]
  exact hs

/-- A slot that is in use is one of the 64, and its record has a due where its state has one. -/
theorem cueInvariant_get {s : State} {id : Nat} {c : Cue} (hs : cueInvariant s) (h : s.cue? id = some c) :
    id < Config.cueSlots ∧ c.dueFits :=
  hs.2 _ (mem_of_tget h)

theorem setCue_keeps_cues {s : State} {id : Nat} {c : Cue} (hs : cueInvariant s) (hid : id < Config.cueSlots)
    (hc : c.dueFits) : cueInvariant (s.setCue id c) := by
  refine ⟨sortedKeys_tput _ _ _ hs.1, fun e he => ?_⟩
  rcases mem_tput _ _ _ _ he with rfl | he
  · exact ⟨hid, hc⟩
  · exact hs.2 e he

theorem dropCue_keeps_cues {s : State} (id : Nat) (hs : cueInvariant s) : cueInvariant (s.dropCue id) :=
  ⟨sortedKeys_tdel _ _ hs.1, fun e he => hs.2 e (mem_tdel.1 he).1⟩

theorem mapCues_keeps_cues {s t : State} {f : Nat × Cue → Nat × Cue} (h : t.cues = s.cues.map f)
    (hf : ∀ e, (f e).1 = e.1) (hd : ∀ e, e.2.dueFits → (f e).2.dueFits) (hs : cueInvariant s) : cueInvariant t := by
  unfold cueInvariant
  rw [h]
  refine ⟨sortedKeys_map _ f hf hs.1, fun e he => ?_⟩
  obtain ⟨a, ha, rfl⟩ := List.mem_map.1 he
  obtain ⟨hid, hdue⟩ := hs.2 a ha
  exact ⟨hf a ▸ hid, hd a hdue⟩

/-- The end of an occurrence keeps the table in order. -/
theorem AfterOccurrence.keeps_cues {s t : State} {id : Nat} {c : Cue} (h : AfterOccurrence s id c t)
    (hid : id < Config.cueSlots) (hs : cueInvariant s) : cueInvariant t := by
  rcases h.table with ⟨d, hd, -, hcues, -⟩ | ⟨d, hd, -, hcues, -⟩ | ⟨hcues, -⟩
  · exact cueInvariant_congr hcues (setCue_keeps_cues hs hid hd.due)
  · exact cueInvariant_congr hcues (setCue_keeps_cues hs hid hd.due)
  · exact cueInvariant_congr hcues (dropCue_keeps_cues id hs)

/-! ### Lanes -/

theorem unstage_cues (s : State) (l : Fin 4) : (unstage s l).cues = s.cues := by
  unfold unstage
  dsimp only
  split
  · exact (PortOnly.giveUpRequest _ _).cues
  · rfl

theorem cutLane_cues (s : State) (l : Fin 4) (c : CutCause) : (cutLane s l c).cues = s.cues := by
  unfold cutLane
  dsimp only
  split
  · exact (PortOnly.giveUpRequest _ _).cues
  · rfl

theorem markMismatch_cues (s : State) (p : Nat) : (markMismatch s p).cues = s.cues := by
  unfold markMismatch
  split <;> rfl

theorem completeRelease_keeps_cues {s : State} (l : Fin 4) (hs : cueInvariant s) :
    cueInvariant (completeRelease s l) := by
  unfold completeRelease
  dsimp only
  split
  next h _ =>
    generalize hu : (if checkFaultFlag h.check (s.lane l).verify then markMismatch s h.payload else s) = u
    have hcues : (u.setLane l (s.lane l).toIdle).cues = s.cues := by
      rw [← hu]
      split
      · exact markMismatch_cues _ _
      · rfl
    have hu' := cueInvariant_congr hcues hs
    split
    next c hc => exact (endReleased_after _ _ _ _ _ _ _).keeps_cues (cueInvariant_get hu' hc).1 hu'
    · exact hu'
  · exact hs

theorem departByte_keeps_cues {s : State} (l : Fin 4) (hs : cueInvariant s) : cueInvariant (departByte s l) := by
  unfold departByte
  dsimp only
  repeat' split
  · exact completeRelease_keeps_cues l (cueInvariant_congr (s := s) rfl hs)
  · exact cueInvariant_congr (PortOnly.placeLaneRead _ _).cues hs
  · exact hs

/-- What a start has found: the staged cue and its due. -/
theorem startDue_eq_some {s : State} {l : Fin 4} {due : Nat} (h : startDue s l = some due) :
    ∃ x c, (s.lane l).held = some x ∧ s.cue? x.cue = some c ∧ c.due = some due
      ∧ (s.lane l).state.holdsStaged = true := by
  unfold startDue at h
  dsimp only at h
  repeat' split at h
  next x hx _ c hc _ d hd hcond =>
    cases h
    simp only [Bool.and_eq_true] at hcond
    exact ⟨x, c, hx, hc, hd, hcond.1.1.1⟩
  all_goals cases h

theorem tryStart_keeps_cues {s : State} (l : Fin 4) (hs : cueInvariant s) : cueInvariant (tryStart s l) := by
  unfold tryStart
  split
  next due hdue =>
    obtain ⟨x, c, hx, hc, hd, -⟩ := startDue_eq_some hdue
    unfold startRelease
    simp only [hx, hc]
    apply departByte_keeps_cues
    have hnew : cueInvariant (s.setCue x.cue { c with
        state := .releasing, started := some { time := s.time.device, lateness := s.time.device - due } }) := by
      refine setCue_keeps_cues hs (cueInvariant_get hs hc).1 ?_
      simp [Cue.dueFits, hd]
    refine cueInvariant_congr ?_ hnew
    split <;> rfl
  · exact hs

theorem reportCut_keeps_cues {s : State} (x : Lane) (hs : cueInvariant s) : cueInvariant (reportCut s x) := by
  unfold reportCut
  repeat' split
  next c _ hc _ => exact (endReleased_after _ _ _ _ _ _ _).keeps_cues (cueInvariant_get hs hc).1 hs
  all_goals exact hs

theorem endFlush_keeps_cues {s : State} (l : Fin 4) (hs : cueInvariant s) : cueInvariant (endFlush s l) := by
  unfold endFlush
  split
  · exact reportCut_keeps_cues _ (cueInvariant_congr (s := s) rfl hs)
  · exact hs

/-! ### Choosing -/

theorem mem_insertBy {α : Type} {lt : α → α → Bool} {x y : α} {l : List α} :
    y ∈ insertBy lt x l ↔ y = x ∨ y ∈ l := by
  induction l with
  | nil => simp [insertBy]
  | cons a t ih =>
    unfold insertBy
    split
    · simp only [List.mem_cons, ih]
      exact or_left_comm
    · exact List.mem_cons

/-- Sorting keeps the members. -/
theorem mem_sortBy {α : Type} {lt : α → α → Bool} {y : α} {l : List α} : y ∈ sortBy lt l ↔ y ∈ l := by
  induction l with
  | nil => rfl
  | cons a t ih =>
    rw [List.mem_cons, ← ih]
    exact mem_insertBy

/-- A candidate is a cue of the table, of this lane, ARMED or PENDING. -/
theorem candidate_spec {s : State} {l : Fin 4} {e : Nat × Cue} (h : candidate s l = some e) :
    e ∈ s.cues ∧ e.2.lane = l ∧ (e.2.state = .armed ∨ e.2.state = .pending) := by
  unfold candidate at h
  split at h
  next f t hq =>
    cases h
    have hmem : e ∈ pendingQueue s l := hq ▸ List.mem_cons_self
    have hin := List.mem_filter.1 (mem_sortBy.1 hmem)
    simp only [Bool.and_eq_true, decide_eq_true_eq] at hin
    exact ⟨hin.1, hin.2.2, .inr hin.2.1⟩
  · have hl := List.find?_some h
    have hin := List.mem_filter.1 (mem_sortBy.1 (List.mem_of_find?_eq_some h))
    simp only [Bool.and_eq_true, decide_eq_true_eq] at hl hin
    exact ⟨hin.1, hl.1, .inl hin.2⟩

theorem pickFor_keeps_cues {s : State} (l : Fin 4) (hs : cueInvariant s) : cueInvariant (pickFor s l) := by
  unfold pickFor
  repeat' split
  next id c hcand =>
    obtain ⟨hmem, -, hst⟩ := candidate_spec hcand
    obtain ⟨hid, hdue⟩ := hs.2 _ hmem
    unfold pickCue
    split
    · refine cueInvariant_congr (PortOnly.placeLaneRead _ _).cues ?_
      refine cueInvariant_congr (s := s.setCue id { c with state := .staged }) rfl (setCue_keeps_cues hs hid ?_)
      rcases hst with hst | hst <;> simp_all [Cue.dueFits]
    · exact hs
  all_goals exact hs

theorem giveBack_keeps_cues {s : State} (l : Fin 4) {id : Nat} (c : Cue) (hid : id < Config.cueSlots)
    (hs : cueInvariant s) : cueInvariant (giveBack s l id c) := by
  refine cueInvariant_congr (unstage_cues _ _) (setCue_keeps_cues hs hid ?_)
  split
  · exact c.dueFits_toArmed _
  · exact c.dueFits_toPending _

theorem restage_keeps_cues (s0 : State) {s : State} (l : Fin 4) (hs : cueInvariant s) :
    cueInvariant (restage s0 s l) := by
  unfold restage
  repeat' split
  next c hc _ => exact giveBack_keeps_cues l c (cueInvariant_get hs hc).1 hs
  all_goals exact hs

theorem settleLane_keeps_cues (s0 : State) {s : State} (l : Fin 4) (hs : cueInvariant s) :
    cueInvariant (settleLane s0 s l) :=
  pickFor_keeps_cues l (endFlush_keeps_cues l (restage_keeps_cues s0 l (endFlush_keeps_cues l hs)))

/-- Whatever a state after each member of a list keeps, it keeps after all of them. -/
theorem foldl_keeps {α : Type} {P : State → Prop} {f : State → α → State} (hf : ∀ s a, P s → P (f s a)) (l : List α)
    (s : State) (hs : P s) : P (l.foldl f s) := by
  induction l generalizing s with
  | nil => exact hs
  | cons a t ih => exact ih _ (hf s a hs)

theorem settleLanes_keeps_cues (s0 : State) {s : State} (hs : cueInvariant s) : cueInvariant (settleLanes s0 s) :=
  foldl_keeps (fun _ l h => settleLane_keeps_cues s0 l h) fours s hs

/-! ### Slots, holds and time -/

theorem resolveSlot_keeps_cues {s : State} (l : Fin 4) (hs : cueInvariant s) : cueInvariant (resolveSlot s l) := by
  unfold resolveSlot
  split
  · exact cueInvariant_congr (cutLane_cues _ _ _) hs
  · exact departByte_keeps_cues l hs

theorem takeSlot_keeps_cues {s : State} (l : Fin 4) (hs : cueInvariant s) : cueInvariant (takeSlot s l) := by
  unfold takeSlot
  dsimp only
  repeat' split
  · exact hs
  · exact resolveSlot_keeps_cues l hs
  · exact hs

theorem holdOff_keeps_cues {s : State} (l : Fin 4) (hs : cueInvariant s) : cueInvariant (holdOff s l) := by
  unfold holdOff
  dsimp only
  split
  · exact resolveSlot_keeps_cues (s := s.setLane l _) l hs
  · exact tryStart_keeps_cues (s := s.setLane l _) l hs

theorem holdOn_cues (s : State) (l : Fin 4) : (holdOn s l).cues = s.cues := by
  unfold holdOn
  dsimp only
  split <;> rfl

theorem deliverLane_keeps_cues {s : State} (l : Fin 4) (bytes : List Byte) (hs : cueInvariant s) :
    cueInvariant (deliverLane s l bytes) := by
  unfold deliverLane
  dsimp only
  repeat' split
  · exact cueInvariant_congr (PortOnly.placeLaneRead _ _).cues (tryStart_keeps_cues (s := s.setLane l _) l hs)
  all_goals exact hs

theorem reachDue_keeps_cues {s : State} (id : Nat) (hs : cueInvariant s) : cueInvariant (reachDue s id) := by
  unfold reachDue
  dsimp only
  repeat' split
  next c hc _ _ => exact (endSkipped_after _ _ _ _).keeps_cues (cueInvariant_get hs hc).1 hs
  next c hc _ _ _ => exact (endSkipped_after _ _ _ _).keeps_cues (cueInvariant_get hs hc).1 hs
  next c hc _ _ _ => exact setCue_keeps_cues hs (cueInvariant_get hs hc).1 (c.dueFits_toPending _)
  all_goals exact hs

theorem expireCue_keeps_cues {s : State} (id : Nat) (hs : cueInvariant s) : cueInvariant (expireCue s id) := by
  unfold expireCue
  repeat' split
  next c hc _ _ _ =>
    exact (endSkipped_after _ _ _ _).keeps_cues (cueInvariant_get hs hc).1 (cueInvariant_congr (unstage_cues _ _) hs)
  next c hc _ _ _ => exact (endSkipped_after _ _ _ _).keeps_cues (cueInvariant_get hs hc).1 hs
  all_goals exact hs

theorem timeCue_keeps_cues {s : State} (id : Nat) (hs : cueInvariant s) : cueInvariant (timeCue s id) := by
  unfold timeCue
  repeat' split
  · exact reachDue_keeps_cues id hs
  · exact expireCue_keeps_cues id hs
  · exact hs

theorem forwardChange_keeps_cues {s : State} (hs : cueInvariant s) : cueInvariant (forwardChange s) :=
  foldl_keeps (fun _ l h => tryStart_keeps_cues l h) _ _ (foldl_keeps (fun _ id h => timeCue_keeps_cues id h) _ _ hs)

theorem testEnd_cues (s : State) : (testEnd s).cues = s.cues := by
  unfold testEnd
  split <;> rfl

theorem advanceTo_keeps_cues {s : State} (t : Nat) (hs : cueInvariant s) : cueInvariant (advanceTo s t) := by
  unfold advanceTo
  split
  · exact forwardChange_keeps_cues (cueInvariant_congr (testEnd_cues _) hs)
  · exact hs

theorem countSlew_cues (s : State) (w : Slew) : (countSlew s w).cues = s.cues := by
  unfold countSlew
  dsimp only
  generalize (if 0 < w.remaining then w.remaining - 1 else w.remaining + 1) = r
  split <;> rfl

theorem tickTime_keeps_cues {s : State} (hs : cueInvariant s) : cueInvariant (tickTime s) := by
  have h0 : cueInvariant (countElapsed s) := hs
  unfold tickTime tickDevice adjustTime
  dsimp only
  repeat' split
  · exact h0
  · exact advanceTo_keeps_cues _ (cueInvariant_congr (countSlew_cues _ _) h0)
  · exact cueInvariant_congr (countSlew_cues _ _) h0
  · exact advanceTo_keeps_cues _ h0

theorem releaseByStamp_keeps_cues {s t : State} (i : Fin 4) (p : Stamp) (n : Nat)
    (h : t.cues = releaseByStamp s.cues i p n) (hs : cueInvariant s) : cueInvariant t := by
  refine mapCues_keeps_cues h (fun e => ?_) (fun e he => ?_) hs
  · split <;> rfl
  · split
    · exact e.2.dueFits_toArmed _
    · exact he

theorem recordStamp_cues (s : State) (i : Fin 4) (e : StampEdge) :
    (recordStamp s i e).cues
      = releaseByStamp s.cues i { time := s.time.device, edge := e } (s.triggers.recorded + 1) := by
  unfold recordStamp
  dsimp only
  split <;> rfl

theorem sampleLine_keeps_cues {s : State} (i : Fin 4) (level : Bool) (hs : cueInvariant s) :
    cueInvariant (sampleLine s i level) := by
  unfold sampleLine
  dsimp only
  repeat' split
  · exact releaseByStamp_keeps_cues (s := s) i _ _ (recordStamp_cues _ _ _) hs
  all_goals exact hs

end Sys2Proof.Machine
end

section
/-!
PROOFS. The cue table stays in order, the end (O58): what the store and the link do leaves it alone, and every move
keeps it.
-/

namespace Sys2Proof.Machine

/-! ### What only the store and the port see -/

/-- The two states differ in the payload store, the memory controller, but for its profile, and the refresh scheduler at
most. -/
def StoreOnly (s t : State) : Prop :=
  { s with store := t.store, mc := { t.mc with profile := s.mc.profile }, refresh := t.refresh } = t

namespace StoreOnly

theorem refl (s : State) : StoreOnly s s := rfl

theorem trans {s t u : State} (h : StoreOnly s t) (k : StoreOnly t u) : StoreOnly s u := by
  unfold StoreOnly at *
  rw [← h] at k
  exact k

theorem core {s t : State} (h : StoreOnly s t) : CoreKept s t := by
  rw [← h]
  constructor <;> rfl

theorem cues {s t : State} (h : StoreOnly s t) : t.cues = s.cues := by rw [← h]
theorem lanes {s t : State} (h : StoreOnly s t) : t.lanes = s.lanes := by rw [← h]
theorem executing {s t : State} (h : StoreOnly s t) : t.executing = s.executing := by rw [← h]
theorem profile {s t : State} (h : StoreOnly s t) : t.mc.profile = s.mc.profile := by rw [← h]

theorem ofPort {s t : State} (h : PortOnly s t) : StoreOnly s t := by
  unfold PortOnly at h
  rw [← h]
  rfl

theorem foldl {α : Type} {f : State → α → State} (h : ∀ s a, StoreOnly s (f s a)) (l : List α) (s : State) :
    StoreOnly s (l.foldl f s) := by
  induction l generalizing s with
  | nil => exact refl s
  | cons a t ih => exact (h s a).trans (ih _)

theorem setPayload (s : State) (id : Nat) (p : Payload) : StoreOnly s (s.setPayload id p) := rfl
theorem setChunks (s : State) (cs : List Chunk) : StoreOnly s (s.setChunks cs) := rfl
theorem setLeaving (s : State) (ids : List Nat) : StoreOnly s (s.setLeaving ids) := rfl

theorem freePayload (s : State) (id : Nat) : StoreOnly s (s.freePayload id) := by
  unfold State.freePayload
  split <;> rfl

theorem freeDoomed (s : State) : StoreOnly s s.freeDoomed := foldl freePayload _ s

theorem addRef (s : State) (id : Nat) : StoreOnly s (s.addRef id) := by
  unfold State.addRef
  split <;> rfl

theorem dropRef (s : State) (id : Nat) : StoreOnly s (s.dropRef id) := by
  unfold State.dropRef
  split <;> rfl

theorem markMismatch (s : State) (p : Nat) : StoreOnly s (markMismatch s p) := by
  unfold Machine.markMismatch
  split <;> rfl

theorem takeChunk (s : State) (p o : Nat) (d : List Byte) : StoreOnly s (takeChunk s p o d) := by
  unfold Machine.takeChunk
  split
  · refine StoreOnly.trans ?_ (ofPort (.placeFill _))
    rfl
  · exact refl s

theorem ackHead (s : State) (n : Nat) : StoreOnly s (ackHead s n) := by
  unfold Machine.ackHead
  repeat' split
  all_goals rfl

theorem deleteChunks (s : State) (p : Nat) : StoreOnly s (deleteChunks s p) := by
  unfold Machine.deleteChunks
  repeat' split
  · rfl
  · exact ((ofPort (.giveUpRequest _ _)).trans (setChunks _ _)).trans (ofPort (.placeFill _))
  · rfl

theorem freeLeft (s : State) (p : Nat) : StoreOnly s (freeLeft s p) := by
  unfold Machine.freeLeft
  repeat' split
  · exact (setChunks s _).trans (freePayload _ _)
  all_goals exact refl s

theorem freeLeaving (s : State) : StoreOnly s (freeLeaving s) := (foldl freeLeft _ s).trans (setLeaving _ _)

theorem fillDone (s : State) (n : Nat) : StoreOnly s (fillDone s n) :=
  ((ackHead s n).trans (freeLeaving _)).trans (ofPort (.placeFill _))

theorem resetFill (s : State) : StoreOnly s (resetFill s) := by
  unfold Machine.resetFill
  split
  · rfl
  · exact (((ofPort (.giveUpRequest _ _)).trans (setChunks _ _)).trans (foldl freePayload _ _)).trans (setLeaving _ _)

theorem resetStore (s : State) : StoreOnly s (resetStore s) :=
  (StoreOnly.trans (t := clearRefs s) rfl (freeDoomed _)).trans (resetFill _)

end StoreOnly

/-! ### What only the host sees -/

/-- The two states differ in the link, the notices and the executing request at most. -/
def HostOnly (s t : State) : Prop :=
  { s with executing := t.executing, link := t.link, notices := t.notices, raised := t.raised } = t

namespace HostOnly

theorem refl (s : State) : HostOnly s s := rfl

theorem trans {s t u : State} (h : HostOnly s t) (k : HostOnly t u) : HostOnly s u := by
  unfold HostOnly at *
  rw [← h] at k
  exact k

theorem cues {s t : State} (h : HostOnly s t) : t.cues = s.cues := by rw [← h]
theorem lanes {s t : State} (h : HostOnly s t) : t.lanes = s.lanes := by rw [← h]
theorem store {s t : State} (h : HostOnly s t) : t.store = s.store := by rw [← h]
theorem mc {s t : State} (h : HostOnly s t) : t.mc = s.mc := by rw [← h]
theorem refresh {s t : State} (h : HostOnly s t) : t.refresh = s.refresh := by rw [← h]
theorem device {s t : State} (h : HostOnly s t) : t.device = s.device := by rw [← h]
theorem time {s t : State} (h : HostOnly s t) : t.time = s.time := by rw [← h]
theorem triggers {s t : State} (h : HostOnly s t) : t.triggers = s.triggers := by rw [← h]
theorem mem {s t : State} (h : HostOnly s t) : t.mem = s.mem := by rw [← h]

theorem txBegin (s : State) : HostOnly s (txBegin s) := by
  unfold Machine.txBegin
  repeat' split
  all_goals rfl

theorem txEnd (s : State) : HostOnly s (txEnd s) := by
  unfold Machine.txEnd
  dsimp only
  repeat' split
  all_goals rfl

theorem syncDeferred (s : State) : HostOnly s (syncDeferred s) := by
  unfold Machine.syncDeferred
  split <;> rfl

theorem endExecution (s : State) (seq code : Byte) (st : Status) (r : List Byte) :
    HostOnly s (endExecution s seq code st r) :=
  HostOnly.trans (t := queueReply s seq code st r) rfl (syncDeferred _)

theorem joinPrompt (s : State) (f : Frame) : HostOnly s (joinPrompt s f) := by
  unfold Machine.joinPrompt
  split <;> rfl

theorem sortRequest (s : State) (seq : Byte) (body : List Byte) : HostOnly s (sortRequest s seq body) := by
  unfold Machine.sortRequest resendStored
  repeat' split
  · exact refl s
  · exact refl s
  · exact joinPrompt _ _
  · exact joinPrompt _ _
  · rfl

theorem handleSync (s : State) (seq : Byte) : HostOnly s (handleSync s seq) := by
  unfold Machine.handleSync
  dsimp only
  split <;> rfl

theorem removeNotices (s : State) (k : Nat) : HostOnly s (removeNotices s k) := by
  unfold Machine.removeNotices
  dsimp only
  repeat' split
  all_goals rfl

theorem runNoticeAck (s : State) (n : BitVec 16) : HostOnly s (runNoticeAck s n).1 := by
  unfold Machine.runNoticeAck
  split
  · exact removeNotices _ _
  · exact refl s

end HostOnly

/-! ### The end of an event -/

/-- The end of a waiting request touches the store, the port and the host side alone. -/
theorem resume_cues (s : State) : (resume s).cues = s.cues := by
  unfold resume finishSeal
  repeat' split
  · exact (HostOnly.endExecution _ _ _ _ _).cues.trans (StoreOnly.takeChunk _ _ _ _).cues
  · rfl
  · rfl
  · exact (HostOnly.endExecution _ _ _ _ _).cues
  · exact (HostOnly.endExecution _ _ _ _ _).cues
  · exact (HostOnly.endExecution _ _ _ _ _).cues.trans (StoreOnly.freePayload _ _).cues
  · exact (HostOnly.endExecution _ _ _ _ _).cues
  · rfl
  · exact (HostOnly.endExecution _ _ _ _ _).cues.trans (StoreOnly.freePayload _ _).cues
  · exact (HostOnly.endExecution _ _ _ _ _).cues
  · exact (PortOnly.placeReadBack _ _ _ _ _).cues
  · exact (HostOnly.endExecution _ _ _ _ _).cues
  · rfl
  · exact (HostOnly.endExecution _ _ _ _ _).cues
  · rfl
  · rfl

theorem coreTail_keeps_cues (s0 : State) {s : State} (hs : cueInvariant s) : cueInvariant (coreTail s0 s) := by
  refine cueInvariant_congr (s := settleLanes s0 s) ?_ (settleLanes_keeps_cues s0 hs)
  rw [coreTail, (PortOnly.arbitrate _).cues, resume_cues, (StoreOnly.freeDoomed _).cues]

/-! ### Effects -/

theorem handOver_keeps_cues {s : State} (t : Transaction) (hs : cueInvariant s) : cueInvariant (handOver s t) := by
  have hc : cueInvariant (countFreeRead s t) := by
    refine cueInvariant_congr ?_ hs
    unfold countFreeRead
    split <;> rfl
  unfold handOver
  split
  · exact deliverLane_keeps_cues _ _ hc
  · refine cueInvariant_congr ?_ hc
    unfold appendReadBack
    split <;> rfl
  · exact cueInvariant_congr (StoreOnly.fillDone _ _).cues hs

theorem effect_keeps_cues {s t : State} (h : Effect s t) (hs : cueInvariant s) : cueInvariant t := by
  cases h
  case rest => exact hs
  case start l => exact tryStart_keeps_cues l hs
  case slot l => exact takeSlot_keeps_cues l hs
  case hold l => exact cueInvariant_congr (holdOn_cues _ _) hs
  case release l => exact holdOff_keeps_cues l hs
  case holdLimit l => exact cueInvariant_congr (cutLane_cues _ _ _) hs
  case flushEnd l => exact endFlush_keeps_cues l hs
  case rowCommand => exact cueInvariant_congr (PortOnly.rowCommandDone s).cues hs
  case transaction =>
    unfold transactionDone
    repeat' split
    · exact handOver_keeps_cues _ (cueInvariant_congr (PortOnly.portAfterColumn _ _).cues hs)
    all_goals exact hs
  case closing => exact cueInvariant_congr (PortOnly.closingDone s).cues hs
  case resume => exact cueInvariant_congr (resume_cues s) hs
  case interval => exact cueInvariant_congr (PortOnly.intervalExpires s).cues hs
  case refreshPrecharge => exact cueInvariant_congr (PortOnly.refreshPrecharged s).cues hs
  case refreshCommand => exact cueInvariant_congr (PortOnly.refreshDone s).cues hs
  case wait => exact cueInvariant_congr (PortOnly.waitEnds s).cues hs
  case bringUpPrecharge => exact cueInvariant_congr (PortOnly.bringUpPrecharged s).cues hs
  case bringUpRefresh => exact cueInvariant_congr (PortOnly.bringUpRefreshed s).cues hs
  case modeSet =>
    refine cueInvariant_congr ?_ hs
    unfold modeSetDone
    dsimp only
    repeat' split
    all_goals rfl
  case tick => exact tickTime_keeps_cues hs
  case timeEnd => exact hs
  case due id =>
    unfold meetDue
    repeat' split
    · exact reachDue_keeps_cues _ hs
    · exact tryStart_keeps_cues _ hs
    · exact hs
  case tolerance id => exact expireCue_keeps_cues id hs
  case window id =>
    unfold enterWindow
    split
    · exact settleLane_keeps_cues _ _ hs
    · exact hs
  case sample i level => exact sampleLine_keeps_cues i level hs

/-! ### Requests that leave the cue table alone -/

/-- The requests that read, or that touch the payload store and the port alone. -/
def withinStore : Req → Bool
  | .identify | .getState | .memoryStatus | .payloadInfo _ | .listPayloads _ | .cueInfo _ | .listCues | .getTime
  | .laneStatus _ | .openPayload _ _ | .putData _ _ _ | .sealPayload _ _ | .deletePayload _ | .readBack _ _ _ => true
  | _ => false

theorem runDeletePayload_store (s : State) (id : Byte) : StoreOnly s (runDeletePayload s id).1 := by
  unfold runDeletePayload
  dsimp only
  repeat' split
  · rfl
  · exact StoreOnly.deleteChunks _ _
  · exact StoreOnly.freePayload _ _
  · rfl
  · rfl

theorem runRequest_store (s : State) (seq : Byte) (r : Req) (h : withinStore r = true) :
    StoreOnly s (runRequest s seq r).1 := by
  cases r
  case openPayload id len =>
    show StoreOnly s (runOpenPayload s id len).1
    unfold runOpenPayload
    dsimp only
    repeat' split
    all_goals rfl
  case putData id off data =>
    show StoreOnly s (runPutData s id off data).1
    unfold runPutData
    repeat' split
    all_goals rfl
  case sealPayload id want =>
    show StoreOnly s (runSealPayload s id want).1
    unfold runSealPayload
    repeat' split
    all_goals rfl
  case deletePayload id => exact runDeletePayload_store s id
  case readBack id off n =>
    show StoreOnly s (runReadBack s id off n).1
    unfold runReadBack
    repeat' split
    all_goals rfl
  case payloadInfo id =>
    show StoreOnly s (runPayloadInfo s id).1
    unfold runPayloadInfo
    split <;> rfl
  case cueInfo id =>
    show StoreOnly s (runCueInfo s id).1
    unfold runCueInfo
    split <;> rfl
  case laneStatus l =>
    show StoreOnly s (runLaneStatus s l).1
    unfold runLaneStatus
    split <;> rfl
  case identify | getState | memoryStatus | listPayloads | listCues | getTime => rfl
  all_goals exact absurd h (by simp [withinStore])

/-- The two states differ in the time base, the trigger lines and the raised notices at most. -/
def TimeOnly (s t : State) : Prop := { s with time := t.time, triggers := t.triggers, raised := t.raised } = t

/-- The requests that touch the time base and the trigger lines alone. -/
def withinTime : Req → Bool
  | .setTime _ | .slewTime _ _ | .setTrigger _ _ _ | .readStamps _ _ => true
  | _ => false

theorem runRequest_time (s : State) (seq : Byte) (r : Req) (h : withinTime r = true) :
    TimeOnly s (runRequest s seq r).1 := by
  cases r
  case setTime v =>
    show TimeOnly s (runSetTime s v).1
    unfold runSetTime setTimeTo
    dsimp only
    repeat' split
    all_goals rfl
  case slewTime k sp =>
    show TimeOnly s (runSlewTime s k sp).1
    unfold runSlewTime
    dsimp only
    repeat' split
    all_goals rfl
  case setTrigger l m n =>
    show TimeOnly s (runSetTrigger s l m n).1
    unfold runSetTrigger
    split <;> rfl
  case readStamps l n =>
    show TimeOnly s (runReadStamps s l n).1
    unfold runReadStamps
    dsimp only
    repeat' split
    all_goals rfl
  all_goals exact absurd h (by simp [withinTime])

theorem TimeOnly.cues {s t : State} (h : TimeOnly s t) : t.cues = s.cues := by rw [← h]
theorem TimeOnly.lanes {s t : State} (h : TimeOnly s t) : t.lanes = s.lanes := by rw [← h]
theorem TimeOnly.store {s t : State} (h : TimeOnly s t) : t.store = s.store := by rw [← h]
theorem TimeOnly.mc {s t : State} (h : TimeOnly s t) : t.mc = s.mc := by rw [← h]
theorem TimeOnly.refresh {s t : State} (h : TimeOnly s t) : t.refresh = s.refresh := by rw [← h]
theorem TimeOnly.device {s t : State} (h : TimeOnly s t) : t.device = s.device := by rw [← h]
theorem TimeOnly.executing {s t : State} (h : TimeOnly s t) : t.executing = s.executing := by rw [← h]
theorem TimeOnly.mem {s t : State} (h : TimeOnly s t) : t.mem = s.mem := by rw [← h]

theorem runMemoryInit_cases (s : State) (b : ProfileBody) :
    (runMemoryInit s b).1 = s ∨ ∃ p, profileOf b = some p ∧ (s.device = .ready → s.store.directory = [])
      ∧ (runMemoryInit s b).1 = acceptInit s p := by
  unfold runMemoryInit
  split
  · exact .inl rfl
  next hin =>
    split
    · exact .inl rfl
    next p hp =>
      refine .inr ⟨p, hp, fun hd => ?_, rfl⟩
      by_contra hne
      exact hin ⟨hd, hne⟩

theorem runSetLane_cases (s : State) (l : Byte) (b : LaneBody) :
    (runSetLane s l b).1 = s ∨ ∃ k config, laneConfigOf b = some config ∧ (s.lane k).state.atRest = true
      ∧ (runSetLane s l b).1
        = pickFor (s.setLane k { s.lane k with config := config, state := if config.enabled then .idle else .stopped })
            k := by
  unfold runSetLane
  split
  next k config hk hc =>
    split
    · exact .inl rfl
    next hrest =>
      split
      · exact .inl rfl
      · exact .inr ⟨k, config, hc, by simpa using hrest, rfl⟩
  · exact .inl rfl

/-! ### Requests of the cue table -/

theorem armCueRecord_dueFits (s : State) (c : Cue) (d : Option Nat) : (armCueRecord s c d).dueFits := by
  unfold armCueRecord
  split
  · simp [Cue.dueFits, Cue.toArmed]
  · exact c.dueFits_toTriggerWait _

/-- The record of a FILE_CUE body is HELD with no current due. -/
theorem cueOf_dueFits {b : CueBody} {c : Cue} (h : cueOf b = some c) : c.dueFits := by
  unfold cueOf at h
  repeat' split at h
  · cases h
    simp [Cue.dueFits]
  all_goals cases h

theorem fileTests_dueFits {s : State} {b : CueBody} {c : Cue} (h : fileTests s b = .ok c) : c.dueFits := by
  unfold fileTests at h
  repeat' split at h
  all_goals cases h
  · exact armCueRecord_dueFits _ _ _
  next hc _ _ => exact cueOf_dueFits hc

/-- A request that passes the format check names a slot where it names one (R174). -/
def namesSlot : Req → Prop
  | .fileCue b => b.cue.toNat < Config.cueSlots
  | _ => True

theorem runFileCue_keeps_cues {s : State} {b : CueBody} (hid : b.cue.toNat < Config.cueSlots) (hs : cueInvariant s) :
    cueInvariant (runFileCue s b).1 := by
  unfold runFileCue
  split
  · exact hs
  next c hc =>
    exact setCue_keeps_cues (cueInvariant_congr (StoreOnly.addRef _ _).cues hs) hid (fileTests_dueFits hc)

theorem runArmCue_keeps_cues {s : State} (id : Byte) (d : Option (BitVec 48)) (hs : cueInvariant s) :
    cueInvariant (runArmCue s id d).1 := by
  unfold runArmCue
  dsimp only
  repeat' split
  · exact hs
  · exact hs
  · exact hs
  next c hc _ _ _ => exact setCue_keeps_cues hs (cueInvariant_get hs hc).1 (armCueRecord_dueFits _ _ _)

theorem runCancelCue_keeps_cues {s : State} (id : Byte) (hs : cueInvariant s) :
    cueInvariant (runCancelCue s id).1 := by
  unfold runCancelCue
  dsimp only
  split
  · exact hs
  next c hc =>
    obtain ⟨hid, hdue⟩ := cueInvariant_get hs hc
    split
    · exact hs
    · exact cueInvariant_congr (cutLane_cues _ _ _) (setCue_keeps_cues (c := { c with cut := .cancel }) hs hid hdue)
    · exact (endCue_after _ _ _ _).keeps_cues hid (cueInvariant_congr (unstage_cues _ _) hs)
    · exact (endCue_after _ _ _ _).keeps_cues hid hs

theorem runDiscardCue_keeps_cues {s : State} (id : Byte) (hs : cueInvariant s) :
    cueInvariant (runDiscardCue s id).1 := by
  unfold runDiscardCue
  repeat' split
  · exact hs
  · exact dropCue_keeps_cues _ (cueInvariant_congr (StoreOnly.dropRef _ _).cues hs)
  · exact dropCue_keeps_cues _ hs
  · exact hs

theorem Cue.stopped_dueFits {c : Cue} (h : c.dueFits) : c.stopped.dueFits := by
  unfold Cue.stopped
  repeat' split
  · exact c.dueFits_toHeld
  · exact h
  · exact h

theorem stopLane_cues (s : State) (l : Fin 4) : (stopLane s l).cues = s.cues :=
  (cutLane_cues _ _ _).trans (unstage_cues _ _)

theorem stopLanes_cues (s : State) : (fours.foldl stopLane s).cues = s.cues :=
  foldl_keeps (P := fun t => t.cues = s.cues) (fun _ _ h => (stopLane_cues _ _).trans h) fours s rfl

theorem runStopAll_cues (s : State) : (runStopAll s).1.cues = s.cues.map (fun e => (e.1, e.2.stopped)) := by
  unfold runStopAll
  dsimp only
  rw [stopLanes_cues]

theorem runStepTime_keeps_cues {s : State} (k : BitVec 32) (hs : cueInvariant s) :
    cueInvariant (runStepTime s k).1 := by
  unfold runStepTime
  dsimp only
  repeat' split
  · exact hs
  · exact hs
  · exact hs
  · exact advanceTo_keeps_cues _ (s := s.setSlew none) hs
  · exact hs

theorem softReset_cues (s : State) : (softReset s).cues = [] := by
  have hm : ∀ u, (resetMemory u).cues = u.cues := by
    intro u
    unfold resetMemory
    split <;> rfl
  unfold softReset resetTimeAndTriggers
  dsimp only
  rw [hm, (StoreOnly.resetStore _).cues]
  rfl

theorem runRequest_keeps_cues {s : State} (seq : Byte) (r : Req) (hr : namesSlot r) (hs : cueInvariant s) :
    cueInvariant (runRequest s seq r).1 := by
  by_cases hst : withinStore r = true
  · exact cueInvariant_congr (runRequest_store s seq r hst).cues hs
  by_cases ht : withinTime r = true
  · exact cueInvariant_congr (runRequest_time s seq r ht).cues hs
  cases r
  case reset =>
    have h : (runRequest s seq .reset).1.cues = [] := softReset_cues _
    unfold cueInvariant
    rw [h]
    exact ⟨rfl, fun e he => absurd he (by simp)⟩
  case noticeAck n => exact cueInvariant_congr (HostOnly.runNoticeAck s n).cues hs
  case memoryInit b =>
    show cueInvariant (runMemoryInit s b).1
    rcases runMemoryInit_cases s b with h | ⟨p, -, -, h⟩
    · rw [h]
      exact hs
    · rw [h]
      exact cueInvariant_congr (s := s) rfl hs
  case fileCue b => exact runFileCue_keeps_cues hr hs
  case armCue id d => exact runArmCue_keeps_cues id d hs
  case cancelCue id => exact runCancelCue_keeps_cues id hs
  case discardCue id => exact runDiscardCue_keeps_cues id hs
  case stopAll => exact mapCues_keeps_cues (runStopAll_cues s) (fun _ => rfl) (fun e he => Cue.stopped_dueFits he) hs
  case stepTime k => exact runStepTime_keeps_cues k hs
  case setLane l b =>
    show cueInvariant (runSetLane s l b).1
    rcases runSetLane_cases s l b with h | ⟨k, config, -, -, h⟩
    · rw [h]
      exact hs
    · rw [h]
      exact pickFor_keeps_cues k (cueInvariant_congr (s := s) rfl hs)
  all_goals exact absurd rfl ‹_›

/-! ### Moves -/

/-- A request that the interpreter runs has passed the format check, and names a slot where it names one. -/
theorem namesSlot_of_formatCheck {body : List Byte} {r : Req} (hr : readBody body = some r)
    (hf : formatCheck body = none) : namesSlot r := by
  unfold namesSlot
  split
  next b =>
    obtain ⟨hcode, rfl⟩ : (byteAt body 0).toNat = 0x30 ∧ b = cueBodyOf body := by
      unfold readBody at hr
      split at hr
      all_goals cases hr
      next h => exact ⟨h, rfl⟩
    have hid : cueIdOk body = true := by
      unfold formatCheck at hf
      repeat' split at hf
      all_goals simp_all
    have hlt : (byteAt body 1).toNat < Config.cueSlots := by simpa [cueIdOk, hcode] using hid
    exact hlt
  · trivial

theorem conclude_keeps_cues (s0 : State) (seq code : Byte) (out : State × Answer) (h : cueInvariant out.1) :
    cueInvariant (conclude s0 seq code out) := by
  unfold conclude
  split
  · exact cueInvariant_congr (HostOnly.endExecution _ _ _ _ _).cues h
  · exact coreTail_keeps_cues _ (cueInvariant_congr (HostOnly.endExecution _ _ _ _ _).cues h)
  · exact coreTail_keeps_cues _ (cueInvariant_congr (s := out.1) rfl h)
  · exact coreTail_keeps_cues _ h

theorem execute_keeps_cues {s : State} (seq : Byte) (body : List Byte) (h : cueInvariant s) :
    cueInvariant (execute s seq body) := by
  unfold execute
  dsimp only
  repeat' split
  · exact cueInvariant_congr (HostOnly.endExecution _ _ _ _ _).cues h
  · exact cueInvariant_congr (HostOnly.endExecution _ _ _ _ _).cues h
  next r hr _ _ hf => exact conclude_keeps_cues _ _ _ _ (runRequest_keeps_cues _ _ (namesSlot_of_formatCheck hr hf) h)
  · exact cueInvariant_congr (HostOnly.endExecution _ _ _ _ _).cues h

theorem move_keeps_cues (s t : State) (hm : Move s t) (h : cueInvariant s) : cueInvariant t := by
  cases hm
  case begin => exact cueInvariant_congr (HostOnly.txBegin s).cues h
  case event u s0 hu => exact coreTail_keeps_cues s0 (effect_keeps_cues hu h)
  case grant => exact cueInvariant_congr (PortOnly.arbitrate s).cues h
  case take e q _ _ _ => exact execute_keeps_cues _ _ (cueInvariant_congr (s := s) rfl h)
  case sort seq body => exact cueInvariant_congr (HostOnly.sortRequest s _ _).cues h
  case sync seq => exact cueInvariant_congr (HostOnly.handleSync s _).cues h
  case deferred => exact cueInvariant_congr (HostOnly.syncDeferred s).cues h
  case sent => exact cueInvariant_congr (HostOnly.txEnd s).cues h
  case offer | framer | lineOn | resend | period | level => exact cueInvariant_congr (s := s) rfl h
  case resetBegin | resetEnd => exact ⟨rfl, fun e he => absurd he List.not_mem_nil⟩

/-- Settles O58: every move keeps the cue table in order. -/
theorem cueTableKept : Obligations.CueTableKept := by
  unfold Obligations.CueTableKept
  exact fun s t hs h => step_keeps move_keeps_cues (fun s _ h => cueInvariant_congr (s := s) rfl h) hs h

end Sys2Proof.Machine
end

section
/-!
PROOFS. The memory controller, operation by operation (O55): a request placed by a requester that has none, a request
given up, a grant, and the end of each operation of the port keep the bring-up, the scheduler and the requests in order.
-/

namespace Sys2Proof.Machine

/-! ### What the three invariants read -/

theorem bringUpInvariant_congr {s t : State} (hd : t.device = s.device) (hp : t.mc.profile = s.mc.profile)
    (hb : t.mc.bringUp = s.mc.bringUp)
    (hport : ∀ c, t.mc.port = some (.bringUp c false) → s.mc.port = some (.bringUp c false))
    (hs : bringUpInvariant s) : bringUpInvariant t := by
  unfold bringUpInvariant at *
  rw [hd, hp, hb]
  obtain ⟨h1, h2, h3, h4⟩ := hs
  exact ⟨h1, h2, h3, fun c hc => h4 c (hport c hc)⟩

theorem debtLimit_congr {s t : State} (hp : t.mc.profile = s.mc.profile) : debtLimit t = debtLimit s := by
  unfold debtLimit
  rw [hp]

theorem refreshInvariant_congr {s t : State} (hd : t.device = s.device) (hp : t.mc.profile = s.mc.profile)
    (hr : t.refresh = s.refresh)
    (hport : (∃ step, t.mc.port = some (.refresh step)) ↔ ∃ step, s.mc.port = some (.refresh step))
    (hs : refreshInvariant s) : refreshInvariant t := by
  unfold refreshInvariant at *
  rw [hd, hr, debtLimit_congr hp, hport]
  exact hs

theorem inFlight_congr {s t : State} (h : t.mc.port = s.mc.port) (r : Requester) : inFlight t r = inFlight s r := by
  unfold inFlight
  rw [h]

theorem requestOf_congr {s t : State} (h : t.mc = s.mc) (r : Requester) : requestOf t r = requestOf s r := by
  cases r <;> simp only [requestOf, h]

/-- What the invariant of the port asks of the transaction that holds it. -/
def transactionInOrder (s : State) (t : Transaction) : Prop :=
  spanFits t.pos t.size
    ∧ (t.phase = .column ∨ t.phase = .closing → t.withdrawn = false ∧ s.mc.banks.get t.bank = some t.row)

theorem portInvariant_iff (s : State) :
    portInvariant s ↔ (∀ r q, requestOf s r = some q → spanFits q.pos q.size ∧ inFlight s r = false)
      ∧ ∀ t, s.mc.port = some (.transaction t) → transactionInOrder s t := Iff.rfl

/-- Where no transaction holds the port, only the waiting requests bear on the invariant. -/
theorem portInvariant_of_noTransaction {s t : State} (hreq : ∀ r q, requestOf t r = some q → requestOf s r = some q)
    (hport : ∀ x, t.mc.port ≠ some (.transaction x)) (hs : portInvariant s) : portInvariant t := by
  refine ⟨fun r q hq => ⟨(hs.1 r q (hreq r q hq)).1, ?_⟩, fun x hx => absurd hx (hport x)⟩
  unfold inFlight
  split
  next x hx => exact absurd hx (hport x)
  · rfl

theorem controllerInvariant_congr {s t : State} (hd : t.device = s.device) (hm : t.mc = s.mc)
    (hr : t.refresh = s.refresh) (hc : t.store.chunks.length ≤ s.store.chunks.length)
    (hs : controllerInvariant s) : controllerInvariant t := by
  obtain ⟨h1, h2, ⟨h3, h4⟩, h5⟩ := hs
  refine ⟨bringUpInvariant_congr hd (by rw [hm]) (by rw [hm]) (fun c hc => by rw [← hm]; exact hc) h1,
    refreshInvariant_congr hd (by rw [hm]) hr (by rw [hm]) h2, ⟨fun r q hq => ?_, fun x hx => ?_⟩,
    Nat.le_trans hc h5⟩
  · rw [inFlight_congr (s := s) (by rw [hm])]
    exact h3 r q (requestOf_congr hm r ▸ hq)
  · rw [hm] at hx ⊢
    exact h4 x hx

/-! ### Requests -/

/-- A request for bytes that are left moves 1 to 256 bytes of one block. -/
theorem requestAt_fits {blocks : List Nat} {pos left : Nat} {q : MemRequest} (h : requestAt blocks pos left = some q)
    (hleft : 0 < left) : spanFits q.pos q.size := by
  unfold requestAt at h
  split at h
  · cases h
    have hmod : pos % Config.blockBytes < Config.blockBytes := Nat.mod_lt _ (by decide)
    have hblock : Config.blockBytes = 2048 := rfl
    have hmax : Config.maxTransfer = 256 := rfl
    unfold spanFits transferSize
    dsimp only
    omega
  · cases h

theorem requestOf_placeRequest (s : State) (r r' : Requester) (q : MemRequest) :
    requestOf (placeRequest s r q) r' = if r' = r then some q else requestOf s r' := by
  cases r <;> cases r' <;> simp only [placeRequest, requestOf, reduceCtorEq, if_false, if_true]
  next l m =>
    by_cases h : m = l
    · subst h
      simp
    · simp [h, quad_get_set_ne]

theorem requestOf_dropRequest (s : State) (r r' : Requester) :
    requestOf (dropRequest s r) r' = if r' = r then none else requestOf s r' := by
  cases r <;> cases r' <;> simp only [dropRequest, requestOf, reduceCtorEq, if_false, if_true]
  next l m =>
    by_cases h : m = l
    · subst h
      simp
    · simp [h, quad_get_set_ne]

/-- Placing or dropping a request leaves the rest of the memory controller alone. -/
theorem placeRequest_mc (s : State) (r : Requester) (q : MemRequest) :
    (placeRequest s r q).mc.profile = s.mc.profile ∧ (placeRequest s r q).mc.bringUp = s.mc.bringUp
      ∧ (placeRequest s r q).mc.port = s.mc.port ∧ (placeRequest s r q).mc.banks = s.mc.banks
      ∧ (placeRequest s r q).refresh = s.refresh := by
  cases r <;> exact ⟨rfl, rfl, rfl, rfl, rfl⟩

theorem dropRequest_mc (s : State) (r : Requester) :
    (dropRequest s r).mc.profile = s.mc.profile ∧ (dropRequest s r).mc.bringUp = s.mc.bringUp
      ∧ (dropRequest s r).mc.port = s.mc.port ∧ (dropRequest s r).mc.banks = s.mc.banks
      ∧ (dropRequest s r).refresh = s.refresh := by
  cases r <;> exact ⟨rfl, rfl, rfl, rfl, rfl⟩

theorem inFlight_of_outstanding {s : State} {r : Requester} (h : outstanding s r = false) : inFlight s r = false := by
  cases r <;> simp_all [outstanding]

/-- A request placed by a requester that has none outstanding keeps the controller in order. -/
theorem placeRequest_keeps_controller {s : State} {r : Requester} {q : MemRequest} (hout : outstanding s r = false)
    (hq : spanFits q.pos q.size) (hs : controllerInvariant s) : controllerInvariant (placeRequest s r q) := by
  obtain ⟨hprof, hbring, hport, hbanks, href⟩ := placeRequest_mc s r q
  have hdev := (PortOnly.placeRequest s r q).core.device
  obtain ⟨h1, h2, ⟨h3, h4⟩, h5⟩ := hs
  refine ⟨bringUpInvariant_congr hdev hprof hbring (fun c hc => hport ▸ hc) h1,
    refreshInvariant_congr hdev hprof href (by rw [hport]) h2, ⟨fun r' q' hq' => ?_, fun x hx => ?_⟩, ?_⟩
  · rw [inFlight_congr hport]
    rw [requestOf_placeRequest] at hq'
    split at hq'
    next h =>
      cases hq'
      exact ⟨hq, h ▸ inFlight_of_outstanding hout⟩
    next h => exact h3 r' q' hq'
  · rw [hbanks]
    exact h4 x (hport ▸ hx)
  · rw [(PortOnly.placeRequest s r q).store]
    exact h5

/-- The operation on the port after its requester has given up. -/
def PortOp.givenUp (r : Requester) : PortOp → PortOp
  | .transaction t => .transaction (t.withdrawFor r)
  | op => op

theorem givenUp_eq_transaction {r : Requester} {op : PortOp} {t : Transaction}
    (h : op.givenUp r = .transaction t) : ∃ u, op = .transaction u ∧ t = u.withdrawFor r := by
  cases op
  case transaction u =>
    cases h
    exact ⟨u, rfl, rfl⟩
  all_goals cases h

/-- What the request given up leaves on the port. -/
theorem giveUpRequest_port (s : State) (r : Requester) :
    (giveUpRequest s r).mc.port = s.mc.port.map (PortOp.givenUp r) := by
  obtain ⟨-, -, hport, -, -⟩ := dropRequest_mc s r
  rw [← hport]
  unfold giveUpRequest
  dsimp only
  split
  next t ht => rw [ht]; rfl
  next hno =>
    cases hp : (dropRequest s r).mc.port with
    | none => rfl
    | some op =>
      cases op
      case transaction t => exact absurd hp (hno t)
      all_goals rfl

theorem giveUpRequest_mc (s : State) (r : Requester) :
    (giveUpRequest s r).mc.profile = s.mc.profile ∧ (giveUpRequest s r).mc.bringUp = s.mc.bringUp
      ∧ (giveUpRequest s r).mc.banks = s.mc.banks ∧ (giveUpRequest s r).refresh = s.refresh := by
  obtain ⟨h1, h2, -, h4, h5⟩ := dropRequest_mc s r
  unfold giveUpRequest
  dsimp only
  split <;> exact ⟨h1, h2, h4, h5⟩

theorem requestOf_giveUpRequest (s : State) (r r' : Requester) :
    requestOf (giveUpRequest s r) r' = if r' = r then none else requestOf s r' := by
  rw [← requestOf_dropRequest]
  unfold giveUpRequest
  dsimp only
  split <;> cases r' <;> rfl

/-- What giving a request up does to the transaction on the port: its place and phase stay, and in a later phase than
the row phase it stays as it is. -/
theorem withdrawFor_spec (t : Transaction) (r : Requester) :
    (t.withdrawFor r).requester = t.requester ∧ (t.withdrawFor r).phase = t.phase
      ∧ (t.withdrawFor r).pos = t.pos ∧ (t.withdrawFor r).size = t.size
      ∧ (t.withdrawn = true → (t.withdrawFor r).withdrawn = true)
      ∧ (t.phase = .column ∨ t.phase = .closing → t.withdrawFor r = t) := by
  unfold Transaction.withdrawFor
  split
  next c hrow =>
    have hlater : ¬ (t.phase = .column ∨ t.phase = .closing) := by simp [hrow]
    split
    · exact ⟨rfl, rfl, rfl, rfl, fun _ => rfl, fun h => absurd h hlater⟩
    · exact ⟨rfl, rfl, rfl, rfl, id, fun _ => rfl⟩
  · exact ⟨rfl, rfl, rfl, rfl, id, fun _ => rfl⟩

/-- Giving a request up sets no request in flight. -/
theorem inFlight_giveUpRequest {s : State} {r r' : Requester} (h : inFlight s r' = false) :
    inFlight (giveUpRequest s r) r' = false := by
  unfold inFlight at *
  rw [giveUpRequest_port]
  split
  next x hx =>
    obtain ⟨op, hop, hx'⟩ := Option.map_eq_some_iff.1 hx
    obtain ⟨t, rfl, rfl⟩ := givenUp_eq_transaction hx'
    obtain ⟨hreq, hphase, -, -, hw, -⟩ := withdrawFor_spec t r
    simp only [hop, Bool.and_eq_false_iff, Bool.not_eq_false'] at h
    simp only [hreq, hphase, Bool.and_eq_false_iff, Bool.not_eq_false']
    exact h.imp_left (Or.imp_right hw)
  · rfl

theorem giveUpRequest_keeps_controller {s : State} (r : Requester) (hs : controllerInvariant s) :
    controllerInvariant (giveUpRequest s r) := by
  obtain ⟨hprof, hbring, hbanks, href⟩ := giveUpRequest_mc s r
  have hdev := (PortOnly.giveUpRequest s r).core.device
  have hport := giveUpRequest_port s r
  obtain ⟨h1, h2, ⟨h3, h4⟩, h5⟩ := hs
  refine ⟨bringUpInvariant_congr hdev hprof hbring (fun c hc => ?_) h1,
    refreshInvariant_congr hdev hprof href ?_ h2, ⟨fun r' q hq => ?_, fun x hx => ?_⟩, ?_⟩
  · rw [hport] at hc
    obtain ⟨op, hop, hc'⟩ := Option.map_eq_some_iff.1 hc
    cases op <;> cases hc'
    exact hop
  · rw [hport]
    cases s.mc.port with
    | none => exact Iff.rfl
    | some op => cases op <;> simp [PortOp.givenUp]
  · rw [requestOf_giveUpRequest] at hq
    split at hq
    · cases hq
    · obtain ⟨hfit, hfl⟩ := h3 r' q hq
      exact ⟨hfit, inFlight_giveUpRequest hfl⟩
  · rw [hport] at hx
    obtain ⟨op, hop, hx'⟩ := Option.map_eq_some_iff.1 hx
    obtain ⟨t, rfl, rfl⟩ := givenUp_eq_transaction hx'
    obtain ⟨-, hphase, hpos, hsize, -, hlater⟩ := withdrawFor_spec t r
    obtain ⟨hfit, hrow⟩ := h4 t hop
    refine ⟨by rw [hpos, hsize]; exact hfit, fun hp => ?_⟩
    rw [hphase] at hp
    rw [hlater hp, hbanks]
    exact hrow hp
  · rw [(PortOnly.giveUpRequest s r).store]
    exact h5

/-! ### The grant -/

/-- A refresh takes the free port. -/
theorem beginRefresh_keeps_controller {s : State} (hw : s.refresh.request = .waiting)
    (hs : controllerInvariant s) : controllerInvariant (beginRefresh s) := by
  obtain ⟨h1, h2, h3, h4⟩ := hs
  obtain ⟨step, n, ht⟩ : ∃ step n, beginRefresh s
      = State.occupyPort { s with refresh := { s.refresh with request := .inFlight } } (.refresh step) n := by
    unfold beginRefresh
    dsimp only
    split
    · exact ⟨_, _, rfl⟩
    · exact ⟨_, _, rfl⟩
  rw [ht]
  refine ⟨bringUpInvariant_congr (s := s) rfl rfl rfl (fun c hc => nomatch hc) h1, ⟨fun hd => ?_, fun hd => ?_⟩,
    portInvariant_of_noTransaction (fun r q hq => ?_) (fun x hx => nomatch hx) h3, h4⟩
  · have hrest := h2.1 hd
    rw [hrest] at hw
    cases hw
  · obtain ⟨hdebt, hstop, hpause, -, -⟩ := h2.2 hd
    exact ⟨hdebt, hstop, hpause, fun _ => nofun, fun _ => ⟨step, rfl⟩, fun _ => rfl⟩
  · cases r <;> exact hq

/-- A granted read or write takes the free port. -/
theorem beginTransaction_port (s : State) (r : Requester) (q : MemRequest) :
    ∃ t n, beginTransaction s r q = s.occupyPort (.transaction t) n ∧ t.requester = r ∧ t.pos = q.pos
      ∧ t.size = q.size ∧ t.withdrawn = false ∧ t.phase ≠ .closing
      ∧ (t.phase = .column → s.mc.banks.get t.bank = some t.row) := by
  unfold beginTransaction
  dsimp only
  split
  next row hrow =>
    split
    next heq => exact ⟨_, _, rfl, rfl, rfl, rfl, rfl, nofun, fun _ => heq ▸ hrow⟩
    · exact ⟨_, _, rfl, rfl, rfl, rfl, rfl, nofun, nofun⟩
  · exact ⟨_, _, rfl, rfl, rfl, rfl, rfl, nofun, nofun⟩

theorem grantAccess_keeps_controller {s : State} {r : Requester} {q : MemRequest} (hport : s.mc.port = none)
    (hq : requestOf s r = some q) (hs : controllerInvariant s) :
    controllerInvariant (beginTransaction (dropRequest s r) r q) := by
  obtain ⟨h1, h2, ⟨h3, h4⟩, h5⟩ := hs
  obtain ⟨hfit, -⟩ := h3 r q hq
  obtain ⟨hprof, hbring, -, hbanks, href⟩ := dropRequest_mc s r
  obtain ⟨t, n, ht, hreq, hpos, hsize, hwith, hclosing, hcol⟩ := beginTransaction_port (dropRequest s r) r q
  rw [ht]
  have hdev : ((dropRequest s r).occupyPort (.transaction t) n).device = s.device :=
    (PortOnly.dropRequest s r).core.device
  refine ⟨bringUpInvariant_congr hdev hprof hbring (fun c hc => nomatch hc) h1,
    refreshInvariant_congr hdev hprof href ?_ h2, ⟨fun r' q' hq' => ?_, fun x hx => ?_⟩, ?_⟩
  · rw [hport]
    exact ⟨fun ⟨_, h⟩ => (nomatch h), fun ⟨_, h⟩ => (nomatch h)⟩
  · have hq'' : requestOf (dropRequest s r) r' = some q' := by cases r' <;> exact hq'
    rw [requestOf_dropRequest] at hq''
    split at hq''
    · cases hq''
    next hne =>
      refine ⟨(h3 r' q' hq'').1, ?_⟩
      simp [inFlight, hreq, Ne.symm hne]
  · cases hx
    refine ⟨by rw [hpos, hsize]; exact hfit, fun hp => ⟨hwith, ?_⟩⟩
    rcases hp with hp | hp
    · exact hcol hp
    · exact absurd hp hclosing
  · show (dropRequest s r).store.chunks.length ≤ _
    rw [(PortOnly.dropRequest s r).store]
    exact h5

theorem issueBringUp_keeps_controller {s : State} (hd : s.device = .initializing)
    (hs : controllerInvariant s) : controllerInvariant (issueBringUp s) := by
  obtain ⟨⟨h1, h1', h1'', h1'''⟩, h2, h3, h4⟩ := hs
  have issued : ∀ c n b, s.mc.bringUp = some b → b.step = (match c with
      | BringCommand.precharge => BringStep.precharge
      | .refresh => .refresh
      | .modeSet => .modeSet) → controllerInvariant (s.occupyPort (.bringUp c false) n) := by
    intro c n b hb hstep
    refine ⟨⟨h1, h1', h1'', fun c' hc => ?_⟩, ⟨h2.1, fun hr => ?_⟩,
      portInvariant_of_noTransaction (fun r q hq => ?_) (fun x hx => nomatch hx) h3, h4⟩
    · cases hc
      exact ⟨b, hb, hstep⟩
    · exact absurd (hd.symm.trans hr) nofun
    · cases r <;> exact hq
  unfold issueBringUp
  split
  next b hb =>
    split
    · exact ⟨⟨h1, h1', h1'', h1'''⟩, h2, h3, h4⟩
    next hstep => exact issued .precharge _ b hb hstep
    next hstep => exact issued .refresh _ b hb hstep
    next hstep => exact issued .modeSet _ b hb hstep
  · exact ⟨⟨h1, h1', h1'', h1'''⟩, h2, h3, h4⟩

/-- A refresh is granted only while its request waits. -/
theorem chooseGrant_refresh {s : State} (h : chooseGrant s = some .refresh) : s.refresh.request = .waiting := by
  unfold chooseGrant at h
  split at h
  next hf =>
    simp only [refreshForced, Bool.and_eq_true, decide_eq_true_eq] at hf
    exact hf.1
  · repeat' split at h
    all_goals cases h
    next hp =>
      simp only [refreshPostponable, Bool.and_eq_true, decide_eq_true_eq] at hp
      exact hp.1.1.1

theorem arbitrate_keeps_controller {s : State} (hs : controllerInvariant s) : controllerInvariant (arbitrate s) := by
  unfold arbitrate
  split
  · exact hs
  next hport =>
    split
    · split
      next g hg =>
        unfold carryOutGrant
        split
        · exact beginRefresh_keeps_controller (chooseGrant_refresh hg) hs
        · split
          next hq => exact grantAccess_keeps_controller hport hq hs
          · exact hs
      · exact hs
    next hd => exact issueBringUp_keeps_controller hd hs
    · exact hs

/-! ### The ends of operations -/

/-- The port is freed of an operation that is no refresh of the scheduler's own. -/
theorem freePort_keeps_controller {s : State} (hno : ¬ (s.device = .ready ∧ ∃ step, s.mc.port = some (.refresh step)))
    (hs : controllerInvariant s) : controllerInvariant s.freePort := by
  obtain ⟨h1, h2, h3, h4⟩ := hs
  refine ⟨bringUpInvariant_congr (s := s) rfl rfl rfl (fun c hc => nomatch hc) h1, ⟨h2.1, fun hd => ?_⟩,
    portInvariant_of_noTransaction (fun r q hq => by cases r <;> exact hq) (fun x hx => nomatch hx) h3, h4⟩
  obtain ⟨ha, hb, hc, he, hf⟩ := h2.2 hd
  exact ⟨ha, hb, hc, he, fun h => absurd ⟨hd, hf.1 h⟩ hno, fun ⟨_, h⟩ => nomatch h⟩

/-- The bank table may change where no transaction past its row phase holds the port. -/
theorem withBanks_keeps_controller {s : State} (b : Quad (Option Nat))
    (hport : ∀ t, s.mc.port = some (.transaction t) → ¬ (t.phase = .column ∨ t.phase = .closing))
    (hs : controllerInvariant s) : controllerInvariant { s with mc := { s.mc with banks := b } } := by
  obtain ⟨h1, h2, ⟨h3, h3'⟩, h4⟩ := hs
  refine ⟨h1, h2, ⟨fun r q hq => h3 r q (by cases r <;> exact hq), fun t ht => ⟨(h3' t ht).1, fun hp => ?_⟩⟩, h4⟩
  exact absurd hp (hport t ht)

/-- A transaction goes on to another phase. -/
theorem nextPhase_keeps_controller {s : State} {t : Transaction} (p : Phase) (n : Nat)
    (hport : s.mc.port = some (.transaction t)) (hlive : t.phase = .closing → p = .closing)
    (hrow : p = .column ∨ p = .closing → t.withdrawn = false ∧ s.mc.banks.get t.bank = some t.row)
    (hs : controllerInvariant s) : controllerInvariant (s.occupyPort (.transaction { t with phase := p }) n) := by
  obtain ⟨h1, h2, ⟨h3, h3'⟩, h4⟩ := hs
  refine ⟨bringUpInvariant_congr (s := s) rfl rfl rfl (fun c hc => nomatch hc) h1,
    refreshInvariant_congr (s := s) rfl rfl rfl ?_ h2, ⟨fun r q hq => ?_, fun x hx => ?_⟩, h4⟩
  · rw [hport]
    exact ⟨fun ⟨_, h⟩ => (nomatch h), fun ⟨_, h⟩ => (nomatch h)⟩
  · obtain ⟨hfit, hfl⟩ := h3 r q (by cases r <;> exact hq)
    refine ⟨hfit, ?_⟩
    simp only [inFlight, hport, State.occupyPort, Bool.and_eq_false_iff, decide_eq_false_iff_not, not_not] at hfl ⊢
    exact hfl.imp_right hlive
  · cases hx
    exact ⟨(h3' t hport).1, hrow⟩

theorem rowCommandDone_keeps_controller {s : State} (hs : controllerInvariant s) :
    controllerInvariant (rowCommandDone s) := by
  unfold rowCommandDone
  split
  next t ht =>
    have noRefresh : ∀ b, ¬ ((s.setBank t.bank b).device = .ready
        ∧ ∃ step, (s.setBank t.bank b).mc.port = some (.refresh step)) := by
      rintro b ⟨-, step, h⟩
      cases ht.symm.trans h
    have banks : ∀ b c, t.phase = .row c → controllerInvariant (s.setBank t.bank b) := fun b c hc =>
      withBanks_keeps_controller _ (fun u hu => by cases ht.symm.trans hu; simp [hc]) hs
    split
    next hp =>
      unfold afterRowCommand
      split
      · exact freePort_keeps_controller (noRefresh _) (banks _ _ hp)
      · exact nextPhase_keeps_controller _ _ ht (by simp [hp]) (by simp) (banks _ _ hp)
    next hp =>
      unfold afterRowCommand
      split
      · exact freePort_keeps_controller (noRefresh _) (banks _ _ hp)
      next hw =>
        refine nextPhase_keeps_controller _ _ ht (by simp [hp]) (fun _ => ⟨by simpa using hw, ?_⟩) (banks _ _ hp)
        exact quad_get_set_self _ _ _
    · exact hs
  · exact hs

theorem portAfterColumn_keeps_controller {s : State} {t : Transaction} (ht : s.mc.port = some (.transaction t))
    (hp : t.phase = .column) (hs : controllerInvariant s) : controllerInvariant (portAfterColumn s t) := by
  obtain ⟨-, -, ⟨-, hrow⟩, -⟩ := id hs
  unfold portAfterColumn
  split
  · exact nextPhase_keeps_controller _ _ ht (by simp [hp]) (fun _ => (hrow t ht).2 (.inl hp)) hs
  · exact freePort_keeps_controller (by rintro ⟨-, step, h⟩; cases ht.symm.trans h) hs

theorem closingDone_keeps_controller {s : State} (hs : controllerInvariant s) :
    controllerInvariant (closingDone s) := by
  unfold closingDone
  split
  next t ht =>
    split
    · -- the bank is closed and the port freed together, so that no transaction is left to name the bank
      have hfree : controllerInvariant s.freePort :=
        freePort_keeps_controller (by rintro ⟨-, step, h⟩; cases ht.symm.trans h) hs
      exact withBanks_keeps_controller (s := s.freePort) _ (fun u hu => nomatch hu) hfree
    · exact hs
  · exact hs

/-! ### Refresh -/

/-- A READY part has a legal profile, and a debt limit of at least 1. -/
theorem debtLimit_pos {s : State} (hs : bringUpInvariant s) (hd : s.device = .ready) : 1 ≤ debtLimit s := by
  obtain ⟨-, h2, h3, -⟩ := hs
  have hsome := h2.2 (by rw [hd]; exact nofun)
  unfold debtLimit
  cases hp : s.mc.profile with
  | none => rw [hp] at hsome; cases hsome
  | some p =>
    obtain ⟨-, -, hlim, -⟩ := h3 p hp
    exact hlim

/-- The scheduler with its debt, timer and request replaced, a request then placed where a debt has none. -/
theorem placeRefresh_keeps_controller {s : State} (x : Refresh) (hd : s.device = .ready)
    (hdebt : x.debt ≤ debtLimit s) (hstop : x.timer ≠ .stopped) (hpause : x.timer = .paused ↔ x.debt = debtLimit s)
    (hreq : x.request = .inFlight ↔ ∃ step, s.mc.port = some (.refresh step)) (h1 : bringUpInvariant s)
    (h3 : portInvariant s) (h4 : s.store.chunks.length ≤ Config.fillSlots) :
    controllerInvariant (placeRefresh { s with refresh := x }) := by
  have hports : ∀ y, portInvariant { s with refresh := y } := fun y =>
    ⟨fun r q hq => h3.1 r q (by cases r <;> exact hq), h3.2⟩
  unfold placeRefresh
  split
  next hcond =>
    refine ⟨h1, ⟨fun hn => absurd hd hn, fun _ => ⟨hdebt, hstop, hpause, fun _ => nofun, nofun, fun h => ?_⟩⟩,
      hports _, h4⟩
    have habsent : x.request = .absent := hcond.2.1
    rw [hreq.2 h] at habsent
    cases habsent
  next hcond =>
    refine ⟨h1, ⟨fun hn => absurd hd hn, fun _ => ⟨hdebt, hstop, hpause, fun hpos habsent => ?_, hreq⟩⟩, hports _, h4⟩
    exact hcond ⟨hpos, habsent, hd⟩

theorem intervalExpires_keeps_controller {s : State} (hs : controllerInvariant s) :
    controllerInvariant (intervalExpires s) := by
  unfold intervalExpires
  split
  next hcond =>
    obtain ⟨h1, h2, h3, h4⟩ := hs
    obtain ⟨hruns, hlt⟩ := hcond
    have hd : s.device = .ready := by
      by_contra hn
      rw [timerRuns, h2.1 hn] at hruns
      cases hruns
    obtain ⟨-, -, -, -, hfl⟩ := h2.2 hd
    refine placeRefresh_keeps_controller _ hd hlt ?_ ?_ hfl h1 h3 h4
    · dsimp only
      split <;> exact nofun
    · dsimp only
      split
      next hless => exact ⟨nofun, fun h => absurd h (Nat.ne_of_lt hless)⟩
      next hmore => exact ⟨fun _ => Nat.le_antisymm hlt (Nat.le_of_not_lt hmore), fun _ => rfl⟩
  · exact hs

theorem refreshPrecharged_keeps_controller {s : State} (hs : controllerInvariant s) :
    controllerInvariant (refreshPrecharged s) := by
  unfold refreshPrecharged
  split
  next hport =>
    obtain ⟨h1, h2, h3, h4⟩ := hs
    refine ⟨bringUpInvariant_congr (s := s) rfl rfl rfl (fun c hc => nomatch hc) h1,
      refreshInvariant_congr (s := s) rfl rfl rfl ⟨fun _ => ⟨_, hport⟩, fun _ => ⟨_, rfl⟩⟩ h2,
      portInvariant_of_noTransaction (fun r q hq => by cases r <;> exact hq) (fun x hx => nomatch hx) h3, h4⟩
  · exact hs

theorem refreshDone_keeps_controller {s : State} (hs : controllerInvariant s) :
    controllerInvariant (refreshDone s) := by
  unfold refreshDone
  split
  next hport =>
    obtain ⟨h1, h2, h3, h4⟩ := hs
    have h1' : bringUpInvariant s.freePort := bringUpInvariant_congr (s := s) rfl rfl rfl (fun c hc => nomatch hc) h1
    have h3' : portInvariant s.freePort :=
      portInvariant_of_noTransaction (fun r q hq => by cases r <;> exact hq) (fun x hx => nomatch hx) h3
    by_cases hd : s.device = .ready
    · obtain ⟨hdebt, hstop, hpause, -, hfl⟩ := h2.2 hd
      have hin : s.freePort.refresh.request = .inFlight := hfl.2 ⟨_, hport⟩
      have hpos := debtLimit_pos h1 hd
      have hlimit : debtLimit s.freePort = debtLimit s := rfl
      rw [repayRefresh, if_pos hin]
      have hdebt' : s.freePort.refresh.debt ≤ debtLimit s := hdebt
      have hpause' : s.freePort.refresh.timer = .paused ↔ s.freePort.refresh.debt = debtLimit s := hpause
      refine placeRefresh_keeps_controller _ hd ?_ ?_ ?_ ⟨nofun, fun ⟨_, h⟩ => nomatch h⟩ h1' h3' h4
      · dsimp only
        omega
      · dsimp only
        split
        · exact nofun
        · exact hstop
      · dsimp only
        rw [hlimit]
        split
        next hp =>
          have := hpause'.1 hp
          exact ⟨nofun, fun h => by omega⟩
        next hp =>
          refine ⟨fun h => absurd h hp, fun h => absurd ?_ hp⟩
          exact hpause'.2 (by omega)
    · have habsent : s.refresh.request = .absent := by rw [h2.1 hd]
      have hno : ¬ s.freePort.refresh.request = .inFlight := by
        rw [State.freePort_refresh, habsent]
        exact nofun
      rw [repayRefresh, if_neg hno]
      exact freePort_keeps_controller (fun h => hd h.1) ⟨h1, h2, h3, h4⟩
  · exact hs

/-! ### Bring-up -/

/-- The port carries no command of a bring-up that goes on where its step is another one's. -/
theorem noCommand_of_wait {s : State} {b : BringUp} (h1 : bringUpInvariant s) (hb : s.mc.bringUp = some b)
    (hw : b.step = .wait) (c : BringCommand) : s.mc.port ≠ some (.bringUp c false) := by
  intro hc
  obtain ⟨-, -, -, hcommand⟩ := h1
  obtain ⟨b', hb', hstep⟩ := hcommand c hc
  cases hb.symm.trans hb'
  rw [hw] at hstep
  cases c <;> cases hstep

/-- The bring-up goes on to another step where the port carries no command of it. -/
theorem setStep_keeps_controller {s : State} {b : BringUp} (b' : BringUp) (step : BringStep)
    (hb : s.mc.bringUp = some b) (hport : ∀ c, s.mc.port ≠ some (.bringUp c false)) (hs : controllerInvariant s) :
    controllerInvariant (setStep s b' step) := by
  obtain ⟨⟨h1, h1', h1'', -⟩, h2, h3, h4⟩ := hs
  refine ⟨⟨?_, h1', h1'', fun c hc => absurd hc (hport c)⟩, h2,
    ⟨fun r q hq => h3.1 r q (by cases r <;> exact hq), h3.2⟩, h4⟩
  exact ⟨fun _ => h1.1 (by rw [hb]; rfl), fun _ => rfl⟩

theorem waitEnds_keeps_controller {s : State} (hs : controllerInvariant s) : controllerInvariant (waitEnds s) := by
  unfold waitEnds
  split
  next b hb =>
    split
    next hw =>
      simp only [waitOver, hb, Bool.and_eq_true, decide_eq_true_eq] at hw
      exact setStep_keeps_controller b _ hb (noCommand_of_wait hs.1 hb hw.1) hs
    · exact hs
  · exact hs

theorem bringUpPrecharged_keeps_controller {s : State} (hs : controllerInvariant s) :
    controllerInvariant (bringUpPrecharged s) := by
  unfold bringUpPrecharged
  split
  next abandoned hport =>
    have hfree : controllerInvariant s.closeBanks.freePort :=
      freePort_keeps_controller (by rintro ⟨-, step, h⟩; cases hport.symm.trans h)
        (withBanks_keeps_controller _ (fun u hu => by cases hport.symm.trans hu) hs)
    dsimp only
    split
    next b hb =>
      split
      · exact hfree
      · exact setStep_keeps_controller b _ hb (fun c hc => nomatch hc) hfree
    · exact hfree
  · exact hs

theorem bringUpRefreshed_keeps_controller {s : State} (hs : controllerInvariant s) :
    controllerInvariant (bringUpRefreshed s) := by
  unfold bringUpRefreshed
  split
  next abandoned hport =>
    have hfree : controllerInvariant s.freePort :=
      freePort_keeps_controller (by rintro ⟨-, step, h⟩; cases hport.symm.trans h) hs
    dsimp only
    split
    next b p hb hp =>
      split
      · exact hfree
      · exact setStep_keeps_controller _ _ hb (fun c hc => nomatch hc) hfree
    · exact hfree
  · exact hs

theorem modeSetDone_keeps_controller {s : State} (hs : controllerInvariant s) :
    controllerInvariant (modeSetDone s) := by
  unfold modeSetDone
  split
  next abandoned hport =>
    have hfree : controllerInvariant s.freePort :=
      freePort_keeps_controller (by rintro ⟨-, step, h⟩; cases hport.symm.trans h) hs
    dsimp only
    split
    next b p hb hp =>
      split
      · exact hfree
      · obtain ⟨⟨h1, h1', h1'', h1'''⟩, h2, h3, h4⟩ := hfree
        have hlim : 1 ≤ p.debtLimit := (h1'' p hp).2.2.1
        have hlimit : debtLimit (finishBringUp s.freePort p) = p.debtLimit := by
          have hp' : s.mc.profile = some p := hp
          simp [debtLimit, finishBringUp, hp']
        refine ⟨⟨⟨nofun, nofun⟩, ⟨fun _ => nofun, fun _ => congrArg Option.isSome hp⟩, h1'',
          fun c hc => nomatch hc⟩, ⟨fun hn => absurd rfl hn, fun _ => ⟨Nat.zero_le _, nofun, ?_, ?_, ?_⟩⟩,
          portInvariant_of_noTransaction (fun r q hq => by cases r <;> exact hq) (fun x hx => nomatch hx) h3,
          Nat.zero_le _⟩
        · rw [hlimit]
          exact ⟨nofun, fun h => absurd h.symm (Nat.ne_of_gt hlim)⟩
        · exact fun h => absurd h (Nat.lt_irrefl 0)
        · exact ⟨nofun, fun ⟨_, h⟩ => nomatch h⟩
    · exact hfree
  · exact hs

end Sys2Proof.Machine
end

section
/-!
PROOFS. Every step keeps the SDRAM contents, the stamp rings, the time base and the memory controller in order (O55):
the lanes and the store bear on the controller through the requests they place and give up alone.
-/

namespace Sys2Proof.Machine

/-! ### Lanes -/

/-- Where the cues, the lanes and the directory alone differ, the controller is in order. -/
theorem placeLaneRead_keeps_controller {s : State} (l : Fin 4) (hs : controllerInvariant s) :
    controllerInvariant (placeLaneRead s l) := by
  unfold placeLaneRead
  split
  next q hq =>
    unfold laneRequest at hq
    dsimp only at hq
    repeat' split at hq
    next hcond =>
      simp only [Bool.and_eq_true, Bool.not_eq_true', decide_eq_true_eq] at hcond
      obtain ⟨⟨⟨-, hout⟩, hleft⟩, -⟩ := hcond
      exact placeRequest_keeps_controller hout (requestAt_fits hq hleft) hs
    all_goals cases hq
  · exact hs

theorem setLane_keeps_controller {s : State} (l : Fin 4) (x : Lane) (hs : controllerInvariant s) :
    controllerInvariant (s.setLane l x) :=
  controllerInvariant_congr (s := s) rfl rfl rfl (Nat.le_refl _) hs

theorem dropRef_chunks (s : State) (id : Nat) : (s.dropRef id).store.chunks = s.store.chunks := by
  unfold State.dropRef
  split <;> rfl

theorem AfterOccurrence.chunks {s t : State} {id : Nat} {c : Cue} (h : AfterOccurrence s id c t) :
    t.store.chunks = s.store.chunks := by
  rcases h.table with ⟨-, -, -, -, hst⟩ | ⟨-, -, -, -, hst⟩ | ⟨-, hst⟩
  · rw [hst]
  · rw [hst, dropRef_chunks]
  · rw [hst, dropRef_chunks]

theorem AfterOccurrence.keeps_controller {s t : State} {id : Nat} {c : Cue} (h : AfterOccurrence s id c t)
    (hs : controllerInvariant s) : controllerInvariant t :=
  controllerInvariant_congr h.core.device h.mc h.refresh (by rw [h.chunks]) hs

theorem markMismatch_keeps_controller {s : State} (p : Nat) (hs : controllerInvariant s) :
    controllerInvariant (markMismatch s p) := by
  unfold markMismatch
  split
  · exact controllerInvariant_congr (s := s) rfl rfl rfl (Nat.le_refl _) hs
  · exact hs

theorem completeRelease_keeps_controller {s : State} (l : Fin 4) (hs : controllerInvariant s) :
    controllerInvariant (completeRelease s l) := by
  unfold completeRelease
  dsimp only
  split
  next h _ =>
    have hm : controllerInvariant
        (if checkFaultFlag h.check (s.lane l).verify = true then markMismatch s h.payload else s) := by
      split
      · exact markMismatch_keeps_controller _ hs
      · exact hs
    split
    · exact (endReleased_after _ _ _ _ _ _ _).keeps_controller (setLane_keeps_controller l _ hm)
    · exact setLane_keeps_controller l _ hm
  · exact hs

theorem departByte_keeps_controller {s : State} (l : Fin 4) (hs : controllerInvariant s) :
    controllerInvariant (departByte s l) := by
  unfold departByte
  dsimp only
  repeat' split
  · exact completeRelease_keeps_controller l (setLane_keeps_controller l _ hs)
  · exact placeLaneRead_keeps_controller l (setLane_keeps_controller l _ hs)
  · exact hs

theorem tryStart_keeps_controller {s : State} (l : Fin 4) (hs : controllerInvariant s) :
    controllerInvariant (tryStart s l) := by
  unfold tryStart startRelease
  dsimp only
  repeat' split
  · exact departByte_keeps_controller l (controllerInvariant_congr (s := s) rfl rfl rfl (Nat.le_refl _) hs)
  · exact departByte_keeps_controller l (controllerInvariant_congr (s := s) rfl rfl rfl (Nat.le_refl _) hs)
  all_goals exact hs

theorem unstage_keeps_controller {s : State} (l : Fin 4) (hs : controllerInvariant s) :
    controllerInvariant (unstage s l) := by
  unfold unstage
  dsimp only
  split
  · exact giveUpRequest_keeps_controller _ (setLane_keeps_controller l _ hs)
  · exact hs

theorem cutLane_keeps_controller {s : State} (l : Fin 4) (c : CutCause) (hs : controllerInvariant s) :
    controllerInvariant (cutLane s l c) := by
  unfold cutLane
  dsimp only
  split
  · exact giveUpRequest_keeps_controller _ (setLane_keeps_controller l _ hs)
  · exact hs

theorem endFlush_keeps_controller {s : State} (l : Fin 4) (hs : controllerInvariant s) :
    controllerInvariant (endFlush s l) := by
  unfold endFlush
  split
  · unfold reportCut
    repeat' split
    · exact (endReleased_after _ _ _ _ _ _ _).keeps_controller (setLane_keeps_controller l _ hs)
    all_goals exact setLane_keeps_controller l _ hs
  · exact hs

theorem setCue_keeps_controller {s : State} (id : Nat) (c : Cue) (hs : controllerInvariant s) :
    controllerInvariant (s.setCue id c) :=
  controllerInvariant_congr (s := s) rfl rfl rfl (Nat.le_refl _) hs

theorem pickFor_keeps_controller {s : State} (l : Fin 4) (hs : controllerInvariant s) :
    controllerInvariant (pickFor s l) := by
  unfold pickFor pickCue
  dsimp only
  repeat' split
  · exact placeLaneRead_keeps_controller l (controllerInvariant_congr (s := s) rfl rfl rfl (Nat.le_refl _) hs)
  all_goals exact hs

theorem restage_keeps_controller (s0 : State) {s : State} (l : Fin 4) (hs : controllerInvariant s) :
    controllerInvariant (restage s0 s l) := by
  unfold restage giveBack
  dsimp only
  repeat' split
  · exact unstage_keeps_controller l (setCue_keeps_controller _ _ hs)
  · exact unstage_keeps_controller l (setCue_keeps_controller _ _ hs)
  all_goals exact hs

theorem settleLane_keeps_controller (s0 : State) {s : State} (l : Fin 4) (hs : controllerInvariant s) :
    controllerInvariant (settleLane s0 s l) :=
  pickFor_keeps_controller l
    (endFlush_keeps_controller l (restage_keeps_controller s0 l (endFlush_keeps_controller l hs)))

theorem settleLanes_keeps_controller (s0 : State) {s : State} (hs : controllerInvariant s) :
    controllerInvariant (settleLanes s0 s) :=
  foldl_keeps (fun _ l h => settleLane_keeps_controller s0 l h) fours s hs

theorem resolveSlot_keeps_controller {s : State} (l : Fin 4) (hs : controllerInvariant s) :
    controllerInvariant (resolveSlot s l) := by
  unfold resolveSlot
  split
  · exact cutLane_keeps_controller l _ hs
  · exact departByte_keeps_controller l hs

theorem takeSlot_keeps_controller {s : State} (l : Fin 4) (hs : controllerInvariant s) :
    controllerInvariant (takeSlot s l) := by
  unfold takeSlot
  dsimp only
  repeat' split
  · exact setLane_keeps_controller l _ hs
  · exact resolveSlot_keeps_controller l hs
  · exact hs

theorem holdOn_keeps_controller {s : State} (l : Fin 4) (hs : controllerInvariant s) :
    controllerInvariant (holdOn s l) := by
  unfold holdOn
  dsimp only
  split
  · exact hs
  · exact setLane_keeps_controller l _ hs

theorem holdOff_keeps_controller {s : State} (l : Fin 4) (hs : controllerInvariant s) :
    controllerInvariant (holdOff s l) := by
  unfold holdOff
  dsimp only
  split
  · exact resolveSlot_keeps_controller l (setLane_keeps_controller l _ hs)
  · exact tryStart_keeps_controller l (setLane_keeps_controller l _ hs)

theorem deliverLane_keeps_controller {s : State} (l : Fin 4) (bytes : List Byte) (hs : controllerInvariant s) :
    controllerInvariant (deliverLane s l bytes) := by
  unfold deliverLane
  dsimp only
  repeat' split
  · exact placeLaneRead_keeps_controller l (tryStart_keeps_controller l (setLane_keeps_controller l _ hs))
  all_goals exact hs

/-! ### Time -/

theorem reachDue_keeps_controller {s : State} (id : Nat) (hs : controllerInvariant s) :
    controllerInvariant (reachDue s id) := by
  unfold reachDue
  dsimp only
  repeat' split
  · exact (endSkipped_after _ _ _ _).keeps_controller hs
  · exact (endSkipped_after _ _ _ _).keeps_controller hs
  · exact setCue_keeps_controller _ _ hs
  all_goals exact hs

theorem expireCue_keeps_controller {s : State} (id : Nat) (hs : controllerInvariant s) :
    controllerInvariant (expireCue s id) := by
  unfold expireCue
  repeat' split
  · exact (endSkipped_after _ _ _ _).keeps_controller (unstage_keeps_controller _ hs)
  · exact (endSkipped_after _ _ _ _).keeps_controller hs
  all_goals exact hs

theorem timeCue_keeps_controller {s : State} (id : Nat) (hs : controllerInvariant s) :
    controllerInvariant (timeCue s id) := by
  unfold timeCue
  repeat' split
  · exact reachDue_keeps_controller id hs
  · exact expireCue_keeps_controller id hs
  · exact hs

theorem forwardChange_keeps_controller {s : State} (hs : controllerInvariant s) :
    controllerInvariant (forwardChange s) :=
  foldl_keeps (fun _ l h => tryStart_keeps_controller l h) _ _
    (foldl_keeps (fun _ id h => timeCue_keeps_controller id h) _ _ hs)

theorem TimeOnly.keeps_controller {s t : State} (h : TimeOnly s t) (hs : controllerInvariant s) :
    controllerInvariant t :=
  controllerInvariant_congr h.device h.mc h.refresh (by rw [h.store]) hs

theorem testEnd_time (s : State) : TimeOnly s (testEnd s) := by
  unfold testEnd
  split <;> rfl

theorem countSlew_time (s : State) (w : Slew) : TimeOnly s (countSlew s w) := by
  unfold countSlew
  dsimp only
  generalize (if 0 < w.remaining then w.remaining - 1 else w.remaining + 1) = r
  split <;> rfl

theorem advanceTo_keeps_controller {s : State} (t : Nat) (hs : controllerInvariant s) :
    controllerInvariant (advanceTo s t) := by
  have hset : controllerInvariant (s.setDevice t) := TimeOnly.keeps_controller (s := s) rfl hs
  unfold advanceTo
  split
  · exact forwardChange_keeps_controller ((testEnd_time _).keeps_controller hset)
  · exact hset

theorem tickTime_keeps_controller {s : State} (hs : controllerInvariant s) : controllerInvariant (tickTime s) := by
  have h0 : controllerInvariant (countElapsed s) := TimeOnly.keeps_controller (s := s) rfl hs
  unfold tickTime tickDevice adjustTime
  dsimp only
  repeat' split
  · exact h0
  · exact advanceTo_keeps_controller _ ((countSlew_time _ _).keeps_controller h0)
  · exact (countSlew_time _ _).keeps_controller h0
  · exact advanceTo_keeps_controller _ h0

theorem sampleLine_keeps_controller {s : State} (i : Fin 4) (level : Bool) (hs : controllerInvariant s) :
    controllerInvariant (sampleLine s i level) := by
  unfold sampleLine recordStamp
  dsimp only
  repeat' split
  all_goals exact controllerInvariant_congr (s := s) rfl rfl rfl (Nat.le_refl _) hs

/-! ### The store -/

theorem setChunks_keeps_controller {s : State} (cs : List Chunk) (h : cs.length ≤ Config.fillSlots)
    (hs : controllerInvariant s) : controllerInvariant (s.setChunks cs) := by
  obtain ⟨h1, h2, ⟨h3, h3'⟩, -⟩ := hs
  exact ⟨h1, h2, ⟨fun r q hq => h3 r q (by cases r <;> exact hq), h3'⟩, h⟩

theorem withStore_keeps_controller {s : State} (st : Store) (h : st.chunks = s.store.chunks)
    (hs : controllerInvariant s) : controllerInvariant { s with store := st } :=
  controllerInvariant_congr (s := s) rfl rfl rfl (by rw [h]) hs

theorem dropCue_keeps_controller {s : State} (id : Nat) (hs : controllerInvariant s) :
    controllerInvariant (s.dropCue id) :=
  controllerInvariant_congr (s := s) rfl rfl rfl (Nat.le_refl _) hs

theorem dropRef_keeps_controller {s : State} (id : Nat) (hs : controllerInvariant s) :
    controllerInvariant (s.dropRef id) := by
  unfold State.dropRef
  split
  · exact withStore_keeps_controller _ rfl hs
  · exact hs

theorem freePayload_keeps_controller {s : State} (id : Nat) (hs : controllerInvariant s) :
    controllerInvariant (s.freePayload id) := by
  unfold State.freePayload
  split
  · exact hs
  · exact withStore_keeps_controller _ rfl hs

theorem freeDoomed_keeps_controller {s : State} (hs : controllerInvariant s) : controllerInvariant s.freeDoomed :=
  foldl_keeps (fun _ id h => freePayload_keeps_controller id h) _ s hs

theorem placeFill_keeps_controller {s : State} (hs : controllerInvariant s) : controllerInvariant (placeFill s) := by
  unfold placeFill
  split
  next q hq =>
    unfold fillRequest at hq
    repeat' split at hq
    next c _ _ p _ hcond =>
      simp only [Bool.and_eq_true, Bool.not_eq_true', decide_eq_true_eq] at hcond
      obtain ⟨hleft, hout⟩ := hcond
      exact placeRequest_keeps_controller hout (requestAt_fits hq (Nat.sub_pos_of_lt hleft)) hs
    all_goals cases hq
  · exact hs

theorem takeChunk_keeps_controller {s : State} (p o : Nat) (d : List Byte)
    (hfree : slotFree s = true) (hs : controllerInvariant s) : controllerInvariant (takeChunk s p o d) := by
  have hroom : s.store.chunks.length + 1 ≤ Config.fillSlots := by simpa [slotFree] using hfree
  unfold takeChunk
  split
  next e he =>
    refine placeFill_keeps_controller (setChunks_keeps_controller _ ?_ (withStore_keeps_controller _ rfl hs))
    simpa using hroom
  · exact hs

theorem ackHead_keeps_controller {s : State} (n : Nat) (hs : controllerInvariant s) :
    controllerInvariant (ackHead s n) := by
  obtain ⟨-, -, -, hlen⟩ := id hs
  unfold ackHead
  split
  next c t hc =>
    rw [hc] at hlen
    split
    · exact setChunks_keeps_controller _ (Nat.le_of_succ_le hlen) hs
    · exact setChunks_keeps_controller _ hlen hs
  · exact hs

theorem withoutChunks_length (cs : List Chunk) (p : Nat) (keep : Bool) :
    (withoutChunks cs p keep).length ≤ cs.length := by
  unfold withoutChunks
  split
  · exact Nat.le_refl _
  next c t =>
    have := List.length_filter_le (fun k : Chunk => decide (k.payload ≠ p)) t
    dsimp only
    split
    · exact Nat.le_succ_of_le this
    · exact Nat.succ_le_succ this

theorem withoutChunks_keeps_controller {s : State} (p : Nat) (keep : Bool) (hs : controllerInvariant s) :
    controllerInvariant (s.setChunks (withoutChunks s.store.chunks p keep)) := by
  obtain ⟨-, -, -, hlen⟩ := id hs
  exact setChunks_keeps_controller _ (Nat.le_trans (withoutChunks_length _ _ _) hlen) hs

theorem deleteChunks_keeps_controller {s : State} (p : Nat) (hs : controllerInvariant s) :
    controllerInvariant (deleteChunks s p) := by
  unfold deleteChunks
  repeat' split
  · exact withoutChunks_keeps_controller p true hs
  · have h := withoutChunks_keeps_controller p false (giveUpRequest_keeps_controller .fill hs)
    rw [(PortOnly.giveUpRequest s .fill).store] at h
    exact placeFill_keeps_controller h
  · exact withoutChunks_keeps_controller p false hs

theorem freeLeft_keeps_controller {s : State} (p : Nat) (hs : controllerInvariant s) :
    controllerInvariant (freeLeft s p) := by
  unfold freeLeft
  repeat' split
  · exact freePayload_keeps_controller p (withoutChunks_keeps_controller p false hs)
  all_goals exact hs

theorem fillDone_keeps_controller {s : State} (n : Nat) (hs : controllerInvariant s) :
    controllerInvariant (fillDone s n) := by
  refine placeFill_keeps_controller (withStore_keeps_controller _ rfl ?_)
  exact foldl_keeps (fun _ p h => freeLeft_keeps_controller p h) _ _ (ackHead_keeps_controller n hs)

theorem resetFill_keeps_controller {s : State} (hs : controllerInvariant s) : controllerInvariant (resetFill s) := by
  obtain ⟨-, -, -, hlen⟩ := id hs
  unfold resetFill
  split
  · refine withStore_keeps_controller _ rfl (setChunks_keeps_controller _ ?_ hs)
    exact Nat.le_trans (List.length_take_le _ _) (by decide)
  · refine withStore_keeps_controller _ rfl (foldl_keeps (fun _ id h => freePayload_keeps_controller id h) _ _ ?_)
    exact setChunks_keeps_controller _ (Nat.zero_le _) (giveUpRequest_keeps_controller _ hs)

theorem resetStore_keeps_controller {s : State} (hs : controllerInvariant s) : controllerInvariant (resetStore s) :=
  resetFill_keeps_controller (freeDoomed_keeps_controller (withStore_keeps_controller _ rfl hs))

/-! ### The end of an event -/

theorem HostOnly.keeps_controller {s t : State} (h : HostOnly s t) (hs : controllerInvariant s) :
    controllerInvariant t :=
  controllerInvariant_congr h.device h.mc h.refresh (by rw [h.store]) hs

theorem endExecution_keeps_controller {s : State} (seq code : Byte) (st : Status) (r : List Byte)
    (hs : controllerInvariant s) : controllerInvariant (endExecution s seq code st r) :=
  (HostOnly.endExecution s seq code st r).keeps_controller hs

theorem placeReadBack_keeps_controller {s : State} (blocks : List Nat) (o n : Nat) (got : List Byte)
    (hleft : got.length < n) (hs : controllerInvariant s) : controllerInvariant (placeReadBack s blocks o n got) := by
  unfold placeReadBack
  split
  · exact hs
  next hout =>
    split
    next q hq =>
      exact placeRequest_keeps_controller (by simpa using hout) (requestAt_fits hq (Nat.sub_pos_of_lt hleft)) hs
    · exact hs

theorem resume_keeps_controller {s : State} (hs : controllerInvariant s) : controllerInvariant (resume s) := by
  unfold resume finishSeal
  repeat' split
  next hfree => exact endExecution_keeps_controller _ _ _ _ (takeChunk_keeps_controller _ _ _ hfree hs)
  · exact hs
  · exact hs
  · exact endExecution_keeps_controller _ _ _ _ hs
  · exact endExecution_keeps_controller _ _ _ _ (withStore_keeps_controller _ rfl hs)
  · exact endExecution_keeps_controller _ _ _ _ (freePayload_keeps_controller _ hs)
  · exact endExecution_keeps_controller _ _ _ _ hs
  · exact hs
  · exact endExecution_keeps_controller _ _ _ _ (freePayload_keeps_controller _ hs)
  · exact endExecution_keeps_controller _ _ _ _ hs
  next hleft => exact placeReadBack_keeps_controller _ _ _ _ (Nat.lt_of_not_le hleft) hs
  · exact endExecution_keeps_controller _ _ _ _ hs
  · exact hs
  · exact endExecution_keeps_controller _ _ _ _ hs
  · exact hs
  · exact hs

theorem coreTail_keeps_controller (s0 : State) {s : State} (hs : controllerInvariant s) :
    controllerInvariant (coreTail s0 s) :=
  arbitrate_keeps_controller
    (resume_keeps_controller (freeDoomed_keeps_controller (settleLanes_keeps_controller s0 hs)))

/-! ### Effects -/

theorem handOver_keeps_controller {s : State} (t : Transaction) (hs : controllerInvariant s) :
    controllerInvariant (handOver s t) := by
  have hc : controllerInvariant (countFreeRead s t) := by
    unfold countFreeRead
    split
    · exact controllerInvariant_congr (s := s) rfl rfl rfl (Nat.le_refl _) hs
    · exact hs
  unfold handOver
  split
  · exact deliverLane_keeps_controller _ _ hc
  · unfold appendReadBack
    split
    · exact HostOnly.keeps_controller (s := countFreeRead s t) rfl hc
    · exact hc
  · exact fillDone_keeps_controller _ (controllerInvariant_congr (s := s) rfl rfl rfl (Nat.le_refl _) hs)

theorem transactionDone_keeps_controller {s : State} (hs : controllerInvariant s) :
    controllerInvariant (transactionDone s) := by
  unfold transactionDone
  split
  next t ht =>
    split
    next hp => exact handOver_keeps_controller _ (portAfterColumn_keeps_controller ht hp hs)
    · exact hs
  · exact hs

theorem effect_keeps_controller {s t : State} (h : Effect s t) (hs : controllerInvariant s) :
    controllerInvariant t := by
  cases h
  case rest => exact hs
  case start l => exact tryStart_keeps_controller l hs
  case slot l => exact takeSlot_keeps_controller l hs
  case hold l => exact holdOn_keeps_controller l hs
  case release l => exact holdOff_keeps_controller l hs
  case holdLimit l => exact cutLane_keeps_controller l _ hs
  case flushEnd l => exact endFlush_keeps_controller l hs
  case rowCommand => exact rowCommandDone_keeps_controller hs
  case transaction => exact transactionDone_keeps_controller hs
  case closing => exact closingDone_keeps_controller hs
  case resume => exact resume_keeps_controller hs
  case interval => exact intervalExpires_keeps_controller hs
  case refreshPrecharge => exact refreshPrecharged_keeps_controller hs
  case refreshCommand => exact refreshDone_keeps_controller hs
  case wait => exact waitEnds_keeps_controller hs
  case bringUpPrecharge => exact bringUpPrecharged_keeps_controller hs
  case bringUpRefresh => exact bringUpRefreshed_keeps_controller hs
  case modeSet => exact modeSetDone_keeps_controller hs
  case tick => exact tickTime_keeps_controller hs
  case timeEnd => exact TimeOnly.keeps_controller (s := s) rfl hs
  case due id =>
    unfold meetDue
    repeat' split
    · exact reachDue_keeps_controller _ hs
    · exact tryStart_keeps_controller _ hs
    · exact hs
  case tolerance id => exact expireCue_keeps_controller id hs
  case window id =>
    unfold enterWindow
    split
    · exact settleLane_keeps_controller _ _ hs
    · exact hs
  case sample i level => exact sampleLine_keeps_controller i level hs

/-! ### Requests -/

/-- A profile that the nine bytes of a MEMORY_INIT give is legal. -/
theorem profileOf_legal {b : ProfileBody} {p : Profile} (h : profileOf b = some p) : p.legal := by
  unfold profileOf at h
  split at h
  · cases h
  · split at h
    next hcond =>
      cases h
      exact hcond
    · cases h

/-- A bring-up begins in a part that is not in one. -/
theorem acceptInit_keeps_controller {s : State} {p : Profile} (hp : p.legal) (hd : s.device ≠ .initializing)
    (hs : controllerInvariant s) : controllerInvariant (acceptInit s p) := by
  obtain ⟨⟨h1, -, -, h1'⟩, -, h3, h4⟩ := hs
  refine ⟨⟨⟨fun _ => rfl, fun _ => rfl⟩, ⟨fun _ => nofun, fun _ => rfl⟩, fun q hq => ?_, fun c hc => ?_⟩,
    ⟨fun _ => rfl, nofun⟩, ⟨fun r q hq => h3.1 r q (by cases r <;> exact hq), h3.2⟩, h4⟩
  · cases hq
    exact hp
  · obtain ⟨b, hb, -⟩ := h1' c hc
    exact absurd (h1.1 (by rw [hb]; rfl)) hd

theorem resetMemory_keeps_controller {s : State} (hs : controllerInvariant s) :
    controllerInvariant (resetMemory s) := by
  unfold resetMemory
  split
  next hd =>
    obtain ⟨-, -, ⟨h3, h3'⟩, h4⟩ := hs
    have hport : ∀ t, (s.mc.port.map PortOp.abandon) = some (.transaction t) ↔ s.mc.port = some (.transaction t) := by
      intro t
      cases s.mc.port with
      | none => exact Iff.rfl
      | some op => cases op <;> simp [PortOp.abandon]
    refine ⟨⟨⟨nofun, nofun⟩, ⟨nofun, fun h => absurd rfl h⟩, nofun, fun c hc => ?_⟩, ⟨fun _ => rfl, nofun⟩,
      ⟨fun r q hq => ?_, fun t ht => h3' t ((hport t).1 ht)⟩, h4⟩
    · obtain ⟨op, -, hop⟩ := Option.map_eq_some_iff.1 hc
      cases op <;> simp [PortOp.abandon] at hop
    · obtain ⟨hfit, hfl⟩ := h3 r q (by cases r <;> exact hq)
      refine ⟨hfit, ?_⟩
      unfold inFlight at hfl ⊢
      split
      next t ht =>
        rw [(hport t).1 ht] at hfl
        exact hfl
      · rfl
  · exact hs

theorem resetLane_keeps_controller {s : State} (l : Fin 4) (hs : controllerInvariant s) :
    controllerInvariant (resetLane s l) := by
  unfold resetLane
  split
  · exact cutLane_keeps_controller l _ hs
  · exact unstage_keeps_controller l hs
  · exact unstage_keeps_controller l hs
  · exact setLane_keeps_controller l _ hs
  · exact hs

theorem softReset_keeps_controller {s : State} (hs : controllerInvariant s) :
    controllerInvariant (softReset s) := by
  have hl : controllerInvariant (resetLink s) := HostOnly.keeps_controller (s := s) rfl hs
  have hc : controllerInvariant (resetCues (resetLink s)) :=
    controllerInvariant_congr (s := fours.foldl resetLane (resetLink s)) rfl rfl rfl (Nat.le_refl _)
      (foldl_keeps (fun _ l h => resetLane_keeps_controller l h) fours _ hl)
  have hm : controllerInvariant (resetMemory (resetStore (resetCues (resetLink s)))) :=
    resetMemory_keeps_controller (resetStore_keeps_controller hc)
  exact TimeOnly.keeps_controller (s := resetMemory (resetStore (resetCues (resetLink s)))) rfl hm

theorem stopLane_keeps_controller {s : State} (l : Fin 4) (hs : controllerInvariant s) :
    controllerInvariant (stopLane s l) :=
  cutLane_keeps_controller l _ (unstage_keeps_controller l hs)

theorem stopLanes_keeps_controller {s : State} (hs : controllerInvariant s) :
    controllerInvariant (fours.foldl stopLane s) :=
  foldl_keeps (fun _ l h => stopLane_keeps_controller l h) fours s hs

theorem runDeletePayload_keeps_controller {s : State} (id : Byte) (hs : controllerInvariant s) :
    controllerInvariant (runDeletePayload s id).1 := by
  unfold runDeletePayload
  dsimp only
  repeat' split
  · exact hs
  · exact deleteChunks_keeps_controller _ hs
  · exact freePayload_keeps_controller _ hs
  · exact withStore_keeps_controller _ rfl hs
  · exact hs

/-- The requests that leave the fill buffer and the port alone. -/
def withinDirectory : Req → Bool
  | .deletePayload _ => false
  | r => withinStore r

theorem withinStore_of_withinDirectory {r : Req} (h : withinDirectory r = true) : withinStore r = true := by
  unfold withinDirectory at h
  split at h
  · cases h
  · exact h

theorem runRequest_directory (s : State) (seq : Byte) (r : Req) (h : withinDirectory r = true) :
    (runRequest s seq r).1.mc = s.mc ∧ (runRequest s seq r).1.refresh = s.refresh
      ∧ (runRequest s seq r).1.store.chunks = s.store.chunks := by
  cases r
  case openPayload id len =>
    show (runOpenPayload s id len).1.mc = s.mc ∧ (runOpenPayload s id len).1.refresh = s.refresh
      ∧ (runOpenPayload s id len).1.store.chunks = s.store.chunks
    unfold runOpenPayload
    dsimp only
    repeat' split
    all_goals exact ⟨rfl, rfl, rfl⟩
  case putData id off data =>
    have hsame : (runPutData s id off data).1 = s := by
      unfold runPutData
      repeat' split
      all_goals rfl
    exact ⟨congrArg State.mc hsame, congrArg State.refresh hsame, congrArg (·.store.chunks) hsame⟩
  case sealPayload id want =>
    have hsame : (runSealPayload s id want).1 = s := by
      unfold runSealPayload
      repeat' split
      all_goals rfl
    exact ⟨congrArg State.mc hsame, congrArg State.refresh hsame, congrArg (·.store.chunks) hsame⟩
  case readBack id off n =>
    have hsame : (runReadBack s id off n).1 = s := by
      unfold runReadBack
      repeat' split
      all_goals rfl
    exact ⟨congrArg State.mc hsame, congrArg State.refresh hsame, congrArg (·.store.chunks) hsame⟩
  case payloadInfo id =>
    have hsame : (runPayloadInfo s id).1 = s := by
      unfold runPayloadInfo
      split <;> rfl
    exact ⟨congrArg State.mc hsame, congrArg State.refresh hsame, congrArg (·.store.chunks) hsame⟩
  case cueInfo id =>
    have hsame : (runCueInfo s id).1 = s := by
      unfold runCueInfo
      split <;> rfl
    exact ⟨congrArg State.mc hsame, congrArg State.refresh hsame, congrArg (·.store.chunks) hsame⟩
  case laneStatus l =>
    have hsame : (runLaneStatus s l).1 = s := by
      unfold runLaneStatus
      split <;> rfl
    exact ⟨congrArg State.mc hsame, congrArg State.refresh hsame, congrArg (·.store.chunks) hsame⟩
  case identify | getState | memoryStatus | listPayloads | listCues | getTime => exact ⟨rfl, rfl, rfl⟩
  all_goals exact absurd h (by simp [withinDirectory, withinStore])

theorem runRequest_keeps_controller {s : State} (seq : Byte) (r : Req) (hacc : accepted r.code s.device = true)
    (hs : controllerInvariant s) : controllerInvariant (runRequest s seq r).1 := by
  by_cases hdir : withinDirectory r = true
  · obtain ⟨hm, hr, hc⟩ := runRequest_directory s seq r hdir
    have hdevice := (runRequest_store s seq r (withinStore_of_withinDirectory hdir)).core.device
    exact controllerInvariant_congr hdevice hm hr (by rw [hc]) hs
  by_cases ht : withinTime r = true
  · exact (runRequest_time s seq r ht).keeps_controller hs
  cases r
  case reset => exact softReset_keeps_controller (HostOnly.keeps_controller (s := s) rfl hs)
  case noticeAck n => exact (HostOnly.runNoticeAck s n).keeps_controller hs
  case memoryInit b =>
    show controllerInvariant (runMemoryInit s b).1
    rcases runMemoryInit_cases s b with h | ⟨p, hp, -, h⟩
    · rw [h]
      exact hs
    · rw [h]
      refine acceptInit_keeps_controller (profileOf_legal hp) (fun hd => ?_) hs
      rw [hd, show (Req.memoryInit b).code = 0x10 from rfl] at hacc
      exact absurd hacc (by decide)
  case deletePayload id => exact runDeletePayload_keeps_controller id hs
  case fileCue b =>
    show controllerInvariant (runFileCue s b).1
    unfold runFileCue
    split
    · exact hs
    · refine setCue_keeps_controller _ _ ?_
      unfold State.addRef
      split
      · exact withStore_keeps_controller _ rfl hs
      · exact hs
  case armCue id d =>
    show controllerInvariant (runArmCue s id d).1
    unfold runArmCue
    dsimp only
    repeat' split
    · exact hs
    · exact hs
    · exact hs
    · exact setCue_keeps_controller _ _ hs
  case cancelCue id =>
    show controllerInvariant (runCancelCue s id).1
    unfold runCancelCue
    dsimp only
    repeat' split
    · exact hs
    · exact hs
    · exact cutLane_keeps_controller _ _ (setCue_keeps_controller _ _ hs)
    · exact (endCue_after _ _ _ _).keeps_controller (unstage_keeps_controller _ hs)
    · exact (endCue_after _ _ _ _).keeps_controller hs
  case discardCue id =>
    show controllerInvariant (runDiscardCue s id).1
    unfold runDiscardCue
    repeat' split
    · exact hs
    · exact dropCue_keeps_controller _ (dropRef_keeps_controller _ hs)
    · exact dropCue_keeps_controller _ hs
    · exact hs
  case stopAll =>
    show controllerInvariant (runStopAll s).1
    rw [runStopAll]
    dsimp only
    refine stopLanes_keeps_controller ?_
    exact controllerInvariant_congr (s := s) rfl rfl rfl (Nat.le_refl _) hs
  case stepTime k =>
    show controllerInvariant (runStepTime s k).1
    unfold runStepTime
    dsimp only
    repeat' split
    · exact hs
    · exact hs
    · exact hs
    · exact advanceTo_keeps_controller _ (TimeOnly.keeps_controller (s := s) rfl hs)
    · exact TimeOnly.keeps_controller (s := s) rfl hs
  case setLane l b =>
    show controllerInvariant (runSetLane s l b).1
    rcases runSetLane_cases s l b with h | ⟨k, config, -, -, h⟩
    · rw [h]
      exact hs
    · rw [h]
      exact pickFor_keeps_controller k (setLane_keeps_controller k _ hs)
  all_goals exact absurd rfl ‹_›

/-! ### Moves -/

/-- A body that names a request opens with that request's code. -/
theorem code_of_readBody {body : List Byte} {r : Req} (h : readBody body = some r) : byteAt body 0 = r.code := by
  unfold readBody at h
  split at h
  all_goals cases h
  all_goals exact BitVec.eq_of_toNat_eq ‹_›

theorem conclude_keeps_controller (s0 : State) (seq code : Byte) (out : State × Answer)
    (h : controllerInvariant out.1) : controllerInvariant (conclude s0 seq code out) := by
  unfold conclude
  split
  · exact endExecution_keeps_controller _ _ _ _ h
  · exact coreTail_keeps_controller _ (endExecution_keeps_controller _ _ _ _ h)
  · exact coreTail_keeps_controller _ (HostOnly.keeps_controller (s := out.1) rfl h)
  · exact coreTail_keeps_controller _ h

theorem execute_keeps_controller {s : State} (seq : Byte) (body : List Byte) (h : controllerInvariant s) :
    controllerInvariant (execute s seq body) := by
  unfold execute
  dsimp only
  repeat' split
  · exact endExecution_keeps_controller _ _ _ _ h
  · exact endExecution_keeps_controller _ _ _ _ h
  next r hr hacc _ _ =>
    exact conclude_keeps_controller _ _ _ _ (runRequest_keeps_controller _ _ (code_of_readBody hr ▸ hacc) h)
  · exact endExecution_keeps_controller _ _ _ _ h

theorem countPeriod_keeps_controller {s : State} (hs : controllerInvariant s) :
    controllerInvariant (countPeriod s) := by
  obtain ⟨h1, ⟨h2, h2'⟩, ⟨h3, h3'⟩, h4⟩ := hs
  have hstop : s.refresh.timer.countPeriod = .stopped ↔ s.refresh.timer = .stopped := by
    cases s.refresh.timer <;> simp [RefreshTimer.countPeriod]
  have hpause : s.refresh.timer.countPeriod = .paused ↔ s.refresh.timer = .paused := by
    cases s.refresh.timer <;> simp [RefreshTimer.countPeriod]
  refine ⟨h1, ⟨fun hd => ?_, fun hd => ?_⟩, ⟨fun r q hq => h3 r q (by cases r <;> exact hq), h3'⟩, h4⟩
  · show { s.refresh with timer := s.refresh.timer.countPeriod } = _
    rw [h2 hd]
    rfl
  · obtain ⟨ha, hb, hc, he, hf⟩ := h2' hd
    exact ⟨ha, fun h => hb (hstop.1 h), hpause.trans hc, he, hf⟩

/-- The controller of a part in reset is in order. -/
theorem reset_controller {s : State} (hd : s.device = .unconfigured) (hm : s.mc = .reset) (hr : s.refresh = .reset)
    (hc : s.store.chunks = []) : controllerInvariant s := by
  refine ⟨?_, ⟨fun _ => hr, fun h => ?_⟩, ⟨fun r q hq => ?_, fun t ht => ?_⟩, ?_⟩
  · unfold bringUpInvariant
    rw [hd, hm]
    exact ⟨⟨nofun, nofun⟩, ⟨nofun, fun h => absurd rfl h⟩, nofun, nofun⟩
  · rw [hd] at h
    cases h
  · have hnone : requestOf s r = none := by
      cases r <;> simp [requestOf, hm, MemControl.reset]
    rw [hnone] at hq
    cases hq
  · rw [hm] at ht
    cases ht
  · rw [hc]
    exact Nat.zero_le _

theorem move_keeps_controller (s t : State) (hm : Move s t) (h : controllerInvariant s) : controllerInvariant t := by
  cases hm
  case begin => exact (HostOnly.txBegin s).keeps_controller h
  case event u s0 hu => exact coreTail_keeps_controller s0 (effect_keeps_controller hu h)
  case grant => exact arbitrate_keeps_controller h
  case take e q _ _ _ => exact execute_keeps_controller _ _ (HostOnly.keeps_controller (s := s) rfl h)
  case sort seq body => exact (HostOnly.sortRequest s _ _).keeps_controller h
  case sync seq => exact (HostOnly.handleSync s _).keeps_controller h
  case deferred => exact (HostOnly.syncDeferred s).keeps_controller h
  case sent => exact (HostOnly.txEnd s).keeps_controller h
  case offer | framer | lineOn | resend => exact HostOnly.keeps_controller (s := s) rfl h
  case level l b => exact setLane_keeps_controller l _ h
  case period => exact countPeriod_keeps_controller h
  case resetBegin | resetEnd => exact reset_controller rfl rfl rfl rfl

end Sys2Proof.Machine
end

section
/-!
PROOFS. The SDRAM contents, the stamp rings and the time base stay in order, and with the memory controller this settles
O55. Few moves touch them: a write, an accepted MEMORY_INIT and a reset the contents; a sample, READ_STAMPS and a reset
the rings; a tick, the requests of the time base and a reset the time base.
-/

namespace Sys2Proof.Machine

/-! ### What the effects change outside the lanes, the cues, the store and the port -/

/-- The time base, the trigger lines and the SDRAM contents are as they were. -/
structure WorldKept (s t : State) : Prop where
  time : t.time = s.time
  triggers : t.triggers = s.triggers
  mem : t.mem = s.mem

theorem WorldKept.ofCore {s t : State} (h : CoreKept s t) : WorldKept s t := ⟨h.time, h.triggers, h.mem⟩

theorem WorldKept.ofOuter {s t : State} (h : OuterKept s t) : WorldKept s t := ⟨h.time, h.triggers, h.mem⟩

theorem WorldKept.ofHost {s t : State} (h : HostOnly s t) : WorldKept s t := ⟨h.time, h.triggers, h.mem⟩

theorem WorldKept.trans {s t u : State} (h : WorldKept s t) (k : WorldKept t u) : WorldKept s u :=
  ⟨k.time.trans h.time, k.triggers.trans h.triggers, k.mem.trans h.mem⟩

/-- The effects that touch none of the three. -/
theorem effect_world {s t : State} (h : Effect s t) :
    WorldKept s t ∨ t = transactionDone s ∨ t = tickTime s ∨ (atMaximum s = true ∧ t = reachEnd s)
      ∨ ∃ i level, t = sampleLine s i level := by
  cases h
  case transaction => exact .inr (.inl rfl)
  case tick => exact .inr (.inr (.inl rfl))
  case timeEnd h => exact .inr (.inr (.inr (.inl ⟨h, rfl⟩)))
  case sample i level => exact .inr (.inr (.inr (.inr ⟨i, level, rfl⟩)))
  all_goals left
  case rest => exact ⟨rfl, rfl, rfl⟩
  case start l => exact .ofCore (CoreKept.tryStart s l)
  case slot l => exact .ofCore (CoreKept.takeSlot s l)
  case hold l => exact .ofCore (CoreKept.holdOn s l)
  case release l => exact .ofCore (CoreKept.holdOff s l)
  case holdLimit l => exact .ofCore (CoreKept.cutLane s l _)
  case flushEnd l => exact .ofCore (CoreKept.endFlush s l)
  case rowCommand => exact .ofCore (PortOnly.rowCommandDone s).core
  case closing => exact .ofCore (PortOnly.closingDone s).core
  case resume => exact .ofOuter (OuterKept.resume s)
  case interval => exact .ofCore (PortOnly.intervalExpires s).core
  case refreshPrecharge => exact .ofCore (PortOnly.refreshPrecharged s).core
  case refreshCommand => exact .ofCore (PortOnly.refreshDone s).core
  case wait => exact .ofCore (PortOnly.waitEnds s).core
  case bringUpPrecharge => exact .ofCore (PortOnly.bringUpPrecharged s).core
  case bringUpRefresh => exact .ofCore (PortOnly.bringUpRefreshed s).core
  case modeSet =>
    unfold modeSetDone
    dsimp only
    repeat' split
    all_goals exact ⟨rfl, rfl, rfl⟩
  case due id => exact .ofCore (HostKept.meetDue s id)
  case tolerance id => exact .ofCore (CoreKept.expireCue s id)
  case window id => exact .ofCore (HostKept.enterWindow s id)

/-- A completed transaction leaves the time base and the trigger lines alone, and the SDRAM contents but for a write. -/
theorem handOver_world (s : State) (t : Transaction) :
    (handOver s t).time = s.time ∧ (handOver s t).triggers = s.triggers
      ∧ ((handOver s t).mem = s.mem ∨ ∃ a bytes, (handOver s t).mem = writeBytes s.mem a bytes) := by
  have hc : WorldKept s (countFreeRead s t) := by
    unfold countFreeRead
    split <;> exact ⟨rfl, rfl, rfl⟩
  unfold handOver
  split
  · obtain ⟨h1, h2, h3⟩ := hc.trans (.ofCore (CoreKept.deliverLane _ _ _))
    exact ⟨h1, h2, .inl h3⟩
  · unfold appendReadBack
    split <;> exact ⟨hc.time, hc.triggers, .inl hc.mem⟩
  · have hk := StoreOnly.fillDone { s with mem := writeBytes s.mem t.address (bytesToWrite s t) } t.size
    exact ⟨hk.core.time, hk.core.triggers, .inr ⟨_, _, hk.core.mem⟩⟩

theorem transactionDone_world (s : State) :
    (transactionDone s).time = s.time ∧ (transactionDone s).triggers = s.triggers
      ∧ ((transactionDone s).mem = s.mem ∨ ∃ a bytes, (transactionDone s).mem = writeBytes s.mem a bytes) := by
  unfold transactionDone
  repeat' split
  next t _ _ =>
    obtain ⟨h1, h2, h3⟩ := handOver_world (portAfterColumn s t) t
    have hk := (PortOnly.portAfterColumn s t).core
    rw [hk.time] at h1
    rw [hk.triggers] at h2
    rw [hk.mem] at h3
    exact ⟨h1, h2, h3⟩
  all_goals exact ⟨rfl, rfl, .inl rfl⟩

theorem advanceTo_triggers (s : State) (n : Nat) :
    (advanceTo s n).triggers = s.triggers ∧ (advanceTo s n).mem = s.mem := by
  have htest : ∀ u, (testEnd u).triggers = u.triggers ∧ (testEnd u).mem = u.mem := by
    intro u
    unfold testEnd
    split <;> exact ⟨rfl, rfl⟩
  unfold advanceTo
  split
  · have hk := CoreKept.forwardChange (testEnd (s.setDevice n))
    exact ⟨hk.triggers.trans (htest _).1, hk.mem.trans (htest _).2⟩
  · exact ⟨rfl, rfl⟩

theorem tickTime_triggers (s : State) : (tickTime s).triggers = s.triggers ∧ (tickTime s).mem = s.mem := by
  have hslew : ∀ u w, (countSlew u w).triggers = u.triggers ∧ (countSlew u w).mem = u.mem := by
    intro u w
    unfold countSlew
    dsimp only
    generalize (if 0 < w.remaining then w.remaining - 1 else w.remaining + 1) = r
    split <;> exact ⟨rfl, rfl⟩
  unfold tickTime tickDevice adjustTime
  dsimp only
  repeat' split
  · exact ⟨rfl, rfl⟩
  next w _ _ =>
    obtain ⟨h1, h2⟩ := advanceTo_triggers (countSlew (countElapsed s) w) (risenTime (countSlew (countElapsed s) w) 2)
    exact ⟨h1.trans (hslew _ _).1, h2.trans (hslew _ _).2⟩
  · exact hslew _ _
  · exact advanceTo_triggers _ _

theorem sampleLine_time (s : State) (i : Fin 4) (level : Bool) :
    (sampleLine s i level).time = s.time ∧ (sampleLine s i level).mem = s.mem := by
  unfold sampleLine recordStamp
  dsimp only
  repeat' split
  all_goals exact ⟨rfl, rfl⟩

/-! ### The SDRAM contents -/

theorem effect_keeps_mem {s t : State} (h : Effect s t) (hs : Memory.wf s.mem = true) : Memory.wf t.mem = true := by
  rcases effect_world h with hk | rfl | rfl | ⟨-, rfl⟩ | ⟨i, level, rfl⟩
  · rw [hk.mem]
    exact hs
  · obtain ⟨-, -, hm | ⟨a, bytes, hm⟩⟩ := transactionDone_world s
    · rw [hm]
      exact hs
    · rw [hm]
      exact writeBytes_wf _ _ _ hs
  · rw [(tickTime_triggers s).2]
    exact hs
  · exact hs
  · rw [(sampleLine_time s i level).2]
    exact hs

/-! ### The stamp rings -/

theorem ringInvariant_congr {s t : State} (h : t.triggers = s.triggers) (hs : ringInvariant s) : ringInvariant t := by
  unfold ringInvariant
  rw [h]
  exact hs

theorem setLine_keeps_rings {s : State} (i : Fin 4) (x : TriggerLine) (hx : x.ring.length ≤ Config.ringSize)
    (hs : ringInvariant s) : ringInvariant (s.setLine i x) := by
  intro l
  by_cases h : l = i
  · subst h
    rw [State.setLine_triggers, quad_get_set_self]
    exact hx
  · rw [State.setLine_triggers, quad_get_set_ne _ _ _ _ h]
    exact hs l

theorem push_ring_length (x : TriggerLine) (p : Stamp) (h : x.ring.length ≤ Config.ringSize) :
    (x.push p).ring.length ≤ Config.ringSize := by
  have hsize : Config.ringSize = 8 := rfl
  unfold TriggerLine.push
  split
  · rw [List.length_append, List.length_singleton]
    omega
  · rw [List.length_append, List.length_drop, List.length_singleton]
    omega

theorem recordStamp_keeps_rings {s : State} (i : Fin 4) (e : StampEdge) (hs : ringInvariant s) :
    ringInvariant (recordStamp s i e) := by
  have hline := setLine_keeps_rings i ((s.triggers.lines.get i).push { time := s.time.device, edge := e })
    (push_ring_length _ _ (hs i)) hs
  intro l
  have hl := hline l
  unfold recordStamp
  dsimp only
  split <;> exact hl

theorem sampleLine_keeps_rings {s : State} (i : Fin 4) (level : Bool) (hs : ringInvariant s) :
    ringInvariant (sampleLine s i level) := by
  have hline : ringInvariant (s.setLine i { s.triggers.lines.get i with level := some level }) :=
    setLine_keeps_rings i _ (hs i) hs
  unfold sampleLine
  dsimp only
  repeat' split
  · exact recordStamp_keeps_rings _ _ hline
  all_goals exact hline

theorem effect_keeps_rings {s t : State} (h : Effect s t) (hs : ringInvariant s) : ringInvariant t := by
  rcases effect_world h with hk | rfl | rfl | ⟨-, rfl⟩ | ⟨i, level, rfl⟩
  · exact ringInvariant_congr hk.triggers hs
  · exact ringInvariant_congr (transactionDone_world s).2.1 hs
  · exact ringInvariant_congr (tickTime_triggers s).1 hs
  · exact hs
  · exact sampleLine_keeps_rings i level hs

/-! ### The time base -/

theorem timeInvariant_congr {s t : State} (h : t.time = s.time) (hs : timeInvariant s) : timeInvariant t := by
  unfold timeInvariant
  rw [h]
  exact hs

/-- A slew within what SLEW_TIME accepts. -/
def slewInRange (w : Slew) : Prop :=
  w.remaining ≠ 0 ∧ w.remaining.natAbs ≤ 1000000 ∧ 100 ≤ w.spacing ∧ w.spacing ≤ 65535

theorem timeInvariant_iff (s : State) :
    timeInvariant s ↔ s.time.device ≤ Config.maxTime ∧ (s.time.atEnd = true ↔ s.time.device = Config.maxTime)
      ∧ ∀ w, s.time.slew = some w → s.time.atEnd = false ∧ slewInRange w := Iff.rfl

/-- With no slew, only device time and its flag bear on the invariant. -/
theorem timeInvariant_of_noSlew {s : State} (hd : s.time.device ≤ Config.maxTime)
    (he : s.time.atEnd = true ↔ s.time.device = Config.maxTime) (hw : s.time.slew = none) : timeInvariant s := by
  refine ⟨hd, he, fun w h => ?_⟩
  rw [hw] at h
  cases h

theorem reachEnd_keeps_time {s : State} (h : s.time.device = Config.maxTime) : timeInvariant (reachEnd s) :=
  timeInvariant_of_noSlew (Nat.le_of_eq h) ⟨fun _ => h, fun _ => rfl⟩ rfl

/-- A forward change within the range keeps the time base in order: the maximum raises the flag and ends a slew. -/
theorem advanceTo_keeps_time {s : State} {n : Nat} (hle : s.time.device ≤ n) (hmax : n ≤ Config.maxTime)
    (hs : timeInvariant s) : timeInvariant (advanceTo s n) := by
  unfold advanceTo
  split
  next hlt =>
    refine timeInvariant_congr (CoreKept.forwardChange _).time ?_
    obtain ⟨-, hend, hslew⟩ := hs
    have hlow : s.time.atEnd = false := by
      by_contra hne
      have := hend.1 (by simpa using hne)
      omega
    unfold testEnd
    split
    next hat =>
      simp only [atMaximum, Bool.and_eq_true, decide_eq_true_eq] at hat
      exact reachEnd_keeps_time hat.1
    next hat =>
      simp only [atMaximum, State.setDevice, hlow, Bool.not_false, Bool.and_true, decide_eq_true_eq] at hat
      refine ⟨hmax, ⟨fun h => ?_, fun h => absurd h hat⟩, hslew⟩
      exact absurd (h.symm.trans hlow) nofun
  next hge =>
    obtain rfl : n = s.time.device := by omega
    exact hs

theorem countSlew_keeps_time {s : State} {w : Slew} (hw : slewInRange w) (hlow : s.time.atEnd = false)
    (hs : timeInvariant s) : timeInvariant (countSlew s w) := by
  obtain ⟨hd, he, -⟩ := hs
  obtain ⟨-, habs, hsp, hsp'⟩ := hw
  unfold countSlew
  dsimp only
  generalize hr : (if 0 < w.remaining then w.remaining - 1 else w.remaining + 1) = r
  split
  · exact timeInvariant_of_noSlew hd he rfl
  next hne =>
    refine ⟨hd, he, fun v hv => ?_⟩
    cases hv
    refine ⟨hlow, hne, ?_, hsp, hsp'⟩
    dsimp only
    split at hr <;> omega

theorem slewDue_eq_some {s : State} {w : Slew} (h : slewDue s = some w) : s.time.slew = some w := by
  unfold slewDue at h
  split at h
  next v hv =>
    split at h
    · rw [hv, h]
    · cases h
  · cases h

theorem tickTime_keeps_time {s : State} (hs : timeInvariant s) : timeInvariant (tickTime s) := by
  have h0 : timeInvariant (countElapsed s) := hs
  have rise : ∀ {u : State} k, timeInvariant u → timeInvariant (advanceTo u (risenTime u k)) := fun {u} k hu =>
    advanceTo_keeps_time (by have := hu.1; unfold risenTime; omega) (by unfold risenTime; omega) hu
  unfold tickTime tickDevice adjustTime
  dsimp only
  split
  · exact h0
  next hlow =>
    have hlow' : (countElapsed s).time.atEnd = false := by simpa using hlow
    split
    next w hdue =>
      obtain ⟨-, -, hslew⟩ := id h0
      have hw : slewInRange w := (hslew w (slewDue_eq_some hdue)).2
      split
      · exact rise 2 (countSlew_keeps_time hw hlow' h0)
      · exact countSlew_keeps_time hw hlow' h0
    · exact rise 1 h0

theorem effect_keeps_time {s t : State} (h : Effect s t) (hs : timeInvariant s) : timeInvariant t := by
  rcases effect_world h with hk | rfl | rfl | ⟨hat, rfl⟩ | ⟨i, level, rfl⟩
  · exact timeInvariant_congr hk.time hs
  · exact timeInvariant_congr (transactionDone_world s).1 hs
  · exact tickTime_keeps_time hs
  · simp only [atMaximum, Bool.and_eq_true, decide_eq_true_eq] at hat
    exact reachEnd_keeps_time hat.1
  · exact timeInvariant_congr (sampleLine_time s i level).1 hs

/-! ### Requests -/

/-- What a soft reset leaves of the three: the SDRAM contents, and device time without a slew. -/
theorem softReset_world (s : State) :
    (softReset s).mem = s.mem ∧ (softReset s).time = { s.time with slew := none }
      ∧ (softReset s).triggers = { s.triggers with lines := s.triggers.lines.map TriggerLine.softReset } := by
  have hm : ∀ u, (resetMemory u).mem = u.mem ∧ (resetMemory u).time = u.time ∧ (resetMemory u).triggers = u.triggers := by
    intro u
    unfold resetMemory
    split <;> exact ⟨rfl, rfl, rfl⟩
  have hc : CoreKept (resetLink s) (fours.foldl resetLane (resetLink s)) := .foldl _ .resetLane _ _
  have hst := CoreKept.resetStore (resetCues (resetLink s))
  obtain ⟨h1, h2, h3⟩ := hm (resetStore (resetCues (resetLink s)))
  have h1' : (resetMemory (resetStore (resetCues (resetLink s)))).mem = s.mem := h1.trans (hst.mem.trans hc.mem)
  have h2' : (resetMemory (resetStore (resetCues (resetLink s)))).time = s.time := h2.trans (hst.time.trans hc.time)
  have h3' : (resetMemory (resetStore (resetCues (resetLink s)))).triggers = s.triggers :=
    h3.trans (hst.triggers.trans hc.triggers)
  refine ⟨h1', ?_, ?_⟩
  · show { (resetMemory (resetStore (resetCues (resetLink s)))).time with slew := none } = _
    rw [h2']
  · show { (resetMemory (resetStore (resetCues (resetLink s)))).triggers with
      lines := (resetMemory (resetStore (resetCues (resetLink s)))).triggers.lines.map TriggerLine.softReset } = _
    rw [h3']

theorem runRequest_keeps_mem {s : State} (seq : Byte) (r : Req) (hs : Memory.wf s.mem = true) :
    Memory.wf (runRequest s seq r).1.mem = true := by
  by_cases hc : withinCore r = true
  · rw [(runRequest_core s seq r hc).mem]
    exact hs
  by_cases ht : withinTime r = true
  · rw [(runRequest_time s seq r ht).mem]
    exact hs
  cases r
  case reset =>
    have h : (runRequest s seq .reset).1.mem = s.mem := (softReset_world _).1
    rw [h]
    exact hs
  case noticeAck n =>
    have h : (runRequest s seq (.noticeAck n)).1.mem = s.mem := (HostOnly.runNoticeAck s n).mem
    rw [h]
    exact hs
  case memoryInit b =>
    show Memory.wf (runMemoryInit s b).1.mem = true
    rcases runMemoryInit_cases s b with h | ⟨p, -, -, h⟩
    · rw [h]
      exact hs
    · rw [h]
      rfl
  case stepTime k =>
    show Memory.wf (runStepTime s k).1.mem = true
    unfold runStepTime
    dsimp only
    repeat' split
    · exact hs
    · exact hs
    · exact hs
    · rw [(advanceTo_triggers _ _).2]
      exact hs
    · exact hs
  all_goals exact absurd rfl ‹_›

theorem runRequest_keeps_rings {s : State} (seq : Byte) (r : Req) (hs : ringInvariant s) :
    ringInvariant (runRequest s seq r).1 := by
  by_cases hc : withinCore r = true
  · exact ringInvariant_congr (runRequest_core s seq r hc).triggers hs
  cases r
  case reset =>
    intro l
    rw [show (runRequest s seq .reset).1.triggers = _ from (softReset_world _).2.2]
    dsimp only
    rw [quad_get_map]
    exact Nat.zero_le _
  case noticeAck n => exact ringInvariant_congr (HostOnly.runNoticeAck s n).triggers hs
  case memoryInit b =>
    show ringInvariant (runMemoryInit s b).1
    rcases runMemoryInit_cases s b with h | ⟨p, -, -, h⟩ <;> rw [h] <;> exact hs
  case setTime v =>
    refine ringInvariant_congr ?_ hs
    show (runSetTime s v).1.triggers = _
    unfold runSetTime setTimeTo
    dsimp only
    repeat' split
    all_goals rfl
  case stepTime k =>
    refine ringInvariant_congr ?_ hs
    show (runStepTime s k).1.triggers = _
    unfold runStepTime
    dsimp only
    repeat' split
    · rfl
    · rfl
    · rfl
    · exact (advanceTo_triggers _ _).1
    · rfl
  case slewTime k sp =>
    refine ringInvariant_congr ?_ hs
    show (runSlewTime s k sp).1.triggers = _
    unfold runSlewTime
    dsimp only
    repeat' split
    all_goals rfl
  case setTrigger l m n =>
    show ringInvariant (runSetTrigger s l m n).1
    unfold runSetTrigger
    split
    · exact setLine_keeps_rings _ _ (hs _) hs
    · exact hs
  case readStamps l n =>
    show ringInvariant (runReadStamps s l n).1
    unfold runReadStamps
    dsimp only
    repeat' split
    · exact hs
    · exact hs
    · refine setLine_keeps_rings _ _ ?_ hs
      exact Nat.le_trans (List.length_drop ▸ Nat.sub_le _ _) (hs _)
  all_goals exact absurd rfl hc

theorem runSetTime_keeps_time {s : State} (v : BitVec 48) (hs : timeInvariant s) :
    timeInvariant (runSetTime s v).1 := by
  have hv := v.isLt
  have hmax : Config.maxTime = 281474976710655 := rfl
  unfold runSetTime setTimeTo
  dsimp only
  split
  · exact hs
  · split <;> exact timeInvariant_of_noSlew (by dsimp only [State.raise]; omega) (by simp [State.raise]) rfl

theorem runStepTime_keeps_time {s : State} (k : BitVec 32) (hs : timeInvariant s) :
    timeInvariant (runStepTime s k).1 := by
  have hnone : timeInvariant (s.setSlew none) := timeInvariant_of_noSlew hs.1 hs.2.1 rfl
  unfold runStepTime
  dsimp only
  split
  · exact hs
  · split
    · exact hs
    · split
      · exact hs
      next hzero _ hrange =>
        have hd : (s.setSlew none).time.device = s.time.device := rfl
        split
        · exact advanceTo_keeps_time (by omega) (by omega) hnone
        · have hle := hs.1
          refine timeInvariant_of_noSlew (by dsimp only; omega) ⟨nofun, fun h => ?_⟩ rfl
          dsimp only at h
          omega

theorem runSlewTime_keeps_time {s : State} (k : BitVec 32) (sp : BitVec 16) (hs : timeInvariant s) :
    timeInvariant (runSlewTime s k sp).1 := by
  obtain ⟨hd, he, -⟩ := id hs
  unfold runSlewTime
  dsimp only
  split
  · exact hs
  next hk =>
    split
    · exact hs
    next hsp =>
      split
      · exact hs
      · split
        · exact hs
        next hlow =>
          refine ⟨hd, he, fun w hw => ?_⟩
          cases hw
          have hlt := sp.isLt
          exact ⟨by simpa using hlow, fun h => hk (.inl h), Nat.le_of_not_lt (fun h => hk (.inr h)),
            Nat.le_of_not_lt hsp, Nat.le_of_lt_succ hlt⟩

theorem runRequest_keeps_time {s : State} (seq : Byte) (r : Req) (hs : timeInvariant s) :
    timeInvariant (runRequest s seq r).1 := by
  by_cases hc : withinCore r = true
  · exact timeInvariant_congr (runRequest_core s seq r hc).time hs
  cases r
  case reset =>
    have h : (runRequest s seq .reset).1.time = { s.time with slew := none } := (softReset_world _).2.1
    obtain ⟨hd, he, -⟩ := hs
    exact timeInvariant_of_noSlew (by rw [h]; exact hd) (by rw [h]; exact he) (by rw [h])
  case noticeAck n => exact timeInvariant_congr (HostOnly.runNoticeAck s n).time hs
  case memoryInit b =>
    show timeInvariant (runMemoryInit s b).1
    rcases runMemoryInit_cases s b with h | ⟨p, -, -, h⟩ <;> rw [h] <;> exact hs
  case setTime v => exact runSetTime_keeps_time v hs
  case stepTime k => exact runStepTime_keeps_time k hs
  case slewTime k sp => exact runSlewTime_keeps_time k sp hs
  case setTrigger l m n =>
    refine timeInvariant_congr ?_ hs
    show (runSetTrigger s l m n).1.time = _
    unfold runSetTrigger
    split <;> rfl
  case readStamps l n =>
    refine timeInvariant_congr ?_ hs
    show (runReadStamps s l n).1.time = _
    unfold runReadStamps
    dsimp only
    repeat' split
    all_goals rfl
  all_goals exact absurd rfl hc

/-! ### Moves -/

/-- What follows a request's answer leaves the three alone. -/
theorem conclude_world (s0 : State) (seq code : Byte) (out : State × Answer) :
    WorldKept out.1 (conclude s0 seq code out) := by
  have ended : ∀ st res, WorldKept out.1 (endExecution out.1 seq code st res) := fun st res =>
    .ofHost (HostOnly.endExecution out.1 seq code st res)
  unfold conclude
  split
  · exact ended _ _
  · exact (ended _ _).trans (.ofOuter (OuterKept.coreTail _ _))
  next w _ =>
    have hw : WorldKept out.1 { out.1 with executing := some { seq := seq, code := code, wait := w } } := ⟨rfl, rfl, rfl⟩
    exact hw.trans (.ofOuter (OuterKept.coreTail _ _))
  · exact .ofOuter (OuterKept.coreTail _ _)

/-- What the execution of a request does beyond the request itself leaves the three alone. -/
theorem execute_world (s : State) (seq : Byte) (body : List Byte) :
    WorldKept s (execute s seq body) ∨ ∃ r, WorldKept (runRequest s seq r).1 (execute s seq body) := by
  unfold execute
  dsimp only
  repeat' split
  · exact .inl (.ofHost (HostOnly.endExecution _ _ _ _ _))
  · exact .inl (.ofHost (HostOnly.endExecution _ _ _ _ _))
  · exact .inr ⟨_, conclude_world _ _ _ _⟩
  · exact .inl (.ofHost (HostOnly.endExecution _ _ _ _ _))

/-- A property of the time base, the trigger lines and the SDRAM contents that effects, requests, a period and the pin
reset keep, every move keeps. -/
theorem move_keeps_world {P : State → Prop} (congr : ∀ {s t}, WorldKept s t → P s → P t)
    (effect : ∀ {s t}, Effect s t → P s → P t) (request : ∀ {s} seq r, P s → P (runRequest s seq r).1)
    (period : ∀ {s}, P s → P (countPeriod s)) (reset : ∀ s, P (pinResetState s)) (s t : State) (hm : Move s t)
    (h : P s) : P t := by
  cases hm
  case begin => exact congr (.ofHost (.txBegin s)) h
  case event u s0 hu => exact congr (.ofOuter (OuterKept.coreTail _ _)) (effect hu h)
  case grant => exact congr (.ofCore (PortOnly.arbitrate s).core) h
  case take e q _ _ _ =>
    have hs : P { s with link := { s.link with inbox := q } } := congr (s := s) ⟨rfl, rfl, rfl⟩ h
    rcases execute_world { s with link := { s.link with inbox := q } } e.seq e.body with hk | ⟨r, hk⟩
    · exact congr hk hs
    · exact congr hk (request _ _ hs)
  case sort seq body => exact congr (.ofHost (.sortRequest s _ _)) h
  case sync seq => exact congr (.ofHost (.handleSync s _)) h
  case deferred => exact congr (.ofHost (.syncDeferred s)) h
  case sent => exact congr (.ofHost (.txEnd s)) h
  case offer | framer | lineOn | resend | level => exact congr (s := s) ⟨rfl, rfl, rfl⟩ h
  case period => exact period h
  case resetBegin => exact congr (s := pinResetState s) ⟨rfl, rfl, rfl⟩ (reset s)
  case resetEnd => exact reset s

theorem move_keeps_mem (s t : State) (hm : Move s t) (h : Memory.wf s.mem = true) : Memory.wf t.mem = true :=
  move_keeps_world (P := fun s => Memory.wf s.mem = true) (fun hk h => by rw [hk.mem]; exact h) effect_keeps_mem
    runRequest_keeps_mem id (fun _ => rfl) s t hm h

theorem move_keeps_rings (s t : State) (hm : Move s t) (h : ringInvariant s) : ringInvariant t := by
  refine move_keeps_world (fun hk h => ringInvariant_congr hk.triggers h) effect_keeps_rings runRequest_keeps_rings
    (fun h => ringInvariant_congr rfl h) (fun s l => ?_) s t hm h
  show ((Quad.all TriggerLine.reset).get l).ring.length ≤ _
  rw [quad_get_all]
  exact Nat.zero_le _

theorem move_keeps_time (s t : State) (hm : Move s t) (h : timeInvariant s) : timeInvariant t :=
  move_keeps_world (fun hk h => timeInvariant_congr hk.time h) effect_keeps_time runRequest_keeps_time id
    (fun _ => timeInvariant_of_noSlew (Nat.zero_le _) ⟨nofun, nofun⟩ rfl) s t hm h

/-- Settles O55: every move keeps each of the four. -/
theorem memoryRingsAndTimeKept : Obligations.MemoryRingsAndTimeKept := by
  unfold Obligations.MemoryRingsAndTimeKept
  intro s t h
  exact ⟨fun hs => step_keeps move_keeps_mem (fun _ _ h => h) hs h,
    fun hs => step_keeps move_keeps_rings (fun _ _ h => h) hs h,
    fun hs => step_keeps move_keeps_time (fun _ _ h => h) hs h,
    fun hs => step_keeps move_keeps_controller
      (fun s _ h => controllerInvariant_congr (s := s) rfl rfl rfl (Nat.le_refl _) h) hs h⟩

end Sys2Proof.Machine
end

section
/-!
PROOFS. The lanes beside the cue table (O59). A lane has a role: the cue it holds, STAGED or RELEASING; and a cue has
one: the lane that holds it. The invariant of the lanes says that the two agree, beside what each lane asks of itself,
so that an operation is followed by the roles it changes.
-/

namespace Sys2Proof.Machine

/-! ### Roles -/

/-- The cue that a lane holds, with the state of that cue. -/
def Lane.role (x : Lane) : Option (Nat × CueState) :=
  x.held.map (fun h => (h.cue, if x.state.holdsStaged then .staged else .releasing))

/-- The lane that holds a cue, with the cue's state. -/
def Cue.role (c : Cue) : Option (Fin 4 × CueState) :=
  if c.state = .staged ∨ c.state = .releasing then some (c.lane, c.state) else none

/-- The role of a slot's cue. -/
def cueRole (s : State) (id : Nat) : Option (Fin 4 × CueState) := (s.cue? id).bind Cue.role

/-- What the invariant of the lanes asks of one lane alone. -/
structure Lane.InOrder (x : Lane) : Prop where
  stopped : x.state = .stopped ↔ x.config.enabled = false
  rest : x.state.atRest = true → x.held = none
  holds : x.state.holdsStaged = true ∨ x.state = .emitting → x.held.isSome = true
  cut : x.state = .flushing → x.held.isSome = true → (x.cutCause.bind CutCause.result).isSome = true
  release : x.release.isSome = true ↔ (x.state = .emitting ∨ x.state = .flushing) ∧ x.held.isSome = true

/-- Lanes and cues name each other. -/
def rolesAgree (s : State) : Prop := ∀ l id st, (s.lane l).role = some (id, st) ↔ cueRole s id = some (l, st)

theorem Cue.role_eq_some {c : Cue} {l : Fin 4} {st : CueState} :
    c.role = some (l, st) ↔ c.lane = l ∧ c.state = st ∧ (st = .staged ∨ st = .releasing) := by
  unfold Cue.role
  split
  next h =>
    simp only [Option.some.injEq, Prod.mk.injEq]
    exact ⟨fun ⟨h1, h2⟩ => ⟨h1, h2, h2 ▸ h⟩, fun ⟨h1, h2, _⟩ => ⟨h1, h2⟩⟩
  next h =>
    refine ⟨nofun, fun ⟨_, h2, h3⟩ => absurd ?_ h⟩
    rw [h2]
    exact h3

theorem Cue.role_eq_none {c : Cue} : c.role = none ↔ c.state ≠ .staged ∧ c.state ≠ .releasing := by
  unfold Cue.role
  split
  next h => exact ⟨nofun, fun ⟨h1, h2⟩ => absurd h (by simp [h1, h2])⟩
  next h => exact ⟨fun _ => not_or.1 h, fun _ => rfl⟩

theorem cueRole_eq_some {s : State} {id : Nat} {l : Fin 4} {st : CueState} :
    cueRole s id = some (l, st) ↔ ∃ c, s.cue? id = some c ∧ c.role = some (l, st) := by
  unfold cueRole
  exact Option.bind_eq_some_iff

theorem Lane.role_eq_some {x : Lane} {id : Nat} {st : CueState} :
    x.role = some (id, st)
      ↔ ∃ h, x.held = some h ∧ h.cue = id ∧ (if x.state.holdsStaged then CueState.staged else .releasing) = st := by
  unfold Lane.role
  simp only [Option.map_eq_some_iff, Prod.mk.injEq]

/-- A lane without a cue has no role. -/
@[simp] theorem Lane.role_of_held_none {x : Lane} (h : x.held = none) : x.role = none := by simp [Lane.role, h]

/-- Where a lane holds a cue that waits there, its role says so. -/
theorem Lane.role_staged {x : Lane} {id : Nat} (h : x.role = some (id, .staged)) : x.state.holdsStaged = true := by
  obtain ⟨_, -, -, hst⟩ := Lane.role_eq_some.1 h
  by_contra hn
  rw [if_neg hn] at hst
  cases hst

/-- What each lane state holds, as roles. -/
theorem laneInvariant_iff (s : State) : laneInvariant s ↔ (∀ l, (s.lane l).InOrder) ∧ rolesAgree s := by
  constructor
  · rintro ⟨hl, hc⟩
    have hx : ∀ l, (s.lane l).InOrder := fun l => by
      obtain ⟨h1, h2, h3, h4, h5, h6⟩ := hl l
      refine ⟨h1, h2, fun h => ?_, fun h hh => ?_, h6⟩
      · rcases h with h | h
        · obtain ⟨x, hx, -⟩ := h3 h
          rw [hx]
          rfl
        · obtain ⟨x, hx, -⟩ := h4 h
          rw [hx]
          rfl
      · obtain ⟨x, hx⟩ := Option.isSome_iff_exists.1 hh
        exact (h5 h x hx).2
    -- what a lane holds is a cue of this lane, in the state that the role gives
    have hrole : ∀ l h, (s.lane l).held = some h →
        cueRole s h.cue = some (l, if (s.lane l).state.holdsStaged then .staged else .releasing) := by
      intro l h hh
      obtain ⟨-, h2, h3, h4, h5, -⟩ := hl l
      rw [cueRole_eq_some]
      by_cases hst : (s.lane l).state.holdsStaged = true
      · obtain ⟨x, hx, c, hc, hcl, hcs⟩ := h3 hst
        cases hh.symm.trans hx
        exact ⟨c, hc, Cue.role_eq_some.2 (by simp [hst, hcl, hcs])⟩
      · have hrel : holdsCue s l h .releasing := by
          by_cases hem : (s.lane l).state = .emitting
          · obtain ⟨x, hx, hk⟩ := h4 hem
            cases hh.symm.trans hx
            exact hk
          · have hfl : (s.lane l).state = .flushing := by
              by_contra hn
              have hat : (s.lane l).state.atRest = true := by
                cases hs : (s.lane l).state <;> simp_all [LaneState.holdsStaged, LaneState.atRest]
              rw [h2 hat] at hh
              cases hh
            exact (h5 hfl h hh).1
        obtain ⟨c, hc, hcl, hcs⟩ := hrel
        exact ⟨c, hc, Cue.role_eq_some.2 (by simp [hst, hcl, hcs])⟩
    refine ⟨hx, fun l id st => ⟨fun h => ?_, fun h => ?_⟩⟩
    · obtain ⟨x, hx, rfl, rfl⟩ := Lane.role_eq_some.1 h
      exact hrole l x hx
    · obtain ⟨c, hcue, hr⟩ := cueRole_eq_some.1 h
      obtain ⟨hcl, hcs, hst⟩ := Cue.role_eq_some.1 hr
      obtain ⟨x, hx, rfl⟩ := hc id c hcue (hcs ▸ hst)
      rw [hcl] at hx
      rw [hrole l x hx] at h
      simp only [Option.some.injEq, Prod.mk.injEq, true_and] at h
      exact Lane.role_eq_some.2 ⟨x, hx, rfl, h⟩
  · rintro ⟨hx, hag⟩
    have held : ∀ l h, (s.lane l).held = some h →
        holdsCue s l h (if (s.lane l).state.holdsStaged then .staged else .releasing) := by
      intro l h hh
      obtain ⟨c, hc, hr⟩ := cueRole_eq_some.1 ((hag l h.cue _).1 (Lane.role_eq_some.2 ⟨h, hh, rfl, rfl⟩))
      obtain ⟨hcl, hcs, -⟩ := Cue.role_eq_some.1 hr
      exact ⟨c, hc, hcl, hcs⟩
    refine ⟨fun l => ⟨(hx l).stopped, (hx l).rest, fun h => ?_, fun h => ?_, fun h x hh => ⟨?_, ?_⟩, (hx l).release⟩,
      fun id c hc hst => ?_⟩
    · obtain ⟨x, hh⟩ := Option.isSome_iff_exists.1 ((hx l).holds (.inl h))
      have hk := held l x hh
      rw [if_pos h] at hk
      exact ⟨x, hh, hk⟩
    · obtain ⟨x, hh⟩ := Option.isSome_iff_exists.1 ((hx l).holds (.inr h))
      have hk := held l x hh
      rw [if_neg (by rw [h]; exact nofun)] at hk
      exact ⟨x, hh, hk⟩
    · have hk := held l x hh
      rwa [if_neg (by rw [h]; exact nofun)] at hk
    · exact (hx l).cut h (by rw [hh]; rfl)
    · have hr : cueRole s id = some (c.lane, c.state) := cueRole_eq_some.2 ⟨c, hc, Cue.role_eq_some.2 ⟨rfl, rfl, hst⟩⟩
      obtain ⟨x, hh, hid, -⟩ := Lane.role_eq_some.1 ((hag _ _ _).2 hr)
      exact ⟨x, hh, hid⟩

/-! ### Changes of roles -/

/-- Neither a lane nor a cue changes its role. -/
theorem rolesAgree_congr {s t : State} (hl : ∀ l, (t.lane l).role = (s.lane l).role)
    (hc : ∀ id, cueRole t id = cueRole s id) (hs : rolesAgree s) : rolesAgree t := by
  intro l id st
  rw [hl, hc]
  exact hs l id st

/-- A lane takes a cue, or the cue it holds goes to another state. -/
theorem rolesAgree_take {s t : State} {l : Fin 4} {id : Nat} {st' : CueState}
    (hl : ∀ m, (t.lane m).role = if m = l then some (id, st') else (s.lane m).role)
    (hc : ∀ j, cueRole t j = if j = id then some (l, st') else cueRole s j)
    (before : (∃ st, (s.lane l).role = some (id, st)) ∨ (s.lane l).role = none ∧ cueRole s id = none)
    (hs : rolesAgree s) : rolesAgree t := by
  intro m j st
  rw [hl, hc]
  by_cases hm : m = l
  · subst hm
    by_cases hj : j = id
    · subst hj
      simp
    · rw [if_pos rfl, if_neg hj]
      refine ⟨fun h => ?_, fun h => ?_⟩
      · simp only [Option.some.injEq, Prod.mk.injEq] at h
        exact absurd h.1.symm hj
      · have hr := (hs m j st).2 h
        rcases before with ⟨st0, hb⟩ | ⟨hb, -⟩
        · rw [hb] at hr
          simp only [Option.some.injEq, Prod.mk.injEq] at hr
          exact absurd hr.1.symm hj
        · rw [hb] at hr
          cases hr
  · by_cases hj : j = id
    · subst hj
      rw [if_neg hm, if_pos rfl]
      refine ⟨fun h => ?_, fun h => ?_⟩
      · have hr := (hs m j st).1 h
        rcases before with ⟨st0, hb⟩ | ⟨-, hb⟩
        · rw [(hs l j st0).1 hb] at hr
          simp only [Option.some.injEq, Prod.mk.injEq] at hr
          exact absurd hr.1.symm hm
        · rw [hb] at hr
          cases hr
      · simp only [Option.some.injEq, Prod.mk.injEq] at h
        exact absurd h.1.symm hm
    · rw [if_neg hm, if_neg hj]
      exact hs m j st

/-- A lane and the cue it holds give each other up. -/
theorem rolesAgree_release {s t : State} {l : Fin 4} {id : Nat} {st0 : CueState}
    (hl : ∀ m, (t.lane m).role = if m = l then none else (s.lane m).role)
    (hc : ∀ j, cueRole t j = if j = id then none else cueRole s j) (hrole : (s.lane l).role = some (id, st0))
    (hs : rolesAgree s) : rolesAgree t := by
  intro m j st
  rw [hl, hc]
  by_cases hm : m = l
  · subst hm
    rw [if_pos rfl]
    refine ⟨nofun, fun h => ?_⟩
    split at h
    · cases h
    next hj =>
      have hr := (hs m j st).2 h
      rw [hrole] at hr
      simp only [Option.some.injEq, Prod.mk.injEq] at hr
      exact absurd hr.1.symm hj
  · rw [if_neg hm]
    split
    next hj =>
      subst hj
      refine ⟨fun h => ?_, nofun⟩
      have hr := (hs m j st).1 h
      rw [(hs l j st0).1 hrole] at hr
      simp only [Option.some.injEq, Prod.mk.injEq] at hr
      exact absurd hr.1.symm hm
    · exact hs m j st

/-! ### Roles after a write to the cue table or a lane -/

theorem cueRole_congr {s t : State} (h : t.cues = s.cues) (id : Nat) : cueRole t id = cueRole s id := by
  unfold cueRole
  rw [cue_congr h]

theorem cueRole_setCue (s : State) (id j : Nat) (d : Cue) :
    cueRole (s.setCue id d) j = if j = id then d.role else cueRole s j := by
  unfold cueRole State.cue?
  rw [State.setCue_cues, tget_tput]
  split <;> rfl

theorem cueRole_dropCue (s : State) (id j : Nat) :
    cueRole (s.dropCue id) j = if j = id then none else cueRole s j := by
  unfold cueRole State.cue?
  rw [State.dropCue_cues, tget_tdel]
  split <;> rfl

/-- After the end of an occurrence no lane holds the cue. -/
theorem AfterOccurrence.cueRole {s t : State} {id : Nat} {c : Cue} (h : AfterOccurrence s id c t) (j : Nat) :
    cueRole t j = if j = id then none else Machine.cueRole s j := by
  rcases h.table with ⟨d, hd, -, hcues, -⟩ | ⟨d, hd, -, hcues, -⟩ | ⟨hcues, -⟩
  · rw [cueRole_congr (s := s.setCue id d) hcues, cueRole_setCue, Cue.role_eq_none.2 ⟨hd.notStaged, hd.notReleasing⟩]
  · rw [cueRole_congr (s := s.setCue id d) hcues, cueRole_setCue, Cue.role_eq_none.2 ⟨hd.notStaged, hd.notReleasing⟩]
  · rw [cueRole_congr (s := s.dropCue id) hcues, cueRole_dropCue]

theorem lane_setLane (s : State) (l m : Fin 4) (x : Lane) :
    (s.setLane l x).lane m = if m = l then x else s.lane m := by
  split
  next h => rw [h, lane_setLane_self]
  next h => exact lane_setLane_ne s l m x h

/-- Where one lane alone is replaced. -/
theorem lane_of_lanes {s t : State} {l : Fin 4} {x : Lane} (h : t.lanes = s.lanes.set l x) (m : Fin 4) :
    t.lane m = if m = l then x else s.lane m := by
  rw [← lane_setLane s l m x]
  exact lane_congr h m

/-! ### Lanes by themselves -/

/-- A lane that holds no cue and enters IDLE, from a state in which it is enabled. -/
theorem toIdle_inOrder {x : Lane} (hx : x.InOrder) (h : x.state ≠ .stopped) : x.toIdle.InOrder := by
  have hen : x.config.enabled ≠ false := fun he => h (hx.stopped.2 he)
  exact ⟨⟨nofun, fun he => absurd he hen⟩, fun _ => rfl, fun h => (by rcases h with h | h <;> cases h), nofun,
    ⟨nofun, fun h => (by rcases h.1 with h | h <;> cases h)⟩⟩

/-- A lane that flushes without a cue. -/
theorem toFlushing_inOrder {x : Lane} (hx : x.InOrder) (h : x.state ≠ .stopped) (hrel : x.release = none) :
    (x.toFlushing none).InOrder := by
  have hen : x.config.enabled ≠ false := fun he => h (hx.stopped.2 he)
  refine ⟨⟨nofun, fun he => absurd he hen⟩, fun _ => rfl, fun h => (by rcases h with h | h <;> cases h), nofun, ?_⟩
  show x.release.isSome = true ↔ _
  rw [hrel]
  exact ⟨nofun, fun h => by cases h.2⟩

/-- A lane whose cue has not started has no release. -/
theorem Lane.InOrder.release_none {x : Lane} (hx : x.InOrder) (h : x.state.holdsStaged = true) : x.release = none := by
  by_contra hn
  have hsome := hx.release.1 (Option.isSome_iff_ne_none.2 hn)
  rcases hsome.1 with hs | hs <;> rw [hs] at h <;> cases h

/-- What a lane asks of itself reads its state, whether it is enabled, its cue, its cut cause and its release. -/
theorem Lane.InOrder.congr {x y : Lane} (hx : x.InOrder) (hs : y.state = x.state)
    (hen : y.config.enabled = x.config.enabled) (hh : y.held = x.held) (hc : y.cutCause = x.cutCause)
    (hr : y.release = x.release) : y.InOrder := by
  obtain ⟨h1, h2, h3, h4, h5⟩ := hx
  exact ⟨by rw [hs, hen]; exact h1, by rw [hs, hh]; exact h2, by rw [hs, hh]; exact h3, by rw [hs, hh, hc]; exact h4,
    by rw [hs, hh, hr]; exact h5⟩

theorem Lane.role_congr {x y : Lane} (hs : y.state.holdsStaged = x.state.holdsStaged) (hh : y.held = x.held) :
    y.role = x.role := by
  unfold Lane.role
  rw [hs, hh]

/-- The lane after a cut that is to be reported. -/
theorem cut_inOrder {x : Lane} {cause : CutCause} (hx : x.InOrder) (h : x.state = .emitting)
    (hcause : cause ≠ .reset) :
    ({ (x.showAbort.toFlushing x.held) with release := x.release, cutCause := some cause } : Lane).InOrder
      ∧ ({ (x.showAbort.toFlushing x.held) with release := x.release, cutCause := some cause } : Lane).role = x.role := by
  have hen : x.showAbort.config = x.config := by
    unfold Lane.showAbort
    split <;> rfl
  refine ⟨⟨⟨nofun, fun he => ?_⟩, nofun, fun h => (by rcases h with h | h <;> cases h), fun _ _ => ?_, ?_⟩, ?_⟩
  · have he' : x.showAbort.config.enabled = false := he
    rw [hen] at he'
    have hst := hx.stopped.2 he'
    rw [h] at hst
    cases hst
  · show ((some cause).bind CutCause.result).isSome = true
    cases cause
    case reset => exact absurd rfl hcause
    all_goals rfl
  · refine hx.release.trans ⟨fun hh => ⟨.inr rfl, hh.2⟩, fun hh => ⟨.inl h, hh.2⟩⟩
  · exact Lane.role_congr (by rw [h]; rfl) rfl

end Sys2Proof.Machine
end

section
/-!
PROOFS. The payload store beside the cue table (O59): the blocks, the reference counts and the chunks, and what
writing an entry, freeing one, the end of an occurrence and each operation of the fill buffer keep of them.
-/

namespace Sys2Proof.Machine

/-! ### Tables as lists -/

/-- A table with an entry put at a key is that entry beside the rest. -/
theorem tput_perm {α : Type} {t : List (Nat × α)} (hs : sortedKeys t = true) (a : Nat) (x : α) :
    (tput t a x).Perm ((a, x) :: tdel t a) := by
  induction t with
  | nil => exact .refl _
  | cons e t ih =>
    obtain ⟨k, v⟩ := e
    obtain ⟨hk, hs'⟩ := (sortedKeys_cons k v t).1 hs
    have hrest : a ≤ k → tdel t a = t := fun hle =>
      List.filter_eq_self.2 (fun e he => decide_eq_true (Nat.ne_of_gt (Nat.lt_of_le_of_lt hle (hk e he))))
    unfold tput
    split
    next hlt =>
      rw [tdel, List.filter_cons, if_pos (by simpa using Nat.ne_of_gt hlt)]
      exact .cons _ (by rw [show List.filter _ t = tdel t a from rfl, hrest (Nat.le_of_lt hlt)])
    · split
      next heq =>
        rw [tdel, List.filter_cons, if_neg (by simpa using heq.symm)]
        exact .cons _ (by rw [show List.filter _ t = tdel t a from rfl, hrest (Nat.le_of_eq heq)])
      next hne =>
        rw [tdel, List.filter_cons, if_pos (by simpa using Ne.symm hne)]
        exact ((ih hs').cons _).trans (.swap _ _ _)

/-- A table with nothing at a key has nothing to remove there. -/
theorem tdel_of_tget_none {α : Type} {t : List (Nat × α)} {a : Nat} (h : tget t a = none) : tdel t a = t := by
  refine List.filter_eq_self.2 (fun e he => decide_eq_true ?_)
  induction t with
  | nil => cases he
  | cons f t ih =>
    obtain ⟨k, v⟩ := f
    unfold tget at h
    split at h
    · cases h
    next hne =>
      rcases List.mem_cons.1 he with rfl | he
      · exact Ne.symm hne
      · exact ih h he

theorem tput_of_tget {α : Type} {t : List (Nat × α)} {a : Nat} {x : α} (hs : sortedKeys t = true)
    (h : tget t a = some x) : tput t a x = t := by
  induction t with
  | nil => cases h
  | cons e t ih =>
    obtain ⟨k, v⟩ := e
    obtain ⟨hk, hs'⟩ := (sortedKeys_cons k v t).1 hs
    unfold tget at h
    unfold tput
    split at h
    next heq =>
      cases h
      rw [if_neg (by omega), if_pos heq, heq]
    next hne =>
      have hlt := hk _ (mem_of_tget h)
      rw [if_neg (by dsimp only at hlt; omega), if_neg hne, ih hs' h]

/-- An entry and the rest of its table. -/
theorem perm_of_tget {α : Type} {t : List (Nat × α)} {a : Nat} {x : α} (hs : sortedKeys t = true)
    (h : tget t a = some x) : t.Perm ((a, x) :: tdel t a) := by
  have hp := tput_perm hs a x
  rwa [tput_of_tget hs h] at hp

/-! ### Reference counts -/

/-- How many cues count towards a payload's reference count. -/
def refsTo (s : State) (id : Nat) : Nat :=
  s.cues.countP (fun c => c.2.counted && decide (c.2.payload = id))

/-- What one cue adds to a payload's reference count. -/
def Cue.countsFor (c : Cue) (id : Nat) : Nat := if c.counted && decide (c.payload = id) then 1 else 0

theorem refsTo_of_perm {s : State} {t : List (Nat × Cue)} {a : Nat} {c : Cue} (h : s.cues.Perm ((a, c) :: t))
    (id : Nat) :
    refsTo s id = t.countP (fun c => c.2.counted && decide (c.2.payload = id)) + c.countsFor id := by
  unfold refsTo Cue.countsFor
  rw [h.countP_eq, List.countP_cons]

/-- A record replaced trades its count for the new one's. -/
theorem refsTo_replaced {s t : State} {a : Nat} {c d : Cue} (hs : sortedKeys s.cues = true) (hc : s.cue? a = some c)
    (ht : t.cues = tput s.cues a d) (id : Nat) : refsTo t id + c.countsFor id = refsTo s id + d.countsFor id := by
  rw [refsTo_of_perm (perm_of_tget hs hc), refsTo_of_perm (s := t) (by rw [ht]; exact tput_perm hs a d)]
  omega

theorem refsTo_removed {s t : State} {a : Nat} {c : Cue} (hs : sortedKeys s.cues = true) (hc : s.cue? a = some c)
    (ht : t.cues = tdel s.cues a) (id : Nat) : refsTo t id + c.countsFor id = refsTo s id := by
  rw [refsTo_of_perm (perm_of_tget hs hc), refsTo, ht]

theorem refsTo_added {s t : State} {a : Nat} {d : Cue} (hs : sortedKeys s.cues = true) (hc : s.cue? a = none)
    (ht : t.cues = tput s.cues a d) (id : Nat) : refsTo t id = refsTo s id + d.countsFor id := by
  rw [refsTo_of_perm (s := t) (by rw [ht]; exact tput_perm hs a d), tdel_of_tget_none hc, refsTo]

/-- A payload with no counted cue is named by none. -/
theorem refsTo_eq_zero {s : State} {id : Nat} (h : refsTo s id = 0) (e : Nat × Cue) (he : e ∈ s.cues)
    (hc : e.2.counted = true) : e.2.payload ≠ id := by
  intro hp
  have hno := List.countP_eq_zero.1 h e he
  simp [hc, hp] at hno

/-! ### The store in order -/

/-- The directory and the pool: ids by rising order, nothing outside READY, and in READY every block once (R75). -/
structure Placed (s : State) : Prop where
  sorted : sortedKeys s.store.directory = true
  ids : ∀ e ∈ s.store.directory, e.1 < 256
  outside : s.device ≠ .ready → s.store.directory = [] ∧ s.store.pool = []
  blocks : ∀ p, s.device = .ready → s.mc.profile = some p →
    (s.store.pool ++ (s.store.directory.map (fun e => e.2.blocks)).flatten).Perm (List.range (blockCount p))

/-- The store beside the cues, but for the DOOMED payloads that the end of an event frees and for what the executing
request fills. -/
structure Stocked (s : State) : Prop where
  placed : Placed s
  refs : ∀ id p, s.payload? id = some p → p.refs = refsTo s id
  named : ∀ e ∈ s.cues, e.2.counted = true → ∃ p, s.payload? e.2.payload = some p ∧ p.state ≠ .filling
  chunks : ∀ k ∈ s.store.chunks, ∃ p, s.payload? k.payload = some p ∧ p.state = .filling

/-- The payload that the executing request fills, seals or deletes is FILLING, or freed. -/
def fillsFilling (s : State) : Prop :=
  ∀ id p, s.executing.bind Executing.fills = some id → s.payload? id = some p → p.state = .filling

/-- Every DOOMED payload has a cue left. -/
def doomedHeld (s : State) : Prop := ∀ e ∈ s.store.directory, e.2.state = .doomed → 0 < e.2.refs

theorem storeInvariant_iff (s : State) : storeInvariant s ↔ Stocked s ∧ fillsFilling s ∧ doomedHeld s := by
  constructor
  · rintro ⟨h1, h2, h3, h4, h5, h6, h7, h8⟩
    refine ⟨⟨⟨h1, h2, h3, h4⟩, fun id p hp => (h5 _ (mem_of_tget hp)).1, h6, h7⟩, fun id p he hp => ?_,
      fun e he => (h5 e he).2⟩
    obtain ⟨x, hx, hf⟩ := Option.bind_eq_some_iff.1 he
    exact h8 x id p hx hf hp
  · rintro ⟨⟨⟨h1, h2, h3, h4⟩, h5, h6, h7⟩, h8, h9⟩
    refine ⟨h1, h2, h3, h4, fun e he => ⟨h5 _ _ (tget_of_mem h1 he), h9 e he⟩, h6, h7, fun e id p he hf hp => ?_⟩
    exact h8 id p (by rw [he]; exact hf) hp

theorem Placed.congr {s t : State} (hdir : t.store.directory = s.store.directory) (hpool : t.store.pool = s.store.pool)
    (hd : t.device = s.device) (hp : t.mc.profile = s.mc.profile) (hs : Placed s) : Placed t := by
  obtain ⟨h1, h2, h3, h4⟩ := hs
  exact ⟨by rw [hdir]; exact h1, by rw [hdir]; exact h2, by rw [hdir, hpool, hd]; exact h3,
    by rw [hdir, hpool, hd, hp]; exact h4⟩

theorem payload?_congr {s t : State} (h : t.store.directory = s.store.directory) (id : Nat) :
    t.payload? id = s.payload? id := by
  unfold State.payload?
  rw [h]

theorem refsTo_congr {s t : State} (h : t.cues = s.cues) (id : Nat) : refsTo t id = refsTo s id := by
  unfold refsTo
  rw [h]

/-- The store is read from the directory, the pool, the chunks and the cue table. -/
theorem Stocked.congr {s t : State} (hcues : t.cues = s.cues) (hstore : t.store = s.store)
    (hd : t.device = s.device) (hp : t.mc.profile = s.mc.profile) (hs : Stocked s) : Stocked t := by
  have hdir : t.store.directory = s.store.directory := by rw [hstore]
  refine ⟨hs.placed.congr hdir (by rw [hstore]) hd hp, fun id p h => ?_, fun e he hc => ?_, fun k hk => ?_⟩
  · rw [refsTo_congr hcues]
    exact hs.refs id p (payload?_congr hdir id ▸ h)
  · rw [payload?_congr hdir]
    exact hs.named e (hcues ▸ he) hc
  · rw [payload?_congr hdir]
    exact hs.chunks k (hstore ▸ hk)

theorem fillsFilling_congr {s t : State} (hdir : t.store.directory = s.store.directory)
    (he : t.executing.bind Executing.fills = s.executing.bind Executing.fills) (hs : fillsFilling s) :
    fillsFilling t := by
  intro id p hf hp
  rw [he] at hf
  rw [payload?_congr hdir] at hp
  exact hs id p hf hp

theorem fillsFilling_of_idle {s : State} (h : s.executing = none) : fillsFilling s := by
  intro id p hf
  rw [h] at hf
  cases hf

/-! ### Entries -/

theorem payload?_setPayload (s : State) (id j : Nat) (p : Payload) :
    (s.setPayload id p).payload? j = if j = id then some p else s.payload? j :=
  tget_tput _ _ _ _

/-- Writing an entry with the blocks it has. -/
theorem Placed.setPayload {s : State} {id : Nat} {p q : Payload} (hs : Placed s) (hp : s.payload? id = some p)
    (hb : q.blocks = p.blocks) : Placed (s.setPayload id q) := by
  obtain ⟨h1, h2, h3, h4⟩ := hs
  refine ⟨sortedKeys_tput _ _ _ h1, fun e he => ?_, fun hd => ?_, fun f hd hf => ?_⟩
  · rcases mem_tput _ _ _ _ he with rfl | he
    · exact h2 (id, p) (mem_of_tget hp)
    · exact h2 e he
  · have hdir := (h3 hd).1
    unfold State.payload? at hp
    rw [hdir] at hp
    cases hp
  · refine .trans ?_ (h4 f hd hf)
    refine .append (.refl _) (List.Perm.flatten ?_)
    refine ((tput_perm h1 id q).map _).trans ?_
    refine .trans ?_ ((perm_of_tget h1 hp).map _).symm
    rw [List.map_cons, List.map_cons, hb]

/-- Writing an entry with its blocks and its reference count. -/
theorem Stocked.setPayload {s : State} {id : Nat} {p q : Payload} (hs : Stocked s) (hp : s.payload? id = some p)
    (hb : q.blocks = p.blocks) (hr : q.refs = p.refs) (hn : p.state ≠ .filling → q.state ≠ .filling)
    (hf : p.state = .filling → q.state = .filling ∨ (∀ k ∈ s.store.chunks, k.payload ≠ id)) :
    Stocked (s.setPayload id q) := by
  refine ⟨hs.placed.setPayload hp hb, fun j x hx => ?_, fun e he hc => ?_, fun k hk => ?_⟩
  · rw [payload?_setPayload] at hx
    split at hx
    next h =>
      cases hx
      rw [h, hr]
      exact hs.refs id p hp
    · exact hs.refs j x hx
  · obtain ⟨x, hx, hst⟩ := hs.named e he hc
    rw [payload?_setPayload]
    split
    next h =>
      rw [h] at hx
      cases hp.symm.trans hx
      exact ⟨q, rfl, hn hst⟩
    · exact ⟨x, hx, hst⟩
  · obtain ⟨x, hx, hst⟩ := hs.chunks k hk
    rw [payload?_setPayload]
    split
    next h =>
      rw [h] at hx
      cases hp.symm.trans hx
      rcases hf hst with hq | hq
      · exact ⟨q, rfl, hq⟩
      · exact absurd h (hq k hk)
    · exact ⟨x, hx, hst⟩

theorem fillsFilling_setPayload {s : State} {id : Nat} {p q : Payload} (hs : fillsFilling s)
    (hp : s.payload? id = some p) (hst : q.state = p.state) : fillsFilling (s.setPayload id q) := by
  intro j x hj hx
  rw [payload?_setPayload] at hx
  split at hx
  next h =>
    cases hx
    rw [hst]
    exact hs id p (h ▸ hj) hp
  · exact hs j x hj hx

theorem doomedHeld_setPayload {s : State} {id : Nat} {q : Payload} (hs : doomedHeld s)
    (hq : q.state = .doomed → 0 < q.refs) : doomedHeld (s.setPayload id q) := by
  intro e he
  rcases mem_tput _ _ _ _ he with rfl | he
  · exact hq
  · exact hs e he

/-! ### Freeing -/

theorem freePayload_directory (s : State) (id : Nat) :
    (s.freePayload id).store.directory = tdel s.store.directory id := by
  unfold State.freePayload
  split
  next h => exact (tdel_of_tget_none h).symm
  · rfl

theorem freePayload_chunks (s : State) (id : Nat) : (s.freePayload id).store.chunks = s.store.chunks := by
  unfold State.freePayload
  split <;> rfl

theorem payload?_freePayload (s : State) (id j : Nat) :
    (s.freePayload id).payload? j = if j = id then none else s.payload? j := by
  unfold State.payload?
  rw [freePayload_directory]
  exact tget_tdel _ _ _

/-- No counted cue and no chunk names the payload. -/
def freeable (s : State) (id : Nat) : Prop :=
  (∀ e ∈ s.cues, e.2.counted = true → e.2.payload ≠ id) ∧ ∀ k ∈ s.store.chunks, k.payload ≠ id

theorem Placed.freePayload {s : State} (id : Nat) (hs : Placed s) : Placed (s.freePayload id) := by
  obtain ⟨h1, h2, h3, h4⟩ := hs
  cases hp : s.payload? id with
  | none =>
    rw [State.freePayload, hp]
    exact ⟨h1, h2, h3, h4⟩
  | some p =>
    rw [State.freePayload, hp]
    refine ⟨sortedKeys_tdel _ _ h1, fun e he => h2 e (mem_tdel.1 he).1, fun hd => ?_, fun f hd hf => ?_⟩
    · unfold State.payload? at hp
      rw [(h3 hd).1] at hp
      cases hp
    · refine .trans ?_ (h4 f hd hf)
      have hperm := ((perm_of_tget h1 hp).map (fun e : Nat × Payload => e.2.blocks)).flatten
      rw [List.map_cons, List.flatten_cons] at hperm
      rw [List.append_assoc]
      exact .append (.refl _) hperm.symm

theorem Stocked.freePayload {s : State} {id : Nat} (hs : Stocked s) (hf : freeable s id) :
    Stocked (s.freePayload id) := by
  have hk := StoreOnly.freePayload s id
  refine ⟨hs.placed.freePayload id, fun j p hp => ?_, fun e he hc => ?_, fun k hk' => ?_⟩
  · rw [payload?_freePayload] at hp
    rw [refsTo_congr hk.cues]
    split at hp
    · cases hp
    · exact hs.refs j p hp
  · rw [hk.cues] at he
    rw [payload?_freePayload, if_neg (hf.1 e he hc)]
    exact hs.named e he hc
  · rw [freePayload_chunks] at hk'
    rw [payload?_freePayload, if_neg (hf.2 k hk')]
    exact hs.chunks k hk'

theorem fillsFilling_freePayload {s : State} (id : Nat) (hs : fillsFilling s) : fillsFilling (s.freePayload id) := by
  intro j p hj hp
  rw [(StoreOnly.freePayload s id).executing] at hj
  rw [payload?_freePayload] at hp
  split at hp
  · cases hp
  · exact hs j p hj hp

theorem doomedHeld_freePayload {s : State} (id : Nat) (hs : doomedHeld s) : doomedHeld (s.freePayload id) := by
  intro e he
  rw [freePayload_directory] at he
  exact hs e (mem_tdel.1 he).1

/-- A FILLING payload is named by no counted cue. -/
theorem Stocked.filling_unnamed {s : State} {id : Nat} {p : Payload} (hs : Stocked s) (hp : s.payload? id = some p)
    (hst : p.state = .filling) (e : Nat × Cue) (he : e ∈ s.cues) (hc : e.2.counted = true) : e.2.payload ≠ id := by
  intro heq
  obtain ⟨x, hx, hne⟩ := hs.named e he hc
  rw [heq] at hx
  cases hp.symm.trans hx
  exact hne hst

theorem not_holdsChunk {s : State} {id : Nat} (h : holdsChunk s id = false) (k : Chunk) (hk : k ∈ s.store.chunks) :
    k.payload ≠ id := by
  simpa using List.any_eq_false.1 h k hk

/-- Payloads freed one after another, each named by no counted cue and no chunk. -/
theorem Stocked.freeAll {s : State} (ids : List Nat) (hs : Stocked s) (hf : ∀ id ∈ ids, freeable s id) :
    Stocked (ids.foldl State.freePayload s) := by
  induction ids generalizing s with
  | nil => exact hs
  | cons id t ih =>
    refine ih (hs.freePayload (hf id List.mem_cons_self)) (fun j hj => ?_)
    unfold freeable
    rw [(StoreOnly.freePayload s id).cues, freePayload_chunks]
    exact hf j (List.mem_cons_of_mem _ hj)

theorem fillsFilling_freeAll {s : State} (ids : List Nat) (hs : fillsFilling s) :
    fillsFilling (ids.foldl State.freePayload s) :=
  foldl_keeps (fun _ id h => fillsFilling_freePayload id h) ids s hs

/-- What stays in the directory when payloads are freed. -/
theorem mem_freeAll {s : State} (ids : List Nat) {e : Nat × Payload}
    (h : e ∈ (ids.foldl State.freePayload s).store.directory) : e ∈ s.store.directory ∧ e.1 ∉ ids := by
  induction ids generalizing s with
  | nil => exact ⟨h, List.not_mem_nil⟩
  | cons id t ih =>
    obtain ⟨hmem, hnot⟩ := ih h
    rw [freePayload_directory] at hmem
    obtain ⟨hin, hne⟩ := mem_tdel.1 hmem
    exact ⟨hin, by simp [hne, hnot]⟩

theorem mem_doomedUnused {s : State} {id : Nat} (h : id ∈ doomedUnused s) :
    ∃ p, (id, p) ∈ s.store.directory ∧ p.state = .doomed ∧ p.refs = 0 := by
  unfold doomedUnused at h
  obtain ⟨e, he, rfl⟩ := List.mem_map.1 h
  obtain ⟨hmem, hcond⟩ := List.mem_filter.1 he
  simp only [Bool.and_eq_true, decide_eq_true_eq] at hcond
  exact ⟨e.2, hmem, hcond⟩

/-- The DOOMED payloads without cues are freed, and every DOOMED one that is left has a cue. -/
theorem Stocked.freeDoomed {s : State} (hs : Stocked s) : Stocked s.freeDoomed ∧ doomedHeld s.freeDoomed := by
  refine ⟨hs.freeAll _ (fun id hid => ?_), fun e he hst => ?_⟩
  · obtain ⟨p, hmem, hst, hzero⟩ := mem_doomedUnused hid
    have hp : s.payload? id = some p := tget_of_mem hs.placed.sorted hmem
    refine ⟨refsTo_eq_zero ((hs.refs id p hp).symm.trans hzero), fun k hk heq => ?_⟩
    obtain ⟨x, hx, hfill⟩ := hs.chunks k hk
    rw [heq] at hx
    cases hp.symm.trans hx
    rw [hst] at hfill
    cases hfill
  · obtain ⟨hin, hnot⟩ := mem_freeAll _ he
    refine Nat.pos_of_ne_zero (fun hzero => hnot ?_)
    exact List.mem_map.2 ⟨e, List.mem_filter.2 ⟨hin, by simp [hst, hzero]⟩, rfl⟩

/-! ### Cues -/

/-- The count of a payload that a cue gives up. -/
theorem dropRef_payload? (s : State) (id j : Nat) :
    (s.dropRef id).payload? j
      = if j = id then (s.payload? id).map (fun p => { p with refs := p.refs - 1 }) else s.payload? j := by
  unfold State.dropRef
  cases hp : s.payload? id with
  | none =>
    dsimp only
    split
    next h => rw [h, hp]; rfl
    · rfl
  | some p =>
    dsimp only
    rw [payload?_setPayload]
    rfl

theorem Placed.dropRef {s : State} (id : Nat) (hs : Placed s) : Placed (s.dropRef id) := by
  unfold State.dropRef
  split
  next p hp => exact hs.setPayload hp rfl
  · exact hs

/-- A counted cue leaves the table, or goes on uncounted, and its payload's count falls. -/
theorem Stocked.giveUpRef {s t : State} {c : Cue} (hs : Stocked s)
    (hcount : c.counted = true) (hstore : t.store = (s.dropRef c.payload).store) (hd : t.device = s.device)
    (hp : t.mc.profile = s.mc.profile) (hcues : ∀ e ∈ t.cues, e.2.counted = true → e ∈ s.cues)
    (hrefs : ∀ j, refsTo t j + c.countsFor j = refsTo s j) : Stocked t := by
  have hdir : t.store.directory = (s.dropRef c.payload).store.directory := by rw [hstore]
  have hget : ∀ j, t.payload? j
      = if j = c.payload then (s.payload? c.payload).map (fun p => { p with refs := p.refs - 1 })
        else s.payload? j := fun j => by rw [payload?_congr hdir, dropRef_payload?]
  have hkeeps : ∀ j p, s.payload? j = some p → ∃ q, t.payload? j = some q ∧ q.state = p.state := by
    intro j p hj
    rw [hget]
    split
    next h =>
      subst h
      rw [hj]
      exact ⟨_, rfl, rfl⟩
    · exact ⟨p, hj, rfl⟩
  have hchunks : t.store.chunks = s.store.chunks := by rw [hstore, dropRef_chunks]
  refine ⟨(hs.placed.dropRef c.payload).congr hdir (by rw [hstore]) ?_ ?_, fun j p hj => ?_, fun e he hce => ?_,
    fun k hk => ?_⟩
  · rw [hd, (StoreOnly.dropRef s c.payload).core.device]
  · rw [hp, (StoreOnly.dropRef s c.payload).profile]
  · rw [hget] at hj
    have hr := hrefs j
    split at hj
    next h =>
      subst h
      obtain ⟨p0, hp0, rfl⟩ := Option.map_eq_some_iff.1 hj
      have := hs.refs _ p0 hp0
      simp only [Cue.countsFor, hcount, decide_true, Bool.and_self, if_true] at hr
      dsimp only
      omega
    next h =>
      have := hs.refs j p hj
      simp only [Cue.countsFor, hcount, Bool.true_and, decide_eq_true_eq, if_neg (Ne.symm h)] at hr
      omega
  · obtain ⟨p, hp, hst⟩ := hs.named e (hcues e he hce) hce
    obtain ⟨q, hq, hqs⟩ := hkeeps _ p hp
    exact ⟨q, hq, hqs ▸ hst⟩
  · obtain ⟨p, hp, hst⟩ := hs.chunks k (hchunks ▸ hk)
    obtain ⟨q, hq, hqs⟩ := hkeeps _ p hp
    exact ⟨q, hq, hqs ▸ hst⟩

/-- A counted cue's record is replaced by a counted one of the same payload. -/
theorem Stocked.setCue {s t : State} {id : Nat} {c d : Cue} (hs : Stocked s) (hsorted : sortedKeys s.cues = true)
    (hc : s.cue? id = some c) (hcount : d.counted = c.counted) (hpay : d.payload = c.payload)
    (hcues : t.cues = tput s.cues id d) (hstore : t.store = s.store) (hd : t.device = s.device)
    (hp : t.mc.profile = s.mc.profile) : Stocked t := by
  have hdir : t.store.directory = s.store.directory := by rw [hstore]
  have hsame : ∀ j, d.countsFor j = c.countsFor j := fun j => by rw [Cue.countsFor, hcount, hpay, Cue.countsFor]
  refine ⟨hs.placed.congr hdir (by rw [hstore]) hd hp, fun j p hj => ?_, fun e he hce => ?_, fun k hk => ?_⟩
  · have h1 := refsTo_replaced hsorted hc hcues j
    have h2 := hs.refs j p (payload?_congr hdir j ▸ hj)
    have h3 := hsame j
    omega
  · rw [payload?_congr hdir]
    rw [hcues] at he
    rcases mem_tput _ _ _ _ he with rfl | he
    · rw [hpay]
      exact hs.named _ (mem_of_tget hc) (hcount ▸ hce)
    · exact hs.named e he hce
  · rw [payload?_congr hdir]
    exact hs.chunks k (hstore ▸ hk)

/-- The end of an occurrence of a counted cue. -/
theorem Stocked.afterOccurrence {s t : State} {id : Nat} {c : Cue} (hs : Stocked s) (hsorted : sortedKeys s.cues = true)
    (hc : s.cue? id = some c) (hcount : c.counted = true) (h : AfterOccurrence s id c t) : Stocked t := by
  have hp : t.mc.profile = s.mc.profile := by rw [h.mc]
  rcases h.table with ⟨d, hd, hdc, hcues, hstore⟩ | ⟨d, hd, hdc, hcues, hstore⟩ | ⟨hcues, hstore⟩
  · exact hs.setCue hsorted hc (hdc.trans hcount.symm) hd.payload hcues hstore h.core.device hp
  · refine hs.giveUpRef hcount hstore h.core.device hp (fun e he hce => ?_) (fun j => ?_)
    · rw [hcues] at he
      rcases mem_tput _ _ _ _ he with rfl | he
      · exact absurd (hdc.symm.trans hce) nofun
      · exact he
    · have hr := refsTo_replaced hsorted hc hcues j
      have hzero : d.countsFor j = 0 := by simp [Cue.countsFor, hdc]
      omega
  · refine hs.giveUpRef hcount hstore h.core.device hp (fun e he _ => ?_) (refsTo_removed hsorted hc hcues)
    rw [hcues] at he
    exact (mem_tdel.1 he).1

theorem AfterOccurrence.keeps_fills {s t : State} {id : Nat} {c : Cue} (h : AfterOccurrence s id c t)
    (hs : fillsFilling s) : fillsFilling t := by
  intro j p hj hp
  rw [h.fills] at hj
  have hstore : t.store = s.store ∨ t.store = (s.dropRef c.payload).store := by
    rcases h.table with ⟨-, -, -, -, hst⟩ | ⟨-, -, -, -, hst⟩ | ⟨-, hst⟩
    · exact .inl hst
    · exact .inr hst
    · exact .inr hst
  rcases hstore with hst | hst
  · rw [payload?_congr (s := s) (by rw [hst])] at hp
    exact hs j p hj hp
  · rw [payload?_congr (s := s.dropRef c.payload) (by rw [hst]), dropRef_payload?] at hp
    split at hp
    next heq =>
      obtain ⟨p0, hp0, rfl⟩ := Option.map_eq_some_iff.1 hp
      exact hs j p0 hj (heq ▸ hp0)
    · exact hs j p hj hp

/-! ### The fill buffer -/

/-- The fill buffer with fewer chunks, or the same ones further written. -/
theorem Stocked.setChunks {s : State} (cs : List Chunk) (h : ∀ k ∈ cs, ∃ k' ∈ s.store.chunks, k'.payload = k.payload)
    (hs : Stocked s) : Stocked (s.setChunks cs) := by
  refine ⟨.congr (s := s) rfl rfl rfl rfl hs.placed, hs.refs, hs.named, fun k hk => ?_⟩
  obtain ⟨k', hk', heq⟩ := h k hk
  rw [← heq]
  exact hs.chunks k' hk'

theorem Stocked.portOnly {s t : State} (h : PortOnly s t) (hs : Stocked s) : Stocked t :=
  hs.congr h.cues h.store h.core.device h.profile

theorem fillsFilling_portOnly {s t : State} (h : PortOnly s t) (hs : fillsFilling s) : fillsFilling t :=
  fillsFilling_congr (by rw [h.store]) (by rw [h.executing]) hs

theorem mem_withoutChunks {cs : List Chunk} {p : Nat} {keep : Bool} {k : Chunk} (h : k ∈ withoutChunks cs p keep) :
    k ∈ cs ∧ (keep = false → k.payload ≠ p) := by
  unfold withoutChunks at h
  split at h
  · cases h
  next c t =>
    dsimp only at h
    split at h
    · obtain ⟨hmem, hne⟩ := List.mem_filter.1 h
      exact ⟨List.mem_cons_of_mem _ hmem, fun _ => by simpa using hne⟩
    next hcond =>
      rcases List.mem_cons.1 h with rfl | h
      · exact ⟨List.mem_cons_self, fun hk heq => hcond ⟨heq, hk⟩⟩
      · obtain ⟨hmem, hne⟩ := List.mem_filter.1 h
        exact ⟨List.mem_cons_of_mem _ hmem, fun _ => by simpa using hne⟩

theorem Stocked.withoutChunks {s : State} (p : Nat) (keep : Bool) (hs : Stocked s) :
    Stocked (s.setChunks (withoutChunks s.store.chunks p keep)) :=
  hs.setChunks _ (fun k hk => ⟨k, (mem_withoutChunks hk).1, rfl⟩)

theorem Stocked.takeChunk {s : State} {p : Payload} {id : Nat} (o : Nat) (d : List Byte) (hs : Stocked s)
    (hp : s.payload? id = some p) (hst : p.state = .filling) : Stocked (takeChunk s id o d) := by
  rw [Machine.takeChunk, hp]
  dsimp only
  refine Stocked.portOnly (.placeFill _) ?_
  generalize hq : ({ p with
    fillOffset := p.fillOffset + d.length, running := crc32Extend p.running d } : Payload) = q
  have hput : Stocked (s.setPayload id q) := by
    subst hq
    exact hs.setPayload hp rfl rfl (fun h => absurd hst h) (fun _ => .inl hst)
  have hqst : q.state = .filling := by
    subst hq
    exact hst
  refine ⟨.congr (s := s.setPayload id q) rfl rfl rfl rfl hput.placed, hput.refs, hput.named, fun k hk => ?_⟩
  rcases List.mem_append.1 hk with hk | hk
  · exact hput.chunks k hk
  · obtain rfl := List.mem_singleton.1 hk
    exact ⟨q, by rw [show State.payload? (State.setChunks _ _) id = (s.setPayload id q).payload? id from rfl,
      payload?_setPayload, if_pos rfl], hqst⟩

theorem Stocked.ackHead {s : State} (n : Nat) (hs : Stocked s) : Stocked (ackHead s n) := by
  unfold Machine.ackHead
  split
  next c t hc =>
    split
    · exact hs.setChunks t (fun k hk => ⟨k, by rw [hc]; exact List.mem_cons_of_mem _ hk, rfl⟩)
    · refine hs.setChunks _ (fun k hk => ?_)
      rw [hc]
      rcases List.mem_cons.1 hk with rfl | hk
      · exact ⟨c, List.mem_cons_self, rfl⟩
      · exact ⟨k, List.mem_cons_of_mem _ hk, rfl⟩
  · exact hs

theorem ackHead_fills {s : State} (n : Nat) (hs : fillsFilling s) : fillsFilling (ackHead s n) := by
  unfold ackHead
  repeat' split
  all_goals exact hs

theorem Stocked.deleteChunks {s : State} (p : Nat) (hs : Stocked s) : Stocked (deleteChunks s p) := by
  unfold Machine.deleteChunks
  repeat' split
  · exact hs.withoutChunks p true
  · have h := (hs.portOnly (.giveUpRequest s .fill)).withoutChunks p false
    rw [(PortOnly.giveUpRequest s .fill).store] at h
    exact h.portOnly (.placeFill _)
  · exact hs.withoutChunks p false

theorem deleteChunks_directory (s : State) (p : Nat) : (deleteChunks s p).store.directory = s.store.directory := by
  unfold deleteChunks
  repeat' split
  · rfl
  · rw [(PortOnly.placeFill _).store]
    show (giveUpRequest s .fill).store.directory = _
    rw [(PortOnly.giveUpRequest s .fill).store]
  · rfl

theorem Stocked.freeLeft {s : State} (p : Nat) (hs : Stocked s) : Stocked (freeLeft s p) := by
  unfold Machine.freeLeft
  repeat' split
  next x hx hst =>
    refine (hs.withoutChunks p false).freePayload ⟨hs.filling_unnamed hx hst, fun k hk => ?_⟩
    exact (mem_withoutChunks hk).2 rfl
  all_goals exact hs

theorem freeLeft_fills {s : State} (p : Nat) (hs : fillsFilling s) : fillsFilling (freeLeft s p) := by
  unfold freeLeft
  repeat' split
  · exact fillsFilling_freePayload p (s := s.setChunks _) hs
  all_goals exact hs

theorem Stocked.fillDone {s : State} (n : Nat) (hs : Stocked s) : Stocked (fillDone s n) := by
  refine Stocked.portOnly (.placeFill _) ?_
  have h : Stocked ((Machine.ackHead s n).store.leaving.foldl Machine.freeLeft (Machine.ackHead s n)) :=
    foldl_keeps (fun _ p h => h.freeLeft p) _ _ (hs.ackHead n)
  exact ⟨.congr (s := (Machine.ackHead s n).store.leaving.foldl Machine.freeLeft (Machine.ackHead s n)) rfl rfl rfl rfl
    h.placed, h.refs, h.named, h.chunks⟩

theorem fillDone_fills {s : State} (n : Nat) (hs : fillsFilling s) : fillsFilling (fillDone s n) := by
  refine fillsFilling_portOnly (.placeFill _) ?_
  have h : fillsFilling ((ackHead s n).store.leaving.foldl freeLeft (ackHead s n)) :=
    foldl_keeps (fun _ p h => freeLeft_fills p h) _ _ (ackHead_fills n hs)
  exact h

end Sys2Proof.Machine
end

section
/-!
PROOFS. Cue table, lanes and payload store together, operation by operation (O59). Between the effect of an event and
its end a DOOMED payload may stand without a cue; all the rest holds all the time.
-/

namespace Sys2Proof.Machine

/-- Cue table, lanes and store in order, but for the DOOMED payloads that the end of an event frees. -/
structure Sound (s : State) : Prop where
  cues : cueInvariant s
  lane : ∀ l, (s.lane l).InOrder
  roles : rolesAgree s
  stock : Stocked s
  fills : fillsFilling s

namespace Sound

theorem congr {s t : State} (hcues : t.cues = s.cues) (hlanes : t.lanes = s.lanes) (hstore : t.store = s.store)
    (hd : t.device = s.device) (hp : t.mc.profile = s.mc.profile)
    (he : t.executing.bind Executing.fills = s.executing.bind Executing.fills) (hs : Sound s) : Sound t := by
  refine ⟨cueInvariant_congr hcues hs.cues, fun l => ?_, rolesAgree_congr (fun l => ?_) (cueRole_congr hcues) hs.roles,
    hs.stock.congr hcues hstore hd hp, fillsFilling_congr (by rw [hstore]) he hs.fills⟩
  · rw [lane_congr hlanes]
    exact hs.lane l
  · rw [lane_congr hlanes]

theorem portOnly {s t : State} (h : PortOnly s t) (hs : Sound s) : Sound t :=
  hs.congr h.cues h.lanes h.store h.core.device h.profile (by rw [h.executing])

theorem timeOnly {s t : State} (h : TimeOnly s t) (hs : Sound s) : Sound t :=
  hs.congr h.cues h.lanes h.store h.device (by rw [h.mc]) (by rw [h.executing])

/-- A store operation that keeps the store in order. -/
theorem storeOnly {s t : State} (h : StoreOnly s t) (hst : Stocked t) (hf : fillsFilling t) (hs : Sound s) :
    Sound t := by
  refine ⟨cueInvariant_congr h.cues hs.cues, fun l => ?_,
    rolesAgree_congr (fun l => by rw [lane_congr h.lanes]) (cueRole_congr h.cues) hs.roles, hst, hf⟩
  rw [lane_congr h.lanes]
  exact hs.lane l

/-- A lane that keeps its role. -/
theorem setLane {s : State} {l : Fin 4} {x : Lane} (hx : x.InOrder) (hr : x.role = (s.lane l).role) (hs : Sound s) :
    Sound (s.setLane l x) := by
  refine ⟨cueInvariant_congr (s := s) rfl hs.cues, fun m => ?_,
    rolesAgree_congr (s := s) (fun m => ?_) (fun _ => rfl) hs.roles, .congr (s := s) rfl rfl rfl rfl hs.stock, hs.fills⟩
  · rw [lane_setLane]
    split
    · exact hx
    · exact hs.lane m
  · rw [lane_setLane]
    split
    next h => rw [h, hr]
    · rfl

/-- A lane of which only the settings and counters of the emission change. -/
theorem setLane_same {s : State} {l : Fin 4} {x : Lane} (hst : x.state = (s.lane l).state)
    (hen : x.config = (s.lane l).config) (hh : x.held = (s.lane l).held) (hc : x.cutCause = (s.lane l).cutCause)
    (hr : x.release = (s.lane l).release) (hs : Sound s) : Sound (s.setLane l x) :=
  hs.setLane ((hs.lane l).congr hst (by rw [hen]) hh hc hr) (Lane.role_congr (by rw [hst]) hh)

/-- What a lane holds is a cue of the table, counted, whose role names the lane. -/
theorem held {s : State} {l : Fin 4} {id : Nat} {st : CueState} (hs : Sound s)
    (h : (s.lane l).role = some (id, st)) :
    ∃ c, s.cue? id = some c ∧ c.lane = l ∧ c.state = st ∧ c.counted = true := by
  obtain ⟨c, hc, hr⟩ := cueRole_eq_some.1 ((hs.roles l id st).1 h)
  obtain ⟨hl, hst, hor⟩ := Cue.role_eq_some.1 hr
  refine ⟨c, hc, hl, hst, ?_⟩
  rw [Cue.counted, hst]
  rcases hor with rfl | rfl <;> rfl

/-- A cue that no lane holds ends an occurrence. -/
theorem afterOccurrence {s t : State} {id : Nat} {c : Cue} (hs : Sound s) (hc : s.cue? id = some c)
    (hcount : c.counted = true) (hrole : c.role = none) (h : AfterOccurrence s id c t) : Sound t := by
  refine ⟨h.keeps_cues (cueInvariant_get hs.cues hc).1 hs.cues, fun l => ?_, rolesAgree_congr (fun l => ?_) (fun j => ?_)
    hs.roles, hs.stock.afterOccurrence hs.cues.1 hc hcount h, h.keeps_fills hs.fills⟩
  · rw [lane_congr h.lanes]
    exact hs.lane l
  · rw [lane_congr h.lanes]
  · rw [h.cueRole]
    split
    next hj =>
      rw [hj, cueRole, hc]
      exact hrole.symm
    · rfl

/-- A lane gives up its cue, and an occurrence of the cue ends. -/
theorem afterRelease {s u t : State} {l : Fin 4} {x : Lane} {id : Nat} {st : CueState} {c : Cue} (hs : Sound s)
    (hrole : (s.lane l).role = some (id, st)) (hc : s.cue? id = some c) (hx : x.InOrder) (hxr : x.role = none)
    (hlanes : u.lanes = s.lanes.set l x) (hcues : u.cues = s.cues) (hstock : Stocked u) (hfills : fillsFilling u)
    (h : AfterOccurrence u id c t) : Sound t := by
  obtain ⟨c', hc', -, -, hcount⟩ := hs.held hrole
  cases hc.symm.trans hc'
  have hcu : u.cue? id = some c := by rw [cue_congr hcues]; exact hc
  have hcue := cueInvariant_congr hcues hs.cues
  have hlane := lane_of_lanes (t := t) (h.lanes.trans hlanes)
  refine ⟨h.keeps_cues (cueInvariant_get hcue hcu).1 hcue, fun m => ?_,
    rolesAgree_release (l := l) (fun m => ?_) (fun j => ?_) hrole hs.roles,
    hstock.afterOccurrence hcue.1 hcu hcount h, h.keeps_fills hfills⟩
  · rw [hlane]
    split
    · exact hx
    · exact hs.lane m
  · rw [hlane]
    split
    · exact hxr
    · rfl
  · rw [h.cueRole, cueRole_congr hcues]

/-! ### A release -/

theorem markMismatch {s : State} (p : Nat) (hs : Sound s) : Sound (markMismatch s p) := by
  unfold Machine.markMismatch
  split
  next x hx =>
    refine hs.storeOnly (.setPayload s p _) ?_ ?_
    · exact hs.stock.setPayload hx rfl rfl id .inl
    · exact fillsFilling_setPayload hs.fills hx rfl
  · exact hs

theorem completeRelease {s : State} {l : Fin 4} (hem : (s.lane l).state = .emitting) (hs : Sound s) :
    Sound (completeRelease s l) := by
  obtain ⟨h, hh⟩ := Option.isSome_iff_exists.1 ((hs.lane l).holds (.inr hem))
  have hrole : (s.lane l).role = some (h.cue, .releasing) :=
    Lane.role_eq_some.2 ⟨h, hh, rfl, by rw [hem]; rfl⟩
  obtain ⟨c, hc, -⟩ := hs.held hrole
  have hidle : (s.lane l).toIdle.InOrder := toIdle_inOrder (hs.lane l) (by rw [hem]; exact nofun)
  unfold Machine.completeRelease
  simp only [hh]
  generalize hv : (if checkFaultFlag h.check (s.lane l).verify then Machine.markMismatch s h.payload else s) = v
  have hkept : StoreOnly s v ∧ Sound v := by
    rw [← hv]
    split
    · exact ⟨.markMismatch _ _, hs.markMismatch _⟩
    · exact ⟨.refl s, hs⟩
  obtain ⟨honly, hsv⟩ := hkept
  have hcv : (v.setLane l (s.lane l).toIdle).cue? h.cue = some c := by
    rw [cue_congr (s := s) (t := v.setLane l (s.lane l).toIdle) honly.cues]
    exact hc
  rw [hcv]
  dsimp only
  exact hs.afterRelease (u := v.setLane l (s.lane l).toIdle) hrole hc hidle rfl
        (congrArg (Quad.set · l _) honly.lanes) honly.cues
    (.congr (s := v) rfl rfl rfl rfl hsv.stock) hsv.fills (endReleased_after _ _ _ _ _ _ _)

theorem departByte {s : State} {l : Fin 4} (hem : (s.lane l).state = .emitting) (hs : Sound s) :
    Sound (departByte s l) := by
  unfold Machine.departByte
  dsimp only
  split
  · split
    · exact completeRelease (by rw [lane_setLane_self]; exact hem) (hs.setLane_same rfl rfl rfl rfl rfl)
    · exact portOnly (.placeLaneRead _ _) (hs.setLane_same rfl rfl rfl rfl rfl)
  · exact hs

/-- The lane and the cue at the start of a release. -/
theorem startRelease {s : State} {l : Fin 4} {due : Nat} (h : startDue s l = some due) (hs : Sound s) :
    Sound (startRelease s l due) := by
  obtain ⟨x, c, hh, hc, hd, hst⟩ := startDue_eq_some h
  have hrole : (s.lane l).role = some (x.cue, .staged) := Lane.role_eq_some.2 ⟨x, hh, rfl, if_pos hst⟩
  obtain ⟨c', hc', hl, hcs, hcount⟩ := hs.held hrole
  cases hc.symm.trans hc'
  have hen : (s.lane l).config.enabled ≠ false := by
    intro he
    rw [(hs.lane l).stopped.2 he] at hst
    cases hst
  unfold Machine.startRelease
  simp only [hh, hc]
  generalize hu : State.setLane _ l _ = u
  generalize hcued : ({ c with
    state := .releasing, started := some { time := s.time.device, lateness := s.time.device - due } } : Cue) = d at hu
  generalize hxl : ({ s.lane l with
    state := .emitting, held := some x,
    release := some {
      start := s.time.device, lateness := s.time.device - due,
      late := lateFlag (s.time.device - due) c.tolerance } } : Lane) = y at hu
  have hlanes : u.lanes = s.lanes.set l y := by
    rw [← hu]
    split <;> rfl
  have hcues : u.cues = tput s.cues x.cue d := by
    rw [← hu]
    split <;> rfl
  have hrest : u.store = s.store ∧ u.device = s.device ∧ u.mc = s.mc ∧ u.executing = s.executing := by
    rw [← hu]
    split <;> exact ⟨rfl, rfl, rfl, rfl⟩
  obtain ⟨hstore, hdev, hmc, hexec⟩ := hrest
  have hlane := lane_of_lanes hlanes
  have hd' : d.dueFits ∧ d.counted = true ∧ d.payload = c.payload ∧ d.role = some (l, .releasing) := by
    rw [← hcued]
    refine ⟨by simp [Cue.dueFits, hd], rfl, rfl, Cue.role_eq_some.2 ⟨hl, rfl, .inr rfl⟩⟩
  obtain ⟨hdue, hdc, hdp, hdr⟩ := hd'
  have hy : y.InOrder ∧ y.role = some (x.cue, .releasing) ∧ y.state = .emitting := by
    rw [← hxl]
    refine ⟨⟨⟨nofun, fun he => absurd he hen⟩, nofun, fun _ => rfl, nofun,
      ⟨fun _ => ⟨.inl rfl, rfl⟩, fun _ => rfl⟩⟩, Lane.role_eq_some.2 ⟨x, rfl, rfl, rfl⟩, rfl⟩
  obtain ⟨hyo, hyr, hys⟩ := hy
  refine departByte (by rw [hlane, if_pos rfl]; exact hys) ⟨?_, fun m => ?_, rolesAgree_take (l := l) (id := x.cue)
    (st' := .releasing) (fun m => ?_) (fun j => ?_) (.inl ⟨_, hrole⟩) hs.roles,
    hs.stock.setCue hs.cues.1 hc (hdc.trans hcount.symm) hdp hcues hstore hdev (by rw [hmc]),
    fillsFilling_congr (by rw [hstore]) (by rw [hexec]) hs.fills⟩
  · exact cueInvariant_congr hcues (setCue_keeps_cues hs.cues (cueInvariant_get hs.cues hc).1 hdue)
  · rw [hlane]
    split
    · exact hyo
    · exact hs.lane m
  · rw [hlane]
    split
    · exact hyr
    · rfl
  · rw [cueRole_congr (s := s.setCue x.cue d) hcues, cueRole_setCue, hdr]

theorem tryStart {s : State} (l : Fin 4) (hs : Sound s) : Sound (tryStart s l) := by
  unfold Machine.tryStart
  split
  next hdue => exact hs.startRelease hdue
  · exact hs

/-! ### Unstaging, cutting and flushing -/

end Sound

theorem unstage_eq {s : State} {l : Fin 4} (h : (s.lane l).state.holdsStaged = true) :
    unstage s l = giveUpRequest (s.setLane l ((s.lane l).toFlushing none)) (.lane l) := by
  unfold unstage
  dsimp only
  rw [if_pos h]

theorem unstage_rest {s : State} {l : Fin 4} (h : (s.lane l).state.holdsStaged = false) : unstage s l = s := by
  unfold unstage
  dsimp only
  rw [if_neg (by simp [h])]

/-- A lane that holds a staged cue, without it. -/
theorem Lane.InOrder.unstaged {x : Lane} (hx : x.InOrder) (h : x.state.holdsStaged = true) :
    (x.toFlushing none).InOrder :=
  toFlushing_inOrder hx (fun hs => by rw [hs] at h; cases h) (hx.release_none h)

namespace Sound

/-- A staged cue leaves its lane, and an occurrence of it ends. -/
theorem afterUnstage {s t : State} {l : Fin 4} {id : Nat} {c : Cue} (hs : Sound s)
    (hrole : (s.lane l).role = some (id, .staged)) (hc : s.cue? id = some c)
    (h : AfterOccurrence (unstage s l) id c t) : Sound t := by
  have hst := Lane.role_staged hrole
  rw [unstage_eq hst] at h
  have hport := PortOnly.giveUpRequest (s.setLane l ((s.lane l).toFlushing none)) (.lane l)
  have hstock : Stocked (s.setLane l ((s.lane l).toFlushing none)) := .congr (s := s) rfl rfl rfl rfl hs.stock
  exact hs.afterRelease hrole hc ((hs.lane l).unstaged hst) rfl hport.lanes hport.cues (hstock.portOnly hport)
    (fillsFilling_portOnly hport hs.fills) h

theorem cutLane {s : State} (l : Fin 4) {cause : CutCause} (hcause : cause ≠ .reset) (hs : Sound s) :
    Sound (cutLane s l cause) := by
  unfold Machine.cutLane
  dsimp only
  split
  next hem =>
    obtain ⟨hx, hr⟩ := cut_inOrder (hs.lane l) hem hcause
    exact portOnly (.giveUpRequest _ _) (hs.setLane hx hr)
  · exact hs

theorem endFlush {s : State} (l : Fin 4) (hs : Sound s) : Sound (endFlush s l) := by
  unfold Machine.endFlush
  split
  next hover =>
    simp only [flushOver, Bool.and_eq_true, decide_eq_true_eq] at hover
    have hfl := hover.1
    have hidle : (s.lane l).toIdle.InOrder := toIdle_inOrder (hs.lane l) (by rw [hfl]; exact nofun)
    unfold reportCut
    cases hh : (s.lane l).held with
    | none =>
      dsimp only
      exact hs.setLane hidle (by rw [Lane.role_of_held_none hh]; rfl)
    | some h =>
      have hrole : (s.lane l).role = some (h.cue, .releasing) := Lane.role_eq_some.2 ⟨h, hh, rfl, by rw [hfl]; rfl⟩
      obtain ⟨c, hc, -⟩ := hs.held hrole
      obtain ⟨r, hr⟩ := Option.isSome_iff_exists.1 ((hs.lane l).cut hfl (by rw [hh]; rfl))
      have hc' : (s.setLane l (s.lane l).toIdle).cue? h.cue = some c := hc
      dsimp only
      rw [hc', hr]
      dsimp only
      exact hs.afterRelease (u := s.setLane l (s.lane l).toIdle) hrole hc hidle rfl rfl rfl
        (.congr (s := s) rfl rfl rfl rfl hs.stock) hs.fills
        (endReleased_after _ _ _ _ _ _ _)
  · exact hs

/-! ### Choosing -/

theorem pickFor {s : State} (l : Fin 4) (hs : Sound s) : Sound (pickFor s l) := by
  unfold Machine.pickFor
  split
  next hidle =>
    split
    next id c hcand =>
      obtain ⟨hmem, hl, hst⟩ := candidate_spec hcand
      have hc : s.cue? id = some c := tget_of_mem hs.cues.1 hmem
      obtain ⟨hid, hdue⟩ := hs.cues.2 _ hmem
      have hcount : c.counted = true := by rcases hst with hst | hst <;> simp_all [Cue.counted]
      have hnone : cueRole s id = none := by
        rw [cueRole, hc]
        exact Cue.role_eq_none.2 (by rcases hst with hst | hst <;> simp_all)
      have hheld : (s.lane l).held = none := (hs.lane l).rest (by rw [hidle]; rfl)
      have hen : (s.lane l).config.enabled ≠ false := by
        intro he
        have := (hs.lane l).stopped.2 he
        rw [hidle] at this
        cases this
      unfold pickCue
      split
      next p hp =>
        refine portOnly (.placeLaneRead _ _) ?_
        generalize hy : (s.lane l).stagedFor (heldCueOf id c p) c.options.verify = y
        have hyo : y.InOrder ∧ y.role = some (id, .staged) := by
          rw [← hy]
          exact ⟨⟨⟨nofun, fun he => absurd he hen⟩, nofun, fun _ => rfl, nofun,
            ⟨nofun, fun h => (by rcases h.1 with h | h <;> cases h)⟩⟩, rfl⟩
        have hlane : ∀ m, ((s.setCue id { c with state := .staged }).setLane l y).lane m
            = if m = l then y else s.lane m := fun m => lane_setLane _ _ _ _
        have hrec : cueInvariant (s.setCue id { c with state := .staged }) := by
          refine setCue_keeps_cues hs.cues hid ?_
          rcases hst with hst | hst <;> simp_all [Cue.dueFits]
        change Sound ((s.setCue id { c with state := .staged }).setLane l
          ((s.lane l).stagedFor (heldCueOf id c p) c.options.verify))
        rw [hy]
        refine ⟨cueInvariant_congr (s := s.setCue id { c with state := .staged }) rfl hrec, fun m => ?_,
          rolesAgree_take (l := l) (id := id) (st' := .staged) (fun m => ?_) (fun j => ?_)
            (.inr ⟨Lane.role_of_held_none hheld, hnone⟩) hs.roles,
          hs.stock.setCue (d := { c with state := .staged }) hs.cues.1 hc hcount.symm rfl rfl rfl rfl rfl, hs.fills⟩
        · rw [hlane]
          split
          · exact hyo.1
          · exact hs.lane m
        · rw [hlane]
          split
          · exact hyo.2
          · rfl
        · rw [cueRole_congr (s := s.setCue id { c with state := .staged })
            (t := (s.setCue id { c with state := .staged }).setLane l y) rfl, cueRole_setCue]
          split
          · exact Cue.role_eq_some.2 ⟨hl, rfl, .inl rfl⟩
          · rfl
      · exact hs
    · exact hs
  · exact hs

theorem restage (s0 : State) {s : State} (l : Fin 4) (hs : Sound s) : Sound (restage s0 s l) := by
  unfold Machine.restage
  split
  next hcond =>
    have hst : (s.lane l).state.holdsStaged = true := (Bool.and_eq_true_iff.1 hcond).1
    repeat' split
    next h hh _ c hc _ =>
      have hrole : (s.lane l).role = some (h.cue, .staged) := Lane.role_eq_some.2 ⟨h, hh, rfl, if_pos hst⟩
      -- the order of the two writes, to the slot and to the lane, does not matter
      have back : ∀ d, c.GoesOnAs d → d.counted = true → Sound (unstage (s.setCue h.cue d) l) := by
        intro d hd hdc
        have hst' : ((s.setCue h.cue d).lane l).state.holdsStaged = true := hst
        rw [unstage_eq hst']
        refine portOnly (.giveUpRequest _ _) ?_
        exact hs.afterRelease (u := s.setLane l ((s.lane l).toFlushing none)) hrole hc
          ((hs.lane l).unstaged hst) rfl rfl rfl (.congr (s := s) rfl rfl rfl rfl hs.stock) hs.fills
          (.setCue _ h.cue hd hdc)
      unfold giveBack
      dsimp only
      split
      · exact back _ (.toArmed rfl rfl _) rfl
      · exact back _ (.toPending rfl rfl _) rfl
    all_goals exact hs
  · exact hs

theorem settleLane (s0 : State) {s : State} (l : Fin 4) (hs : Sound s) : Sound (settleLane s0 s l) :=
  (((hs.endFlush l).restage s0 l).endFlush l).pickFor l

theorem settleLanes (s0 : State) {s : State} (hs : Sound s) : Sound (settleLanes s0 s) :=
  foldl_keeps (fun _ l h => h.settleLane s0 l) fours s hs

/-! ### Slots and holds -/

theorem resolveSlot {s : State} {l : Fin 4} (hem : (s.lane l).state = .emitting) (hs : Sound s) :
    Sound (resolveSlot s l) := by
  unfold Machine.resolveSlot
  split
  · exact hs.cutLane l nofun
  · exact hs.departByte hem

theorem takeSlot {s : State} (l : Fin 4) (hs : Sound s) : Sound (takeSlot s l) := by
  unfold Machine.takeSlot
  dsimp only
  split
  next hem =>
    split
    · exact hs.setLane_same rfl rfl rfl rfl rfl
    · exact hs.resolveSlot hem
  · exact hs

theorem holdOn {s : State} (l : Fin 4) (hs : Sound s) : Sound (holdOn s l) := by
  unfold Machine.holdOn
  dsimp only
  split
  · exact hs
  · exact hs.setLane_same rfl rfl rfl rfl rfl

theorem holdOff {s : State} (l : Fin 4) (hs : Sound s) : Sound (holdOff s l) := by
  unfold Machine.holdOff
  dsimp only
  split
  next h => exact resolveSlot (by rw [lane_setLane_self]; exact h.1) (hs.setLane_same rfl rfl rfl rfl rfl)
  · exact tryStart l (hs.setLane_same rfl rfl rfl rfl rfl)

/-- Bytes that join a lane's buffer leave its role. -/
theorem join {s : State} {l : Fin 4} (h : HeldCue) (bytes : List Byte) (hs : Sound s) :
    Sound (s.setLane l ((s.lane l).join h bytes)) := by
  obtain ⟨h1, h2, h3, h4, h5⟩ := hs.lane l
  unfold Lane.join
  dsimp only
  split
  next hcond =>
    refine hs.setLane ⟨⟨nofun, fun he => ?_⟩, nofun, fun _ => h3 (.inl (by rw [hcond.1]; rfl)), nofun, ?_⟩ ?_
    · have hstop := h1.2 he
      rw [hcond.1] at hstop
      cases hstop
    · rw [hcond.1] at h5
      refine h5.trans ⟨fun hh => ?_, fun hh => ?_⟩
      · rcases hh.1 with hh | hh <;> cases hh
      · rcases hh.1 with hh | hh <;> cases hh
    · exact Lane.role_congr (by rw [hcond.1]; rfl) rfl
  · exact hs.setLane_same rfl rfl rfl rfl rfl

theorem deliverLane {s : State} (l : Fin 4) (bytes : List Byte) (hs : Sound s) : Sound (deliverLane s l bytes) := by
  unfold Machine.deliverLane
  dsimp only
  split
  · split
    · exact portOnly (.placeLaneRead _ _) ((hs.join _ bytes).tryStart l)
    · exact hs
  · exact hs

/-! ### Time -/

theorem reachDue {s : State} (id : Nat) (hs : Sound s) : Sound (reachDue s id) := by
  unfold Machine.reachDue
  dsimp only
  split
  next c hc =>
    split
    next hcond =>
      have hcount : c.counted = true := by simp [Cue.counted, hcond.1]
      have hrole : c.role = none := Cue.role_eq_none.2 (by simp [hcond.1])
      repeat' split
      · exact hs.afterOccurrence hc hcount hrole (endSkipped_after _ _ _ _)
      · exact hs.afterOccurrence hc hcount hrole (endSkipped_after _ _ _ _)
      · exact hs.afterOccurrence hc hcount hrole (.setCue _ _ (.toPending rfl rfl _) rfl)
    · exact hs
  · exact hs

/-- The lane of a staged cue holds it. -/
theorem role_of_staged {s : State} {id : Nat} {c : Cue} (hs : Sound s) (hc : s.cue? id = some c)
    (hst : c.state = .staged) : (s.lane c.lane).role = some (id, .staged) :=
  (hs.roles _ _ _).2 (cueRole_eq_some.2 ⟨c, hc, Cue.role_eq_some.2 ⟨rfl, hst, .inl rfl⟩⟩)

theorem expireCue {s : State} (id : Nat) (hs : Sound s) : Sound (expireCue s id) := by
  unfold Machine.expireCue
  split
  next c hc =>
    split
    · split
      next hst => exact hs.afterUnstage (hs.role_of_staged hc hst) hc (endSkipped_after _ _ _ _)
      next hst =>
        exact hs.afterOccurrence hc (by simp [Cue.counted, hst]) (Cue.role_eq_none.2 (by simp [hst]))
          (endSkipped_after _ _ _ _)
      · exact hs
    · exact hs
  · exact hs

theorem timeCue {s : State} (id : Nat) (hs : Sound s) : Sound (timeCue s id) := by
  unfold Machine.timeCue
  repeat' split
  · exact hs.reachDue id
  · exact hs.expireCue id
  · exact hs

theorem forwardChange {s : State} (hs : Sound s) : Sound (forwardChange s) :=
  foldl_keeps (fun _ l h => h.tryStart l) _ _ (foldl_keeps (fun _ id h => h.timeCue id) _ _ hs)

theorem advanceTo {s : State} (t : Nat) (hs : Sound s) : Sound (advanceTo s t) := by
  have hset : Sound (s.setDevice t) := timeOnly (s := s) rfl hs
  unfold Machine.advanceTo
  split
  · exact (hset.timeOnly (testEnd_time _)).forwardChange
  · exact hset

theorem tickTime {s : State} (hs : Sound s) : Sound (tickTime s) := by
  have h0 : Sound (countElapsed s) := timeOnly (s := s) rfl hs
  unfold Machine.tickTime tickDevice adjustTime
  dsimp only
  repeat' split
  · exact h0
  · exact (h0.timeOnly (countSlew_time _ _)).advanceTo _
  · exact h0.timeOnly (countSlew_time _ _)
  · exact h0.advanceTo _

end Sound

/-- Reading a table whose values have been changed one by one. -/
theorem tget_map {α : Type} (t : List (Nat × α)) (f : Nat × α → Nat × α) (hf : ∀ e, (f e).1 = e.1) (a : Nat) :
    tget (t.map f) a = (tget t a).map (fun x => (f (a, x)).2) := by
  induction t with
  | nil => rfl
  | cons e t ih =>
    obtain ⟨k, v⟩ := e
    rw [List.map_cons, show f (k, v) = (k, (f (k, v)).2) from Prod.ext (hf (k, v)) rfl, tget, tget]
    split
    next h => rw [h]; rfl
    · exact ih

/-- The cue table with its records changed one by one, none of them in its payload or in whether it counts. -/
theorem Stocked.mapCues {s t : State} {f : Nat × Cue → Nat × Cue} (hs : Stocked s) (ht : t.cues = s.cues.map f)
    (hpay : ∀ e, (f e).2.payload = e.2.payload) (hcount : ∀ e, (f e).2.counted = e.2.counted)
    (hstore : t.store = s.store) (hd : t.device = s.device) (hp : t.mc.profile = s.mc.profile) : Stocked t := by
  have hdir : t.store.directory = s.store.directory := by rw [hstore]
  refine ⟨hs.placed.congr hdir (by rw [hstore]) hd hp, fun j p hj => ?_, fun e he hce => ?_, fun k hk => ?_⟩
  · rw [refsTo, ht, List.countP_map]
    have hsame : ((fun c : Nat × Cue => c.2.counted && decide (c.2.payload = j)) ∘ f)
        = fun c => c.2.counted && decide (c.2.payload = j) := by
      funext e
      simp only [Function.comp_apply, hpay, hcount]
    rw [hsame]
    exact hs.refs j p (payload?_congr hdir j ▸ hj)
  · rw [ht] at he
    obtain ⟨a, ha, rfl⟩ := List.mem_map.1 he
    rw [payload?_congr hdir, hpay]
    exact hs.named a ha (hcount a ▸ hce)
  · rw [payload?_congr hdir]
    exact hs.chunks k (hstore ▸ hk)

namespace Sound

/-- The cues that a stamp releases. -/
theorem sampleLine {s : State} (i : Fin 4) (level : Bool) (hs : Sound s) : Sound (sampleLine s i level) := by
  have keyed : ∀ (p : Stamp) (n : Nat), Sound { s with cues := releaseByStamp s.cues i p n } := by
    intro p n
    have hrec : ∀ e : Nat × Cue, e.2.releasedBy i p n = true → e.2.state = .triggerWait := by
      intro e he
      unfold Cue.releasedBy at he
      split at he
      · simp only [Bool.and_eq_true, decide_eq_true_eq] at he
        exact he.1.1.1.1
      · cases he
    refine ⟨releaseByStamp_keeps_cues i p n rfl hs.cues, hs.lane,
      rolesAgree_congr (s := s) (fun _ => rfl) (fun j => ?_) hs.roles,
      hs.stock.mapCues rfl (fun e => ?_) (fun e => ?_) rfl rfl rfl, hs.fills⟩
    · show (tget (s.cues.map _) j).bind Cue.role = (tget s.cues j).bind Cue.role
      have hkey : ∀ e : Nat × Cue,
          (if e.2.releasedBy i p n then (e.1, e.2.toArmed (p.time + e.2.triggerOffset)) else e).1 = e.1 := by
        intro e
        split <;> rfl
      rw [tget_map _ _ hkey]
      cases tget s.cues j with
      | none => rfl
      | some c =>
        simp only [Option.map_some, Option.bind_some]
        split
        next h =>
          have hw : c.state = .triggerWait := hrec (j, c) h
          have hold : c.role = none := Cue.role_eq_none.2 ⟨by simp [hw], by simp [hw]⟩
          rw [hold]
          exact Cue.role_eq_none.2 ⟨nofun, nofun⟩
        · rfl
    · split <;> rfl
    · split
      next h => simp [Cue.counted, Cue.toArmed, hrec e h]
      · rfl
  unfold Machine.sampleLine
  dsimp only
  repeat' split
  next e _ _ =>
    refine (keyed { time := s.time.device, edge := e } (s.triggers.recorded + 1)).congr (recordStamp_cues _ _ _)
      ?_ ?_ ?_ ?_ ?_
    all_goals
      unfold recordStamp
      dsimp only
      split <;> rfl
  all_goals exact timeOnly (s := s) rfl hs

end Sound

end Sys2Proof.Machine
end

section
/-!
PROOFS. What an event ends with, and the effects of events, beside cue table, lanes and store in order (O59).
-/

namespace Sys2Proof.Machine

/-! ### The ends of the requests that wait -/

theorem HostOnly.doomedHeld {s t : State} (h : HostOnly s t) (hs : doomedHeld s) : doomedHeld t := by
  unfold Machine.doomedHeld
  rw [h.store]
  exact hs

/-- The host side changes, and with it perhaps the executing request. -/
theorem Sound.hostOnly {s t : State} (h : HostOnly s t) (hf : fillsFilling t) (hs : Sound s) : Sound t :=
  ⟨cueInvariant_congr h.cues hs.cues, fun l => by rw [lane_congr h.lanes]; exact hs.lane l,
    rolesAgree_congr (fun l => by rw [lane_congr h.lanes]) (cueRole_congr h.cues) hs.roles,
    hs.stock.congr h.cues h.store h.device (by rw [h.mc]), hf⟩

theorem endExecution_executing (s : State) (seq code : Byte) (st : Status) (r : List Byte) :
    (endExecution s seq code st r).executing = none := by
  unfold endExecution syncDeferred
  split <;> rfl

/-- A request ends, and with it what it filled. -/
theorem Sound.endExecution {s : State} (seq code : Byte) (st : Status) (r : List Byte) (hs : Sound s) :
    Sound (endExecution s seq code st r) :=
  hs.hostOnly (.endExecution _ _ _ _ _) (fillsFilling_of_idle (endExecution_executing _ _ _ _ _))

/-- The store changes at the end of a request. -/
theorem Sound.finished {s u : State} (hs : Sound s) (h : StoreOnly s u) (hu : Stocked u) (seq code : Byte) (st : Status)
    (r : List Byte) : Sound (Machine.endExecution u seq code st r) := by
  have hk := HostOnly.endExecution u seq code st r
  refine ⟨cueInvariant_congr (hk.cues.trans h.cues) hs.cues, fun l => ?_,
    rolesAgree_congr (fun l => ?_) (cueRole_congr (hk.cues.trans h.cues)) hs.roles,
    hu.congr hk.cues hk.store hk.device (by rw [hk.mc]), fillsFilling_of_idle (endExecution_executing _ _ _ _ _)⟩
  · rw [lane_congr (hk.lanes.trans h.lanes)]
    exact hs.lane l
  · rw [lane_congr (hk.lanes.trans h.lanes)]

/-- A FILLING payload without chunks is free to go, and so is an id that is FREE. -/
theorem Stocked.freeable_filling {s : State} {id : Nat} (hs : Stocked s)
    (hst : ∀ p, s.payload? id = some p → p.state = .filling) (hk : holdsChunk s id = false) : freeable s id := by
  refine ⟨fun e he hc heq => ?_, not_holdsChunk hk⟩
  obtain ⟨p, hp, hne⟩ := hs.named e he hc
  rw [heq] at hp
  exact hne (hst p hp)

theorem takeChunk_directory (s : State) (id o : Nat) (d : List Byte) (e : Nat × Payload)
    (he : e ∈ (takeChunk s id o d).store.directory) :
    e ∈ s.store.directory ∨ ∃ p, s.payload? id = some p ∧ e.2.state = p.state := by
  unfold takeChunk at he
  split at he
  next p hp =>
    rw [(PortOnly.placeFill _).store] at he
    rcases mem_tput _ _ _ _ he with rfl | he
    · exact .inr ⟨p, hp, rfl⟩
    · exact .inl he
  · exact .inl he

theorem finishSeal_settled {s : State} {seq code : Byte} {id : Nat} {want : Option (BitVec 32)}
    (hs : Sound s) (hd : doomedHeld s) (hk : holdsChunk s id = false) :
    Sound (finishSeal s seq code id want) ∧ doomedHeld (finishSeal s seq code id want) := by
  have host := fun u st r => HostOnly.endExecution u seq code st r
  unfold finishSeal
  split
  next p hp =>
    split
    · exact ⟨hs.endExecution _ _ _ _, (host _ _ _).doomedHeld hd⟩
    next hst =>
      have hfill : p.state = .filling := not_not.1 hst
      split
      · have hseal : Stocked (s.setPayload id { p with state := .sealed, check := some p.running }) :=
          hs.stock.setPayload hp rfl rfl (fun h => absurd hfill h) (fun _ => .inr (not_holdsChunk hk))
        exact ⟨hs.finished (.setPayload s id _) hseal _ _ _ _, (host _ _ _).doomedHeld (doomedHeld_setPayload hd nofun)⟩
      · have hfree : freeable s id :=
          hs.stock.freeable_filling (fun q hq => by cases hp.symm.trans hq; exact hfill) hk
        exact ⟨hs.finished (.freePayload s id) (hs.stock.freePayload hfree) _ _ _ _,
          (host _ _ _).doomedHeld (doomedHeld_freePayload id hd)⟩
  · exact ⟨hs.endExecution _ _ _ _, (host _ _ _).doomedHeld hd⟩

theorem resume_settled {s : State} (hs : Sound s) (hd : doomedHeld s) : Sound (resume s) ∧ doomedHeld (resume s) := by
  have ends : ∀ seq code st r, Sound (endExecution s seq code st r) ∧ doomedHeld (endExecution s seq code st r) :=
    fun _ _ _ _ => ⟨hs.endExecution _ _ _ _, (HostOnly.endExecution _ _ _ _ _).doomedHeld hd⟩
  unfold resume
  split
  next seq code w hx =>
    have hfills : ∀ id p, (Executing.fills ⟨seq, code, w⟩) = some id → s.payload? id = some p → p.state = .filling :=
      fun id p hf hp => hs.fills id p (by rw [hx]; exact hf) hp
    split
    next id o d =>
      split
      · have hstock : Stocked (takeChunk s id o d) := by
          cases hp : s.payload? id with
          | none =>
            rw [takeChunk, hp]
            exact hs.stock
          | some p => exact hs.stock.takeChunk o d hp (hfills id p rfl hp)
        refine ⟨hs.finished (.takeChunk s id o d) hstock _ _ _ _, (HostOnly.endExecution _ _ _ _ _).doomedHeld ?_⟩
        intro e he hst
        rcases takeChunk_directory s id o d e he with h | ⟨p, hp, h⟩
        · exact hd e h hst
        · rw [hst, hfills id p rfl hp] at h
          cases h
      · exact ⟨hs, hd⟩
    next id want =>
      split
      · exact ⟨hs, hd⟩
      next hk => exact finishSeal_settled hs hd (by simpa using hk)
    next id =>
      split
      · exact ⟨hs, hd⟩
      next hk =>
        have hfree := hs.stock.freeable_filling (hfills id · rfl) (by simpa using hk)
        exact ⟨hs.finished (.freePayload s id) (hs.stock.freePayload hfree) _ _ _ _,
          (HostOnly.endExecution _ _ _ _ _).doomedHeld (doomedHeld_freePayload id hd)⟩
    · split
      · exact ends _ _ _ _
      · have hport := PortOnly.placeReadBack s
        refine ⟨hs.portOnly (hport _ _ _ _), ?_⟩
        unfold Machine.doomedHeld
        rw [(hport _ _ _ _).store]
        exact hd
    · split
      · exact ends _ _ _ _
      · exact ⟨hs, hd⟩
    · split
      · exact ends _ _ _ _
      · exact ⟨hs, hd⟩
  · exact ⟨hs, hd⟩

/-- What an event ends with puts everything in order, the DOOMED payloads included. -/
theorem coreTail_inOrder (s0 : State) {s : State} (hs : Sound s) :
    Sound (coreTail s0 s) ∧ doomedHeld (coreTail s0 s) := by
  have hlanes := hs.settleLanes s0
  obtain ⟨hstock, hdoomed⟩ := hlanes.stock.freeDoomed
  have hfree : Sound (settleLanes s0 s).freeDoomed :=
    hlanes.storeOnly (.freeDoomed _) hstock (fillsFilling_freeAll _ hlanes.fills)
  obtain ⟨hres, hresd⟩ := resume_settled hfree hdoomed
  have hport := PortOnly.arbitrate (resume (settleLanes s0 s).freeDoomed)
  refine ⟨hres.portOnly hport, ?_⟩
  unfold coreTail Machine.doomedHeld
  rw [hport.store]
  exact hresd

/-! ### Effects -/

theorem Sound.handOver {s : State} (t : Transaction) (hs : Sound s) : Sound (handOver s t) := by
  have hc : Sound (countFreeRead s t) := by
    unfold countFreeRead
    split
    · exact hs.congr (s := s) rfl rfl rfl rfl rfl rfl
    · exact hs
  unfold Machine.handOver
  split
  · exact hc.deliverLane _ _
  · unfold appendReadBack
    split
    next h => exact hc.congr (s := countFreeRead s t) rfl rfl rfl rfl rfl (by rw [h]; rfl)
    · exact hc
  · have hm : Sound { s with mem := writeBytes s.mem t.address (bytesToWrite s t) } :=
      hs.congr (s := s) rfl rfl rfl rfl rfl rfl
    exact hm.storeOnly (.fillDone _ _) (hm.stock.fillDone _) (fillDone_fills _ hm.fills)

theorem Sound.transactionDone {s : State} (hs : Sound s) : Sound (transactionDone s) := by
  unfold Machine.transactionDone
  repeat' split
  · exact handOver _ (hs.portOnly (.portAfterColumn _ _))
  all_goals exact hs

theorem countFrom_eq (a n : Nat) : countFrom a n = List.range' a n := by
  induction n generalizing a with
  | zero => rfl
  | succ n ih => rw [countFrom, List.range'_succ, ih]

/-- Beside an empty directory no cue counts. -/
theorem Stocked.uncounted {s : State} (hs : Stocked s) (hdir : s.store.directory = []) (e : Nat × Cue) (he : e ∈ s.cues) :
    e.2.counted = false := by
  by_contra hc
  obtain ⟨p, hp, -⟩ := hs.named e he (by simpa using hc)
  unfold State.payload? at hp
  rw [hdir] at hp
  cases hp

/-- The end of the bring-up: every block goes to the pool, and no cue names a payload. -/
theorem Sound.finishBringUp {s : State} {p : Profile} (hp : s.mc.profile = some p) (hd : s.device ≠ .ready)
    (hs : Sound s) : Sound (Machine.finishBringUp s p) := by
  have hnone : ∀ id, (Machine.finishBringUp s p).payload? id = none := fun _ => rfl
  refine ⟨cueInvariant_congr (s := s) rfl hs.cues, hs.lane,
    rolesAgree_congr (s := s) (fun _ => rfl) (fun _ => rfl) hs.roles, ⟨⟨rfl, ?_, ?_, ?_⟩, ?_, ?_, ?_⟩, ?_⟩
  · exact fun e he => absurd he List.not_mem_nil
  · exact fun h => absurd rfl h
  · intro q _ hq
    have hpq : s.mc.profile = some q := hq
    cases hp.symm.trans hpq
    show (countFrom 0 (blockCount p) ++ []).Perm _
    rw [List.append_nil, countFrom_eq, List.range_eq_range']
  · intro id q hq
    rw [hnone] at hq
    cases hq
  · exact fun e he hc => absurd hc (by rw [hs.stock.uncounted (hs.stock.placed.outside hd).1 e he]; decide)
  · exact fun k hk => absurd hk List.not_mem_nil
  · intro id q _ hq
    rw [hnone] at hq
    cases hq

theorem Sound.modeSetDone {s : State} (hc : controllerInvariant s) (hs : Sound s) : Sound (modeSetDone s) := by
  have hfree : Sound s.freePort := hs.portOnly (t := s.freePort) rfl
  unfold Machine.modeSetDone
  dsimp only
  split
  · split
    next b p hb hp =>
      split
      · exact hfree
      · refine hfree.finishBringUp hp ?_
        show s.device ≠ .ready
        intro hd
        have hb' : s.mc.bringUp = some b := hb
        have hinit : s.device = .initializing := hc.1.1.1 (by rw [hb']; rfl)
        rw [hd] at hinit
        cases hinit
    · exact hfree
  · exact hs

theorem effect_sound {s t : State} (h : Effect s t) (hc : controllerInvariant s) (hd : doomedHeld s) (hs : Sound s) :
    Sound t := by
  cases h
  case rest => exact hs
  case start l => exact hs.tryStart l
  case slot l => exact hs.takeSlot l
  case hold l => exact hs.holdOn l
  case release l => exact hs.holdOff l
  case holdLimit l => exact hs.cutLane l nofun
  case flushEnd l => exact hs.endFlush l
  case rowCommand => exact hs.portOnly (.rowCommandDone s)
  case transaction => exact hs.transactionDone
  case closing => exact hs.portOnly (.closingDone s)
  case resume => exact (resume_settled hs hd).1
  case interval => exact hs.portOnly (.intervalExpires s)
  case refreshPrecharge => exact hs.portOnly (.refreshPrecharged s)
  case refreshCommand => exact hs.portOnly (.refreshDone s)
  case wait => exact hs.portOnly (.waitEnds s)
  case bringUpPrecharge => exact hs.portOnly (.bringUpPrecharged s)
  case bringUpRefresh => exact hs.portOnly (.bringUpRefreshed s)
  case modeSet => exact hs.modeSetDone hc
  case tick => exact hs.tickTime
  case timeEnd => exact hs.timeOnly (s := s) rfl
  case due id =>
    unfold meetDue
    repeat' split
    · exact hs.reachDue _
    · exact hs.tryStart _
    · exact hs
  case tolerance id => exact hs.expireCue id
  case window id =>
    unfold enterWindow
    split
    · exact hs.settleLane _ _
    · exact hs
  case sample i level => exact hs.sampleLine i level

end Sys2Proof.Machine
end

section
/-!
PROOFS. The requests beside cue table, lanes and store in order, and every move (O59).
-/

namespace Sys2Proof.Machine

/-! ### Orders to all four lanes -/

theorem PortOnly.setLane {s t : State} (l : Fin 4) (x : Lane) (h : PortOnly s t) :
    PortOnly (s.setLane l x) (t.setLane l x) := by
  unfold PortOnly at *
  rw [← h]
  rfl

theorem PortOnly.withCues {s t : State} (c : List (Nat × Cue)) (h : PortOnly s t) :
    PortOnly { s with cues := c } { t with cues := c } := by
  unfold PortOnly at *
  rw [← h]

theorem setLane_lane (s : State) (l : Fin 4) : s.setLane l (s.lane l) = s := by
  have hq : s.lanes.set l (s.lanes.get l) = s.lanes := by
    match l with
    | 0 => rfl
    | 1 => rfl
    | 2 => rfl
    | 3 => rfl
  show { s with lanes := s.lanes.set l (s.lanes.get l) } = s
  rw [hq]

/-- An order given to the four lanes one after another, which each obeys by itself. -/
theorem fours_order {f : State → Fin 4 → State} {g : Lane → Lane}
    (h : ∀ s l, PortOnly (s.setLane l (g (s.lane l))) (f s l)) (s : State) :
    PortOnly { s with lanes := s.lanes.map g } (fours.foldl f s) := by
  have next : ∀ {u v : State} (l : Fin 4), PortOnly u v → PortOnly (u.setLane l (g (u.lane l))) (f v l) := by
    intro u v l huv
    have hl : v.lane l = u.lane l := lane_congr huv.lanes l
    exact PortOnly.trans (hl ▸ huv.setLane l (g (v.lane l))) (h v l)
  have h4 := next 3 (next 2 (next 1 (next 0 (.refl s))))
  exact h4

/-- A lane after the scheduler's order to unstage. -/
def Lane.afterUnstage (x : Lane) : Lane := if x.state.holdsStaged then x.toFlushing none else x

/-- A lane after a cut. -/
def Lane.afterCut (x : Lane) (cause : CutCause) : Lane :=
  if x.state = .emitting then
    { (x.showAbort.toFlushing (if cause = .reset then none else x.held)) with
      release := if cause = .reset then none else x.release, cutCause := some cause }
  else x

theorem unstage_order (s : State) (l : Fin 4) : PortOnly (s.setLane l (s.lane l).afterUnstage) (unstage s l) := by
  unfold Lane.afterUnstage
  split
  next h =>
    rw [unstage_eq h]
    exact .giveUpRequest _ _
  next h =>
    rw [unstage_rest (by simpa using h), setLane_lane]
    exact .refl s

theorem cutLane_order (s : State) (l : Fin 4) (cause : CutCause) :
    PortOnly (s.setLane l ((s.lane l).afterCut cause)) (cutLane s l cause) := by
  unfold Lane.afterCut cutLane
  dsimp only
  split
  · exact .giveUpRequest _ _
  · rw [setLane_lane]
    exact .refl s

/-- A lane after STOP_ALL's order. -/
def Lane.afterStop (x : Lane) : Lane := x.afterUnstage.afterCut .stop

theorem setLane_setLane (s : State) (l : Fin 4) (x y : Lane) : (s.setLane l x).setLane l y = s.setLane l y := by
  match l with
  | 0 => rfl
  | 1 => rfl
  | 2 => rfl
  | 3 => rfl

theorem stopLane_order (s : State) (l : Fin 4) : PortOnly (s.setLane l (s.lane l).afterStop) (stopLane s l) := by
  have h := (unstage_order s l).setLane l ((s.lane l).afterUnstage.afterCut .stop)
  have hl : (unstage s l).lane l = (s.lane l).afterUnstage := by
    rw [lane_congr (unstage_order s l).lanes, lane_setLane_self]
  rw [setLane_setLane, ← hl] at h
  refine PortOnly.trans ?_ (cutLane_order (unstage s l) l .stop)
  rw [Lane.afterStop, ← hl]
  exact h

/-- A lane after the soft reset's order: it gives up its cue. -/
def Lane.afterReset (x : Lane) : Lane :=
  if x.state = .flushing then { x with held := none, release := none }
  else if x.state = .emitting then x.afterCut .reset
  else x.afterUnstage

theorem resetLane_order (s : State) (l : Fin 4) : PortOnly (s.setLane l (s.lane l).afterReset) (resetLane s l) := by
  unfold resetLane
  split
  next h =>
    rw [Lane.afterReset, if_neg (by rw [h]; exact nofun), if_pos h]
    exact cutLane_order s l .reset
  next h =>
    rw [Lane.afterReset, if_neg (by rw [h]; exact nofun), if_neg (by rw [h]; exact nofun)]
    exact unstage_order s l
  next h =>
    rw [Lane.afterReset, if_neg (by rw [h]; exact nofun), if_neg (by rw [h]; exact nofun)]
    exact unstage_order s l
  next h =>
    rw [Lane.afterReset, if_pos h]
    exact .refl _
  next hem hst hpr hfl =>
    have hno : (s.lane l).state.holdsStaged = false := by
      cases h : (s.lane l).state with
      | staging => exact absurd h hst
      | primed => exact absurd h hpr
      | _ => rfl
    rw [Lane.afterReset, if_neg hfl, if_neg hem, Lane.afterUnstage, if_neg (by simp [hno]), setLane_lane]
    exact .refl s

/-- A lane that is stopped keeps a releasing cue and gives up a staged one. -/
theorem Lane.InOrder.stopped_lane {x : Lane} (hx : x.InOrder) :
    x.afterStop.InOrder ∧ ∀ id st, x.afterStop.role = some (id, st) ↔ x.role = some (id, st) ∧ st = .releasing := by
  unfold Lane.afterStop
  by_cases hs : x.state.holdsStaged = true
  · have hu : x.afterUnstage = x.toFlushing none := if_pos hs
    have hc : (x.toFlushing none).afterCut .stop = x.toFlushing none := if_neg nofun
    rw [hu, hc]
    refine ⟨hx.unstaged hs, fun id st => ⟨nofun, fun ⟨hr, hst⟩ => ?_⟩⟩
    obtain ⟨h, -, -, hsel⟩ := Lane.role_eq_some.1 hr
    rw [if_pos hs, hst] at hsel
    cases hsel
  · have hu : x.afterUnstage = x := if_neg hs
    have same : ∀ id st, x.role = some (id, st) ↔ x.role = some (id, st) ∧ st = .releasing := by
      refine fun id st => ⟨fun hr => ⟨hr, ?_⟩, And.left⟩
      obtain ⟨h, -, -, hsel⟩ := Lane.role_eq_some.1 hr
      rw [if_neg hs] at hsel
      exact hsel.symm
    rw [hu, Lane.afterCut]
    split
    next hem =>
      obtain ⟨ho, hr⟩ := cut_inOrder hx hem (cause := .stop) nofun
      exact ⟨ho, fun id st => by
        rw [if_neg nofun, if_neg nofun, hr]
        exact same id st⟩
    · exact ⟨hx, same⟩

/-- A lane that is reset holds no cue. -/
theorem Lane.InOrder.reset_lane {x : Lane} (hx : x.InOrder) : x.afterReset.InOrder ∧ x.afterReset.role = none := by
  have hab : ∀ y : Lane, y.showAbort.config = y.config ∧ y.showAbort.release = y.release := by
    intro y
    unfold Lane.showAbort
    split <;> exact ⟨rfl, rfl⟩
  have flushes : ∀ y : Lane, y.state = .flushing → y.config = x.config → y.held = none → y.release = none →
      x.state ≠ .stopped → y.InOrder ∧ y.role = none := by
    intro y hst hen hh hr hns
    refine ⟨⟨?_, fun _ => hh, fun h => ?_, fun _ h => ?_, ?_⟩, Lane.role_of_held_none hh⟩
    · rw [hst, hen]
      exact ⟨nofun, fun he => absurd (hx.stopped.2 he) hns⟩
    · rw [hst] at h
      rcases h with h | h <;> cases h
    · rw [hh] at h
      cases h
    · rw [hh, hr]
      exact ⟨nofun, fun h => by cases h.2⟩
  unfold Lane.afterReset
  split
  next hst => exact flushes _ hst rfl rfl rfl (by rw [hst]; exact nofun)
  next hfl =>
    split
    next hst =>
      rw [Lane.afterCut, if_pos hst, if_pos rfl, if_pos rfl]
      exact flushes _ rfl (hab x).1 rfl rfl (by rw [hst]; exact nofun)
    next hem =>
      unfold Lane.afterUnstage
      split
      next hs => exact flushes _ rfl rfl rfl (hx.release_none hs) (fun h => by rw [h] at hs; cases hs)
      next hs =>
        refine ⟨hx, Lane.role_of_held_none (hx.rest ?_)⟩
        cases h : x.state <;> simp_all [LaneState.holdsStaged, LaneState.atRest]

/-! ### Requests of the cue table -/

namespace Sound

/-- A record is replaced by one of the same role, payload and count. -/
theorem setCue_same {s : State} {id : Nat} {c d : Cue} (hs : Sound s) (hc : s.cue? id = some c) (hdue : d.dueFits)
    (hr : d.role = c.role) (hp : d.payload = c.payload) (hcount : d.counted = c.counted) : Sound (s.setCue id d) := by
  refine ⟨setCue_keeps_cues hs.cues (cueInvariant_get hs.cues hc).1 hdue, hs.lane,
    rolesAgree_congr (s := s) (fun _ => rfl) (fun j => ?_) hs.roles,
    hs.stock.setCue hs.cues.1 hc hcount hp rfl rfl rfl rfl, hs.fills⟩
  rw [cueRole_setCue]
  split
  next h => rw [h, hr, cueRole, hc]; rfl
  · rfl

end Sound

theorem armCueRecord_spec (s : State) (c : Cue) (d : Option Nat) :
    (armCueRecord s c d).lane = c.lane ∧ (armCueRecord s c d).payload = c.payload ∧ (armCueRecord s c d).role = none
      ∧ (armCueRecord s c d).counted = true := by
  unfold armCueRecord
  split <;> exact ⟨rfl, rfl, rfl, rfl⟩

theorem Sound.runArmCue {s : State} (id : Byte) (d : Option (BitVec 48)) (hs : Sound s) :
    Sound (runArmCue s id d).1 := by
  unfold Machine.runArmCue
  dsimp only
  repeat' split
  · exact hs
  · exact hs
  · exact hs
  next c hc hheld _ _ =>
    have hst : c.state = .held := not_not.1 hheld
    obtain ⟨-, hp, hr, hcount⟩ := armCueRecord_spec s c (d.map BitVec.toNat)
    exact hs.setCue_same hc (armCueRecord_dueFits _ _ _) (hr.trans (Cue.role_eq_none.2 (by simp [hst])).symm) hp
      (hcount.trans (by simp [Cue.counted, hst]))

/-- What FILE_CUE files: a counted cue in no lane, of a SEALED payload. -/
theorem fileTests_spec {s : State} {b : CueBody} {c : Cue} (h : fileTests s b = .ok c) :
    s.cue? b.cue.toNat = none ∧ (∃ p, s.payload? c.payload = some p ∧ p.state = .sealed) ∧ c.role = none
      ∧ c.counted = true := by
  have record : ∀ {d : Cue}, cueOf b = some d → d.payload = b.payload.toNat ∧ d.role = none ∧ d.counted = true := by
    intro d hd
    unfold cueOf at hd
    repeat' split at hd
    · cases hd
      exact ⟨rfl, rfl, rfl⟩
    all_goals cases hd
  unfold fileTests at h
  split at h
  · cases h
  next hnone =>
    split at h
    · cases h
    next p hp =>
      split at h
      · cases h
      next hst =>
        split at h
        · cases h
        next d hd =>
          obtain ⟨hpay, hrole, hcount⟩ := record hd
          have hsealed : ∃ p, s.payload? d.payload = some p ∧ p.state = .sealed :=
            ⟨p, by rw [hpay]; exact hp, not_not.1 hst⟩
          repeat' split at h
          · cases h
          · cases h
          · cases h
            obtain ⟨-, hp', hr', hc'⟩ := armCueRecord_spec s d none
            exact ⟨hnone, by rw [hp']; exact hsealed, hr', hc'⟩
          · cases h
            exact ⟨hnone, hsealed, hrole, hcount⟩

theorem Sound.runFileCue {s : State} {b : CueBody} (hid : b.cue.toNat < Config.cueSlots) (hs : Sound s) :
    Sound (runFileCue s b).1 := by
  unfold Machine.runFileCue
  split
  · exact hs
  next c hok =>
    obtain ⟨hnone, ⟨p, hp, hst⟩, hrole, hcount⟩ := fileTests_spec hok
    have hadd : s.addRef c.payload = s.setPayload c.payload { p with refs := p.refs + 1 } := by
      unfold State.addRef
      rw [hp]
    dsimp only
    rw [hadd]
    generalize hq : ({ p with refs := p.refs + 1 } : Payload) = q
    have hqs : q.state = .sealed ∧ q.blocks = p.blocks ∧ q.refs = p.refs + 1 := by
      subst hq
      exact ⟨hst, rfl, rfl⟩
    obtain ⟨hqst, hqb, hqr⟩ := hqs
    have hget : ∀ j, State.payload? ((s.setPayload c.payload q).setCue b.cue.toNat c) j
        = if j = c.payload then some q else s.payload? j := fun j => payload?_setPayload s c.payload j q
    have hcue : cueInvariant (s.setPayload c.payload q) := cueInvariant_congr (s := s) rfl hs.cues
    refine ⟨setCue_keeps_cues hcue hid (fileTests_dueFits hok), hs.lane,
      rolesAgree_congr (s := s) (fun _ => rfl) (fun j => ?_) hs.roles, ⟨?_, fun j x hx => ?_, fun e he hc => ?_,
      fun k hk => ?_⟩, fillsFilling_congr (s := s.setPayload c.payload q) rfl rfl ?_⟩
    · rw [cueRole_setCue]
      split
      next h => rw [h, hrole, cueRole, hnone]; rfl
      · exact cueRole_congr (s := s) rfl j
    · exact .congr (s := s.setPayload c.payload q) rfl rfl rfl rfl (hs.stock.placed.setPayload hp hqb)
    · have hadded := refsTo_added (t := (s.setPayload c.payload q).setCue b.cue.toNat c) hs.cues.1 hnone rfl j
      rw [hget] at hx
      rw [hadded]
      split at hx
      next h =>
        cases hx
        rw [h, hqr, hs.stock.refs _ p hp]
        simp [Cue.countsFor, hcount]
      next h =>
        rw [hs.stock.refs j x hx]
        simp [Cue.countsFor, Ne.symm h]
    · rw [hget]
      split
      · exact ⟨q, rfl, by rw [hqst]; exact nofun⟩
      next hne =>
        rcases mem_tput _ _ _ _ he with rfl | he
        · exact absurd rfl hne
        · exact hs.stock.named e he hc
    · obtain ⟨x, hx, hf⟩ := hs.stock.chunks k hk
      rw [hget]
      split
      next h =>
        rw [h] at hx
        cases hp.symm.trans hx
        rw [hst] at hf
        cases hf
      · exact ⟨x, hx, hf⟩
    · exact fillsFilling_setPayload hs.fills hp (hqst.trans hst.symm)

theorem Sound.runCancelCue {s : State} (id : Byte) (hs : Sound s) : Sound (runCancelCue s id).1 := by
  unfold Machine.runCancelCue
  dsimp only
  split
  · exact hs
  next c hc =>
    split
    · exact hs
    · exact (hs.setCue_same (d := { c with cut := .cancel }) hc (cueInvariant_get hs.cues hc).2 rfl rfl rfl).cutLane
        _ nofun
    next hst => exact hs.afterUnstage (hs.role_of_staged hc hst) hc (endCue_after _ _ _ _)
    next hne hnr hns =>
      refine hs.afterOccurrence hc ?_ (Cue.role_eq_none.2 ⟨hns, hnr⟩) (endCue_after _ _ _ _)
      simpa [Cue.counted] using hne

/-- An uncounted cue's slot becomes EMPTY. -/
theorem Sound.dropEnded {s : State} {id : Nat} {c : Cue} (hs : Sound s) (hc : s.cue? id = some c)
    (hst : c.state = .ended) : Sound (s.dropCue id) := by
  have hrole : c.role = none := Cue.role_eq_none.2 (by simp [hst])
  refine ⟨dropCue_keeps_cues _ hs.cues, hs.lane, rolesAgree_congr (s := s) (fun _ => rfl) (fun j => ?_) hs.roles,
    ⟨.congr (s := s) rfl rfl rfl rfl hs.stock.placed, fun j p hj => ?_, fun e he => ?_, hs.stock.chunks⟩, hs.fills⟩
  · rw [cueRole_dropCue]
    split
    next h => rw [h, cueRole, hc]; exact hrole.symm
    · rfl
  · have hrem := refsTo_removed (t := s.dropCue id) hs.cues.1 hc rfl j
    have hzero : c.countsFor j = 0 := by simp [Cue.countsFor, Cue.counted, hst]
    have hrefs : p.refs = refsTo s j := hs.stock.refs j p hj
    omega
  · exact hs.stock.named e (mem_tdel.1 he).1

theorem Sound.runDiscardCue {s : State} (id : Byte) (hs : Sound s) : Sound (runDiscardCue s id).1 := by
  unfold Machine.runDiscardCue
  split
  · exact hs
  next c hc =>
    split
    next hst =>
      refine hs.afterOccurrence hc (by simp [Cue.counted, hst]) (Cue.role_eq_none.2 (by simp [hst]))
        (t := (s.dropRef c.payload).dropCue id.toNat) ?_
      have hk := StoreOnly.dropRef s c.payload
      have hm : (s.dropRef c.payload).mc = s.mc ∧ (s.dropRef c.payload).refresh = s.refresh := by
        unfold State.dropRef
        split <;> exact ⟨rfl, rfl⟩
      exact ⟨hk.core.trans (.dropCue _ _), hk.lanes, hm.1, hm.2, by rw [State.dropCue_executing, hk.executing],
        .gone (congrArg (tdel · _) hk.cues) rfl⟩
    next hst => exact hs.dropEnded hc hst
    · exact hs

theorem Cue.stopped_spec (c : Cue) :
    c.stopped.payload = c.payload ∧ c.stopped.counted = c.counted
      ∧ ∀ l st, c.stopped.role = some (l, st) ↔ c.role = some (l, st) ∧ st = .releasing := by
  by_cases hst : c.stopsAtOnce = true
  · have h : c.stopped = c.toHeld := if_pos hst
    simp only [Cue.stopsAtOnce, Bool.or_eq_true, decide_eq_true_eq] at hst
    rw [h]
    refine ⟨rfl, ?_, fun l st => ⟨nofun, fun ⟨hr, hrel⟩ => ?_⟩⟩
    · rcases hst with ((hst | hst) | hst) | hst <;> simp [Cue.counted, Cue.toHeld, hst]
    · obtain ⟨-, hcs, -⟩ := Cue.role_eq_some.1 hr
      rw [hrel] at hcs
      simp [hcs] at hst
  · have same : ∀ l st, c.role = some (l, st) ↔ c.role = some (l, st) ∧ st = .releasing := by
      refine fun l st => ⟨fun hr => ⟨hr, ?_⟩, And.left⟩
      obtain ⟨-, hcs, hor⟩ := Cue.role_eq_some.1 hr
      rcases hor with rfl | h
      · exact absurd (by simp [Cue.stopsAtOnce, hcs]) hst
      · exact h
    by_cases hr : c.state = .releasing
    · have h : c.stopped = { c with cut := .stop } := (if_neg hst).trans (if_pos hr)
      rw [h]
      exact ⟨rfl, rfl, same⟩
    · have h : c.stopped = c := (if_neg hst).trans (if_neg hr)
      rw [h]
      exact ⟨rfl, rfl, same⟩

/-- Every cue and every lane after STOP_ALL. -/
theorem Sound.stopped {s t : State} (hcues : t.cues = s.cues.map (fun e => (e.1, e.2.stopped)))
    (hlanes : t.lanes = s.lanes.map Lane.afterStop) (hstore : t.store = s.store) (hd : t.device = s.device)
    (hp : t.mc.profile = s.mc.profile) (he : t.executing = s.executing) (hs : Sound s) : Sound t := by
  have hlane : ∀ l, t.lane l = (s.lane l).afterStop := fun l => by rw [State.lane, hlanes, quad_get_map]; rfl
  have hcue : ∀ j, cueRole t j = ((s.cue? j).map Cue.stopped).bind Cue.role := by
    intro j
    unfold cueRole State.cue?
    rw [hcues, tget_map _ (fun e : Nat × Cue => (e.1, e.2.stopped)) (fun _ => rfl)]
  refine ⟨mapCues_keeps_cues hcues (fun _ => rfl) (fun e he => Cue.stopped_dueFits he) hs.cues, fun l => ?_,
    fun l id st => ?_, ?_, fillsFilling_congr (by rw [hstore]) (by rw [he]) hs.fills⟩
  · rw [hlane]
    exact (hs.lane l).stopped_lane.1
  · rw [hlane, (hs.lane l).stopped_lane.2, hcue, hs.roles l id st, cueRole_eq_some]
    cases s.cue? id with
    | none => simp
    | some c => simpa using ((Cue.stopped_spec c).2.2 l st).symm
  · exact hs.stock.mapCues hcues (fun e => (Cue.stopped_spec e.2).1) (fun e => (Cue.stopped_spec e.2).2.1) hstore hd hp

theorem Sound.runStopAll {s : State} (hs : Sound s) : Sound (runStopAll s).1 := by
  rw [Machine.runStopAll]
  dsimp only
  exact portOnly (fours_order stopLane_order _) (hs.stopped rfl rfl rfl rfl rfl rfl)

end Sys2Proof.Machine
end

section
/-!
PROOFS. The requests of memory, store and part beside cue table, lanes and store in order, and every move (O59).
-/

namespace Sys2Proof.Machine

/-! ### Requests of the store -/

/-- Where the directory is empty nothing stands in the store. -/
theorem Stocked.ofEmpty {s t : State} (hs : Stocked s) (hdir : s.store.directory = []) (hcues : t.cues = s.cues)
    (hd : t.store.directory = []) (hpool : t.store.pool = []) (hk : t.store.chunks = s.store.chunks)
    (hready : t.device ≠ .ready) : Stocked t := by
  have hnone : ∀ j, t.payload? j = none := fun j => by
    unfold State.payload?
    rw [hd]
    rfl
  refine ⟨⟨by rw [hd]; rfl, fun e he => ?_, fun _ => ⟨hd, hpool⟩, fun _ h => absurd h hready⟩, fun j p hp => ?_,
    fun e he hc => ?_, fun k hk' => ?_⟩
  · rw [hd] at he
    cases he
  · rw [hnone] at hp
    cases hp
  · rw [hcues] at he
    rw [hs.uncounted hdir e he] at hc
    cases hc
  · obtain ⟨p, hp, -⟩ := hs.chunks k (hk ▸ hk')
    unfold State.payload? at hp
    rw [hdir] at hp
    cases hp

theorem Sound.acceptInit {s : State} (p : Profile) (hdir : s.store.directory = []) (hs : Sound s) :
    Sound (acceptInit s p) :=
  ⟨cueInvariant_congr (s := s) rfl hs.cues, hs.lane, rolesAgree_congr (s := s) (fun _ => rfl) (fun _ => rfl) hs.roles,
    hs.stock.ofEmpty hdir rfl hdir rfl rfl nofun, fillsFilling_congr (s := s) rfl rfl hs.fills⟩

theorem Sound.runMemoryInit {s : State} (b : ProfileBody) (hs : Sound s) : Sound (runMemoryInit s b).1 := by
  rcases runMemoryInit_cases s b with h | ⟨p, -, hready, h⟩
  · rw [h]
    exact hs
  · rw [h]
    refine hs.acceptInit p ?_
    by_cases hd : s.device = .ready
    · exact hready hd
    · exact (hs.stock.placed.outside hd).1

/-- A fresh entry takes blocks of the pool. -/
theorem Stocked.openPayload {s t : State} {id n : Nat} {q : Payload} (hs : Stocked s) (hid : id < 256)
    (hnone : s.payload? id = none) (hready : s.device = .ready) (hst : q.state = .filling)
    (hb : q.blocks = s.store.pool.take n) (hr : q.refs = 0)
    (ht : t = { s with
      store := { s.store with pool := s.store.pool.drop n, directory := tput s.store.directory id q } }) :
    Stocked t := by
  have hget : ∀ j, t.payload? j = if j = id then some q else s.payload? j := by
    subst ht
    exact fun j => tget_tput _ _ _ _
  have hdir : t.store.directory = tput s.store.directory id q := by rw [ht]
  have hpool : t.store.pool = s.store.pool.drop n := by rw [ht]
  have hcues : t.cues = s.cues := by rw [ht]
  have hk : t.store.chunks = s.store.chunks := by rw [ht]
  have hunnamed : ∀ e ∈ s.cues, e.2.counted = true → e.2.payload ≠ id := by
    intro e he hc heq
    obtain ⟨p, hp, -⟩ := hs.named e he hc
    rw [heq, hnone] at hp
    cases hp
  refine ⟨⟨by rw [hdir]; exact sortedKeys_tput _ _ _ hs.placed.sorted, fun e he => ?_, fun hd => ?_,
    fun p hd hp => ?_⟩, fun j p hp => ?_, fun e he hc => ?_, fun k hk' => ?_⟩
  · rw [hdir] at he
    rcases mem_tput _ _ _ _ he with rfl | he
    · exact hid
    · exact hs.placed.ids e he
  · exact absurd (by rw [ht]; exact hready) hd
  · have hall := hs.placed.blocks p hready (by rw [← hp, ht])
    have hblocks : ((tput s.store.directory id q).map (fun e => e.2.blocks)).flatten.Perm
        (s.store.pool.take n ++ (s.store.directory.map (fun e => e.2.blocks)).flatten) := by
      have h := ((tput_perm hs.placed.sorted id q).map (fun e : Nat × Payload => e.2.blocks)).flatten
      rwa [tdel_of_tget_none hnone, List.map_cons, List.flatten_cons, hb] at h
    rw [hdir, hpool]
    refine .trans (.append (.refl _) hblocks) (.trans ?_ hall)
    rw [← List.append_assoc]
    refine .append (.trans List.perm_append_comm ?_) (.refl _)
    rw [List.take_append_drop]
  · rw [hget] at hp
    rw [refsTo_congr hcues]
    split at hp
    next h =>
      cases hp
      rw [h, hr]
      refine (List.countP_eq_zero.2 fun e he => ?_).symm
      simp only [Bool.and_eq_true, decide_eq_true_eq, not_and]
      exact hunnamed e he
    · exact hs.refs j p hp
  · rw [hcues] at he
    rw [hget, if_neg (hunnamed e he hc)]
    exact hs.named e he hc
  · obtain ⟨p, hp, hf⟩ := hs.chunks k (hk ▸ hk')
    rw [hget]
    split
    · exact ⟨q, rfl, hst⟩
    · exact ⟨p, hp, hf⟩

theorem runOpenPayload_cases (s : State) (id : Byte) (len : BitVec 32) :
    (runOpenPayload s id len).1 = s ∨ s.payload? id.toNat = none
      ∧ (runOpenPayload s id len).1 = { s with
          store :=
            { s.store with
              pool := s.store.pool.drop (blocksFor len.toNat),
              directory := tput s.store.directory id.toNat
                (newPayload len.toNat (s.store.pool.take (blocksFor len.toNat))) } } := by
  unfold runOpenPayload
  dsimp only
  split
  · exact .inl rfl
  next hnone =>
    split
    · exact .inl rfl
    · split
      · exact .inl rfl
      · exact .inr ⟨hnone, rfl⟩

theorem Sound.runOpenPayload {s : State} (id : Byte) (len : BitVec 32) (hready : s.device = .ready)
    (he : s.executing = none) (hs : Sound s) : Sound (runOpenPayload s id len).1 := by
  rcases runOpenPayload_cases s id len with h | ⟨hnone, h⟩
  · rw [h]
    exact hs
  · rw [h]
    refine hs.storeOnly (s := s) rfl (hs.stock.openPayload id.isLt hnone hready rfl rfl rfl rfl) ?_
    exact fillsFilling_of_idle he

theorem Sound.runDeletePayload {s : State} (id : Byte) (hs : Sound s) : Sound (runDeletePayload s id).1 := by
  unfold Machine.runDeletePayload
  dsimp only
  split
  · exact hs
  next p hp =>
    split
    next hst =>
      refine hs.storeOnly (.deleteChunks _ _) (hs.stock.deleteChunks _) ?_
      exact fillsFilling_congr (deleteChunks_directory _ _)
        (congrArg (Option.bind · _) (StoreOnly.deleteChunks _ _).executing) hs.fills
    next hst =>
      split
      next hzero =>
        have hfree : freeable s id.toNat := by
          refine ⟨refsTo_eq_zero ((hs.stock.refs _ p hp).symm.trans hzero), fun k hk heq => ?_⟩
          obtain ⟨x, hx, hf⟩ := hs.stock.chunks k hk
          rw [heq] at hx
          cases hp.symm.trans hx
          rw [hst] at hf
          cases hf
        exact hs.storeOnly (.freePayload _ _) (hs.stock.freePayload hfree) (fillsFilling_freePayload _ hs.fills)
      · have hnf : p.state ≠ .filling := by rw [hst]; exact nofun
        have hdoom : Stocked (s.setPayload id.toNat { p with state := .doomed }) :=
          hs.stock.setPayload hp rfl rfl (fun _ => nofun) (fun h => absurd h hnf)
        refine hs.storeOnly (.setPayload _ _ _) hdoom (fun j q hj hq => ?_)
        rw [payload?_setPayload] at hq
        split at hq
        next h => exact absurd (hs.fills _ p (h ▸ hj) hp) hnf
        · exact hs.fills j q hj hq
    · exact hs

/-- The requests that read the store, and those whose work begins when they wait, leave the part as it is. -/
def leavesAll : Req → Bool
  | .openPayload _ _ | .deletePayload _ => false
  | r => withinStore r

theorem runRequest_leavesAll (s : State) (seq : Byte) (r : Req) (h : leavesAll r = true) :
    (runRequest s seq r).1 = s := by
  cases r
  case putData id off data =>
    show (runPutData s id off data).1 = s
    unfold runPutData
    repeat' split
    all_goals rfl
  case sealPayload id want =>
    show (runSealPayload s id want).1 = s
    unfold runSealPayload
    repeat' split
    all_goals rfl
  case readBack id off n =>
    show (runReadBack s id off n).1 = s
    unfold runReadBack
    repeat' split
    all_goals rfl
  case payloadInfo id =>
    show (runPayloadInfo s id).1 = s
    unfold runPayloadInfo
    split <;> rfl
  case cueInfo id =>
    show (runCueInfo s id).1 = s
    unfold runCueInfo
    split <;> rfl
  case laneStatus l =>
    show (runLaneStatus s l).1 = s
    unfold runLaneStatus
    split <;> rfl
  case identify | getState | memoryStatus | listPayloads | listCues | getTime => rfl
  all_goals exact absurd h (by simp [leavesAll, withinStore])

/-! ### Time, lanes and reset -/

theorem Sound.runStepTime {s : State} (k : BitVec 32) (hs : Sound s) : Sound (runStepTime s k).1 := by
  unfold Machine.runStepTime
  dsimp only
  repeat' split
  · exact hs
  · exact hs
  · exact hs
  · exact (hs.timeOnly (s := s) (t := s.setSlew none) rfl).advanceTo _
  · exact hs.timeOnly (s := s) rfl

theorem Sound.runSetLane {s : State} (l : Byte) (b : LaneBody) (hs : Sound s) : Sound (runSetLane s l b).1 := by
  rcases runSetLane_cases s l b with h | ⟨k, config, -, hrest, h⟩
  · rw [h]
    exact hs
  · rw [h]
    refine pickFor k (hs.setLane ?_ (Lane.role_congr ?_ rfl))
    · have hheld : (s.lane k).held = none := (hs.lane k).rest hrest
      have hrel : (s.lane k).release = none := by
        by_contra hn
        obtain ⟨-, hh⟩ := (hs.lane k).release.1 (Option.isSome_iff_ne_none.2 hn)
        rw [hheld] at hh
        cases hh
      refine ⟨?_, fun _ => hheld, fun h => ?_, fun _ h => ?_, ?_⟩
      · cases config.enabled <;> simp
      · cases he : config.enabled <;> simp [he, LaneState.holdsStaged] at h
      · rw [show (_ : Option HeldCue) = none from hheld] at h
        cases h
      · show (s.lane k).release.isSome = true ↔ _ ∧ (s.lane k).held.isSome = true
        rw [hrel, hheld]
        exact ⟨nofun, fun h => by cases h.2⟩
    · have hno : (s.lane k).state.holdsStaged = false := by
        cases h : (s.lane k).state <;> simp_all [LaneState.holdsStaged, LaneState.atRest]
      rw [hno]
      cases config.enabled <;> rfl

theorem Stocked.clearRefs {s : State} (hs : Stocked s) {t : State} (hcues : t.cues = []) (hstore : t.store = s.store)
    (hd : t.device = s.device) (hp : t.mc.profile = s.mc.profile) : Stocked (clearRefs t) := by
  have hget : ∀ j, (Machine.clearRefs t).payload? j = (s.payload? j).map (fun p => { p with refs := 0 }) := by
    intro j
    show tget (t.store.directory.map _) j = _
    rw [hstore, tget_map _ (fun e : Nat × Payload => (e.1, { e.2 with refs := 0 })) (fun _ => rfl)]
    rfl
  have hdir : (Machine.clearRefs t).store.directory
      = s.store.directory.map (fun e => (e.1, { e.2 with refs := 0 })) := by
    show t.store.directory.map _ = _
    rw [hstore]
  have hpool : (Machine.clearRefs t).store.pool = s.store.pool := by
    show t.store.pool = _
    rw [hstore]
  refine ⟨⟨?_, fun e he => ?_, fun h => ?_, fun p h hp' => ?_⟩, fun j p hj => ?_, fun e he => ?_, fun k hk => ?_⟩
  · rw [hdir, sortedKeys_map _ (fun e : Nat × Payload => (e.1, { e.2 with refs := 0 })) (fun _ => rfl)]
    exact hs.placed.sorted
  · rw [hdir] at he
    obtain ⟨a, ha, rfl⟩ := List.mem_map.1 he
    exact hs.placed.ids a ha
  · obtain ⟨h1, h2⟩ := hs.placed.outside (hd ▸ h)
    rw [hdir, hpool, h1, h2]
    exact ⟨rfl, rfl⟩
  · rw [hdir, hpool, List.map_map]
    exact hs.placed.blocks p (hd ▸ h) (hp ▸ hp')
  · rw [hget] at hj
    obtain ⟨q, -, rfl⟩ := Option.map_eq_some_iff.1 hj
    show 0 = List.countP _ t.cues
    rw [hcues]
    rfl
  · rw [show (Machine.clearRefs t).cues = [] from hcues] at he
    cases he
  · obtain ⟨p, hp', hst⟩ := hs.chunks k (hstore ▸ hk)
    rw [hget, hp']
    exact ⟨_, rfl, hst⟩

theorem Stocked.setLeaving {s : State} (ids : List Nat) (hs : Stocked s) : Stocked (s.setLeaving ids) :=
  ⟨.congr (s := s) rfl rfl rfl rfl hs.placed, hs.refs, hs.named, hs.chunks⟩

theorem Stocked.resetFill {s : State} (hs : Stocked s) (hcues : s.cues = []) : Stocked (resetFill s) := by
  unfold Machine.resetFill
  split
  · exact (hs.setChunks _ (fun k hk => ⟨k, List.mem_of_mem_take hk, rfl⟩)).setLeaving _
  · have hport := PortOnly.giveUpRequest s .fill
    refine (Stocked.freeAll _ ((hs.portOnly hport).setChunks [] nofun) (fun id _ => ⟨fun e he => ?_, nofun⟩)).setLeaving _
    rw [show ((Machine.giveUpRequest s .fill).setChunks []).cues = [] from hport.cues.trans hcues] at he
    cases he

/-- The store after a soft reset, in a part whose cue table has been emptied. -/
theorem Stocked.resetStore {s t : State} (hs : Stocked s) (hcues : t.cues = []) (hstore : t.store = s.store)
    (hd : t.device = s.device) (hp : t.mc.profile = s.mc.profile) : Stocked (resetStore t) := by
  have hclear := (hs.clearRefs hcues hstore hd hp).freeDoomed.1
  exact hclear.resetFill ((StoreOnly.freeDoomed (Machine.clearRefs t)).cues.trans hcues)

theorem Stocked.resetMemory {s : State} (hs : Stocked s) : Stocked (resetMemory s) := by
  unfold Machine.resetMemory
  split
  next hd =>
    obtain ⟨h1, h2⟩ := hs.placed.outside (by rw [hd]; exact nofun)
    exact hs.ofEmpty h1 rfl h1 h2 rfl nofun
  · exact hs

theorem resetMemory_rest (s : State) :
    (resetMemory s).cues = s.cues ∧ (resetMemory s).lanes = s.lanes ∧ (resetMemory s).executing = s.executing := by
  unfold resetMemory
  split <;> exact ⟨rfl, rfl, rfl⟩

/-- The part with every lane and the cue table reset. -/
theorem resetCues_order (s : State) :
    PortOnly { s with lanes := s.lanes.map Lane.afterReset, cues := [] } (resetCues s) :=
  (fours_order resetLane_order s).withCues []

theorem softReset_sound {s : State} (he : s.executing = none) (hs : Sound s) : Sound (softReset s) := by
  have horder := resetCues_order (resetLink s)
  have hlink : Sound (resetLink s) := hs.hostOnly (s := s) rfl (fillsFilling_of_idle he)
  have hidle : (resetLink s).executing = none := he
  rw [softReset]
  refine Sound.timeOnly (s := resetMemory (resetStore (resetCues (resetLink s)))) rfl ?_
  generalize resetLink s = u at horder hlink hidle ⊢
  generalize resetCues u = v at horder ⊢
  have hkept := StoreOnly.resetStore v
  have hstock := hlink.stock.resetStore horder.cues horder.store horder.core.device horder.profile
  generalize resetStore v = w at hkept hstock ⊢
  obtain ⟨hmc, hml, hme⟩ := resetMemory_rest w
  have hcues : (resetMemory w).cues = [] := hmc.trans (hkept.cues.trans horder.cues)
  have hlanes : (resetMemory w).lanes = u.lanes.map Lane.afterReset := hml.trans (hkept.lanes.trans horder.lanes)
  have hexec : (resetMemory w).executing = none := hme.trans (hkept.executing.trans (horder.executing.trans hidle))
  have hlane : ∀ l, (resetMemory w).lane l = (u.lane l).afterReset := fun l => by
    rw [State.lane, hlanes, quad_get_map]
    rfl
  refine ⟨⟨by rw [hcues]; rfl, fun e he => ?_⟩, fun l => ?_, fun l id st => ?_, hstock.resetMemory,
    fillsFilling_of_idle hexec⟩
  · rw [hcues] at he
    cases he
  · rw [hlane]
    exact (hlink.lane l).reset_lane.1
  · have hnone : cueRole (resetMemory w) id = none := by
      unfold cueRole State.cue?
      rw [hcues]
      rfl
    rw [hlane, (hlink.lane l).reset_lane.2, hnone]
    exact ⟨nofun, nofun⟩

/-! ### Execution -/

theorem runRequest_sound {s : State} (seq : Byte) (r : Req) (he : s.executing = none)
    (hacc : accepted r.code s.device = true) (hr : namesSlot r) (hs : Sound s) : Sound (runRequest s seq r).1 := by
  by_cases hall : leavesAll r = true
  · rw [runRequest_leavesAll s seq r hall]
    exact hs
  by_cases ht : withinTime r = true
  · exact hs.timeOnly (runRequest_time s seq r ht)
  cases r
  case reset => exact softReset_sound rfl (hs.hostOnly (s := s) rfl (fillsFilling_of_idle rfl))
  case noticeAck n =>
    have hk := HostOnly.runNoticeAck s n
    refine hs.hostOnly hk (fillsFilling_of_idle ?_)
    show (runNoticeAck s n).1.executing = none
    unfold runNoticeAck removeNotices
    dsimp only
    repeat' split
    all_goals exact he
  case memoryInit b => exact hs.runMemoryInit b
  case openPayload id len =>
    refine hs.runOpenPayload id len ?_ he
    rwa [show (Req.openPayload id len).code = 0x20 from rfl, accepted_openPayload, decide_eq_true_eq] at hacc
  case deletePayload id => exact hs.runDeletePayload id
  case fileCue b => exact hs.runFileCue hr
  case armCue id d => exact hs.runArmCue id d
  case cancelCue id => exact hs.runCancelCue id
  case discardCue id => exact hs.runDiscardCue id
  case stopAll => exact hs.runStopAll
  case stepTime k => exact hs.runStepTime k
  case setLane l b => exact hs.runSetLane l b
  all_goals exact absurd rfl ‹_›

/-- The requests whose event goes on in the lanes, the cues and the memory once they pass their tests. -/
def endsInLanes : Req → Bool
  | .reset | .deletePayload _ | .fileCue _ | .armCue _ _ | .cancelCue _ | .discardCue _ | .stopAll | .stepTime _
  | .setLane _ _ => true
  | _ => false

/-- A request whose work ends with the event leaves the part as it is where it is answered at once: it is refused. -/
theorem runRequest_says_unchanged {s : State} {seq : Byte} {r : Req} {st : Status} {res : List Byte}
    (h : (runRequest s seq r).2 = .says st res) (hr : endsInLanes r = true) :
    (runRequest s seq r).1 = s := by
  cases r
  case reset => cases h
  case deletePayload id =>
    change (runDeletePayload s id).2 = .says st res at h
    show (runDeletePayload s id).1 = s
    unfold runDeletePayload refuse at *
    dsimp only at *
    repeat' split
    all_goals simp_all
  case fileCue b =>
    change (runFileCue s b).2 = .says st res at h
    show (runFileCue s b).1 = s
    unfold runFileCue refuse at *
    split <;> simp_all
  case armCue id d =>
    change (runArmCue s id d).2 = .says st res at h
    show (runArmCue s id d).1 = s
    unfold runArmCue refuse at *
    dsimp only at *
    repeat' split
    all_goals simp_all
  case cancelCue id =>
    change (runCancelCue s id).2 = .says st res at h
    show (runCancelCue s id).1 = s
    unfold runCancelCue refuse at *
    dsimp only at *
    repeat' split
    all_goals simp_all
  case discardCue id =>
    change (runDiscardCue s id).2 = .says st res at h
    show (runDiscardCue s id).1 = s
    unfold runDiscardCue refuse at *
    repeat' split
    all_goals simp_all
  case stopAll => cases h
  case stepTime k =>
    change (runStepTime s k).2 = .says st res at h
    show (runStepTime s k).1 = s
    unfold runStepTime refuse at *
    dsimp only at *
    repeat' split
    all_goals simp_all
  case setLane l b =>
    change (runSetLane s l b).2 = .says st res at h
    show (runSetLane s l b).1 = s
    unfold runSetLane refuse at *
    dsimp only at *
    repeat' split
    all_goals simp_all
  all_goals cases hr

/-- An answer at once dooms no payload. -/
theorem runRequest_says_doomed {s : State} {seq : Byte} {r : Req} {st : Status} {res : List Byte}
    (h : (runRequest s seq r).2 = .says st res) (hd : doomedHeld s) : doomedHeld (runRequest s seq r).1 := by
  have same : ∀ t : State, t.store.directory = s.store.directory → doomedHeld t := by
    intro t ht
    unfold Machine.doomedHeld
    rw [ht]
    exact hd
  by_cases hend : endsInLanes r = true
  · exact same _ (by rw [runRequest_says_unchanged h hend])
  by_cases hall : leavesAll r = true
  · exact same _ (by rw [runRequest_leavesAll s seq r hall])
  by_cases ht : withinTime r = true
  · exact same _ (by rw [(runRequest_time s seq r ht).store])
  cases r
  case noticeAck n =>
    have hk : HostOnly s (runRequest s seq (.noticeAck n)).1 := HostOnly.runNoticeAck s n
    exact same _ (by rw [hk.store])
  case memoryInit b =>
    show doomedHeld (runMemoryInit s b).1
    rcases runMemoryInit_cases s b with h' | ⟨p, -, -, h'⟩
    · rw [h']
      exact hd
    · rw [h']
      exact same _ rfl
  case openPayload id len =>
    show doomedHeld (runOpenPayload s id len).1
    rcases runOpenPayload_cases s id len with h' | ⟨-, h'⟩
    · rw [h']
      exact hd
    · rw [h']
      exact doomedHeld_setPayload (s := s) hd nofun
  all_goals exact absurd rfl ‹_›

/-- What a request that begins to wait fills, seals or deletes is FILLING, and the directory is as it was. -/
theorem runRequest_waits {s : State} {seq code : Byte} {r : Req} {w : Wait} (h : (runRequest s seq r).2 = .waits w)
    {id : Nat} (hw : Executing.fills ⟨seq, code, w⟩ = some id) :
    (runRequest s seq r).1.store.directory = s.store.directory
      ∧ ∃ p, s.payload? id = some p ∧ p.state = .filling := by
  cases r
  case putData id off data =>
    have hsame := runRequest_leavesAll s seq (.putData id off data) rfl
    refine ⟨by rw [hsame], ?_⟩
    change (runPutData s id off data).2 = .waits w at h
    unfold runPutData refuse at h
    split at h
    · cases h
    next p hp =>
      repeat' split at h
      · cases h
      · cases h
      · cases h
      next hst _ _ =>
        cases h
        cases hw
        exact ⟨p, hp, not_not.1 hst⟩
  case sealPayload id want =>
    have hsame := runRequest_leavesAll s seq (.sealPayload id want) rfl
    refine ⟨by rw [hsame], ?_⟩
    change (runSealPayload s id want).2 = .waits w at h
    unfold runSealPayload refuse at h
    split at h
    · cases h
    next p hp =>
      repeat' split at h
      · cases h
      · cases h
      next hst _ =>
        cases h
        cases hw
        exact ⟨p, hp, not_not.1 hst⟩
  case deletePayload id =>
    change (runDeletePayload s id).2 = .waits w at h
    show (runDeletePayload s id).1.store.directory = _ ∧ _
    unfold runDeletePayload refuse at *
    dsimp only at *
    cases hp : s.payload? id.toNat with
    | none =>
      rw [hp] at h
      cases h
    | some p =>
      rw [hp] at h
      dsimp only at *
      match hst : p.state with
      | .filling =>
        rw [hst] at h
        cases h
        cases hw
        exact ⟨deleteChunks_directory _ _, p, hp, hst⟩
      | .sealed =>
        rw [hst] at h
        dsimp only at h
        split at h <;> cases h
      | .doomed =>
        rw [hst] at h
        cases h
  case readBack | cancelCue | stopAll =>
    simp only [runRequest, runReadBack, runCancelCue, runStopAll, refuse] at h
    (repeat' split at h) <;> cases h
    all_goals cases hw
  all_goals
    simp only [runRequest, runIdentify, runGetState, runReset, runNoticeAck, runMemoryInit, runMemoryStatus,
      runOpenPayload, runPayloadInfo, runListPayloads, runFileCue, runArmCue, runDiscardCue, runCueInfo, runListCues,
      runGetTime, runSetTime, runStepTime, runSlewTime, runSetTrigger, runReadStamps, runSetLane, runLaneStatus,
      refuse] at h
    (repeat' split at h) <;> cases h

theorem runRequest_waits_fills {s : State} {seq code : Byte} {r : Req} {w : Wait}
    (h : (runRequest s seq r).2 = .waits w) :
    fillsFilling { (runRequest s seq r).1 with executing := some ⟨seq, code, w⟩ } := by
  intro id q hf hq
  obtain ⟨hdir, p, hp, hst⟩ := runRequest_waits (code := code) h (id := id) hf
  rw [payload?_congr (s := s) (t := { (runRequest s seq r).1 with executing := some ⟨seq, code, w⟩ }) hdir, hp] at hq
  cases hq
  exact hst

/-- What follows a request's answer puts cues, lanes and store in order. -/
theorem conclude_inOrder {s0 s : State} {seq code : Byte} {r : Req} (h : Sound (runRequest s seq r).1)
    (hd : doomedHeld s) :
    Sound (conclude s0 seq code (runRequest s seq r)) ∧ doomedHeld (conclude s0 seq code (runRequest s seq r)) := by
  unfold conclude
  split
  next st res hans => exact ⟨h.endExecution _ _ _ _,
    (HostOnly.endExecution _ _ _ _ _).doomedHeld (runRequest_says_doomed hans hd)⟩
  · exact coreTail_inOrder _ (h.endExecution _ _ _ _)
  next w hans => exact coreTail_inOrder _ (h.hostOnly (s := (runRequest s seq r).1) rfl (runRequest_waits_fills hans))
  · exact coreTail_inOrder _ h

theorem execute_inOrder {s : State} (seq : Byte) (body : List Byte) (he : s.executing = none) (hs : Sound s)
    (hd : doomedHeld s) : Sound (execute s seq body) ∧ doomedHeld (execute s seq body) := by
  have ends : ∀ st r, Sound (endExecution s seq (byteAt body 0) st r)
      ∧ doomedHeld (endExecution s seq (byteAt body 0) st r) :=
    fun _ _ => ⟨hs.endExecution _ _ _ _, (HostOnly.endExecution _ _ _ _ _).doomedHeld hd⟩
  unfold execute
  dsimp only
  repeat' split
  · exact ends _ _
  · exact ends _ _
  next r hr hacc _ hf =>
    exact conclude_inOrder
      (runRequest_sound seq r he (code_of_readBody hr ▸ hacc) (namesSlot_of_formatCheck hr hf) hs) hd
  · exact ends _ _

/-! ### Moves -/

theorem HostOnly.inOrder {s t : State} (h : HostOnly s t) (he : t.executing = s.executing)
    (hs : Sound s ∧ Machine.doomedHeld s) : Sound t ∧ Machine.doomedHeld t :=
  ⟨hs.1.hostOnly h (fillsFilling_congr (by rw [h.store]) (by rw [he]) hs.1.fills), h.doomedHeld hs.2⟩

/-- A change of every lane that leaves its role and what the role rests on. -/
theorem Sound.sameLanes {s t : State} {f : Lane → Lane} (hcues : t.cues = s.cues) (hlanes : t.lanes = s.lanes.map f)
    (hf : ∀ x : Lane, (f x).state = x.state ∧ (f x).config = x.config ∧ (f x).held = x.held
      ∧ (f x).cutCause = x.cutCause ∧ (f x).release = x.release)
    (hstore : t.store = s.store) (hd : t.device = s.device) (hp : t.mc.profile = s.mc.profile)
    (he : t.executing = s.executing) (hs : Sound s) : Sound t := by
  have hlane : ∀ l, t.lane l = f (s.lane l) := fun l => by rw [State.lane, hlanes, quad_get_map]; rfl
  refine ⟨cueInvariant_congr hcues hs.cues, fun l => ?_, rolesAgree_congr (fun l => ?_) (cueRole_congr hcues) hs.roles,
    hs.stock.congr hcues hstore hd hp, fillsFilling_congr (by rw [hstore]) (by rw [he]) hs.fills⟩
  · obtain ⟨h1, h2, h3, h4, h5⟩ := hf (s.lane l)
    rw [hlane]
    exact (hs.lane l).congr h1 (by rw [h2]) h3 h4 h5
  · obtain ⟨h1, -, h3, -⟩ := hf (s.lane l)
    rw [hlane]
    exact Lane.role_congr (by rw [h1]) h3

theorem reset_inOrder (t : State) (hc : t.cues = []) (hl : ∃ q, t.lanes = resetLanes q) (hs : t.store = .reset)
    (hd : t.device = .unconfigured) (he : t.executing = none) : Sound t ∧ doomedHeld t := by
  obtain ⟨q, hq⟩ := hl
  have hlane : ∀ l, t.lane l = { Lane.reset with hold := (q.get l).hold } := fun l => by
    rw [State.lane, hq, resetLanes, quad_get_map]
  have hdir : t.store.directory = [] := by rw [hs]; rfl
  have hcue : cueInvariant t := ⟨by rw [hc]; rfl, fun e h => by rw [hc] at h; cases h⟩
  have hnone : ∀ id, cueRole t id = none := fun id => by
    unfold cueRole State.cue?
    rw [hc]
    rfl
  have hpay : ∀ id, t.payload? id = none := fun id => by
    unfold State.payload?
    rw [hdir]
    rfl
  refine ⟨⟨hcue, fun l => ?_, fun l id st => ?_, ⟨⟨by rw [hdir]; rfl, fun e h => ?_, fun _ => ⟨hdir, by rw [hs]; rfl⟩,
    fun p h => ?_⟩, fun id p h => ?_, fun e h => ?_, fun k h => ?_⟩, fillsFilling_of_idle he⟩, fun e h => ?_⟩
  · rw [hlane]
    exact ⟨⟨fun _ => rfl, fun _ => rfl⟩, fun _ => rfl, fun h => (by rcases h with h | h <;> cases h), nofun,
      ⟨nofun, fun h => by cases h.2⟩⟩
  · rw [hlane, hnone]
    exact ⟨nofun, nofun⟩
  · rw [hdir] at h
    cases h
  · rw [hd] at h
    cases h
  · rw [hpay] at h
    cases h
  · rw [hc] at h
    cases h
  · rw [hs] at h
    cases h
  · rw [hdir] at h
    cases h

theorem move_keeps_order (s t : State) (hm : Move s t) (hc : controllerInvariant s) (h : Sound s ∧ doomedHeld s) :
    Sound t ∧ doomedHeld t := by
  obtain ⟨hs, hd⟩ := h
  cases hm
  case begin => exact (HostOnly.txBegin s).inOrder (by simp) ⟨hs, hd⟩
  case event u s0 hu => exact coreTail_inOrder s0 (effect_sound hu hc hd hs)
  case grant =>
    have hport := PortOnly.arbitrate s
    refine ⟨hs.portOnly hport, ?_⟩
    unfold doomedHeld
    rw [hport.store]
    exact hd
  case take e q he _ _ => exact execute_inOrder _ _ he (hs.hostOnly (s := s) rfl (fillsFilling_of_idle he)) hd
  case sort seq body =>
    refine (HostOnly.sortRequest s _ _).inOrder ?_ ⟨hs, hd⟩
    unfold sortRequest resendStored joinPrompt
    repeat' split
    all_goals rfl
  case sync seq =>
    refine (HostOnly.handleSync s _).inOrder ?_ ⟨hs, hd⟩
    unfold handleSync
    dsimp only
    repeat' split
    all_goals rfl
  case deferred =>
    refine (HostOnly.syncDeferred s).inOrder ?_ ⟨hs, hd⟩
    unfold syncDeferred
    split <;> rfl
  case sent =>
    refine (HostOnly.txEnd s).inOrder ?_ ⟨hs, hd⟩
    unfold txEnd
    repeat' split
    all_goals rfl
  case offer | framer | lineOn | resend => exact HostOnly.inOrder (s := s) rfl rfl ⟨hs, hd⟩
  case level l b => exact ⟨hs.setLane_same rfl rfl rfl rfl rfl, hd⟩
  case period =>
    exact ⟨Sound.sameLanes (s := s) (f := Lane.countPeriod) rfl rfl (fun _ => ⟨rfl, rfl, rfl, rfl, rfl⟩) rfl rfl rfl
      rfl hs, hd⟩
  case resetBegin | resetEnd => exact reset_inOrder _ rfl ⟨_, rfl⟩ rfl rfl rfl

/-- Cue table, controller, lanes and store in order, in the parts that the proof keeps. -/
def partInOrder (s : State) : Prop := controllerInvariant s ∧ Sound s ∧ doomedHeld s

theorem partInOrder_iff (s : State) :
    partInOrder s ↔ cueInvariant s ∧ controllerInvariant s ∧ laneInvariant s ∧ storeInvariant s := by
  rw [laneInvariant_iff, storeInvariant_iff]
  exact ⟨fun ⟨hc, hs, hd⟩ => ⟨hs.cues, hc, ⟨hs.lane, hs.roles⟩, hs.stock, hs.fills, hd⟩,
    fun ⟨h1, hc, ⟨h2, h3⟩, h4, h5, hd⟩ => ⟨hc, ⟨h1, h2, h3, h4, h5⟩, hd⟩⟩

/-- Settles O59: every move keeps lanes and store in order beside a cue table and a controller in order. -/
theorem lanesAndStoreKept : Obligations.LanesAndStoreKept := by
  unfold Obligations.LanesAndStoreKept
  intro s t h1 h2 h3 h4 h
  have hpart : partInOrder t := by
    refine step_keeps (P := partInOrder) (fun u v hm ⟨hc, ho⟩ => ?_) (fun u q hu => ?_)
      ((partInOrder_iff s).2 ⟨h1, h2, h3, h4⟩) h
    · exact ⟨move_keeps_controller u v hm hc, move_keeps_order u v hm hc ho⟩
    · exact ⟨hu.1, hu.2.1.congr (s := u) rfl rfl rfl rfl rfl rfl, hu.2.2⟩
  exact ((partInOrder_iff t).1 hpart).2.2

end Sys2Proof.Machine
end

section
/-!
PROOFS. Pin reset: its values (O4), the invariants in it (O60), and its beginning, end and course (O5).
-/

namespace Sys2Proof.Machine

/-- Settles O4: the reset values, block by block. -/
theorem resetValues : Obligations.ResetValues := by
  unfold Obligations.ResetValues
  refine ⟨rfl, rfl, rfl, rfl, ?_, rfl, rfl, rfl, rfl, rfl, rfl, rfl, rfl, ?_, ?_, rfl, rfl, rfl, rfl, ?_, rfl, rfl, ?_,
    rfl⟩
  · intro l
    rfl
  · intro l
    fin_cases l <;> exact ⟨rfl, rfl, rfl, rfl, rfl, rfl, rfl⟩
  · intro l
    fin_cases l <;> exact ⟨rfl, rfl, rfl, rfl⟩
  · intro r
    cases r with
    | lane l => fin_cases l <;> rfl
    | fill => rfl
    | readBack => rfl
  · intro b
    fin_cases b <;> rfl

/-- Settles O60. -/
theorem invariantsAtReset : Obligations.InvariantsAtReset := by
  unfold Obligations.InvariantsAtReset
  have hreset : partInOrder State.reset :=
    ⟨reset_controller rfl rfl rfl rfl, reset_inOrder State.reset rfl ⟨.all .reset, rfl⟩ rfl rfl rfl⟩
  obtain ⟨hcue, hcontroller, hlane, hstore⟩ := (partInOrder_iff _).1 hreset
  refine ⟨rfl, ?_, ?_, ?_, ?_, hcue, hcontroller, hlane, hstore⟩
  · intro l
    fin_cases l <;> exact Nat.zero_le _
  · exact timeInvariant_of_noSlew (Nat.zero_le _) ⟨nofun, nofun⟩ rfl
  · exact ⟨Nat.zero_le _, Nat.zero_le _, Nat.zero_le _, Nat.zero_le _, Nat.zero_le _⟩
  · exact (noticeInvariant_iff _).2 (restarted_inOrder .pin)

/-! ### The course of a pin reset -/

section
variable {s : State} (h : s.inReset = true)
include h

theorem eventIf_inReset (holds : State → Bool) (f : State → State) : eventIf holds f s = s := by
  unfold eventIf
  split
  · exact event_inReset f s h
  · rfl

theorem coreEvent_inReset (f : State → State) : coreEvent f s = s := event_inReset _ s h

theorem coreEventIf_inReset (holds : State → Bool) (f : State → State) : coreEventIf holds f s = s := by
  unfold coreEventIf
  split
  · exact coreEvent_inReset h f
  · rfl

theorem frameEvent_inReset (f : State → State) : frameEvent f s = s := eventIf_inReset h _ f

theorem hostRequest_inReset (seq : Byte) (r : Req) : hostRequest seq r s = s := frameEvent_inReset h _

end

/-- Settles O5: the beginning and the end of a pin reset by unfolding, and its course by the kinds of events. -/
theorem pinReset : Obligations.PinReset := by
  unfold Obligations.PinReset
  refine ⟨fun s => ⟨fun h => ?_, fun h => ?_, fun h => ?_, fun h => ?_⟩, fun c s h => ?_⟩
  · show Host.Outcome.next (if s.inReset then s else beginReset s) = _
    rw [h]
    rfl
  · show Host.Outcome.next (if s.inReset then s else beginReset s) = _
    rw [h]
    rfl
  · show Host.Outcome.next (if s.inReset then pinResetState s else s) = _
    rw [h]
    rfl
  · show Host.Outcome.next (if s.inReset then pinResetState s else s) = _
    rw [h]
    rfl
  · cases c
    case pinResetEnd => trivial
    case pinResetBegin =>
      show Host.Outcome.next (if s.inReset then s else beginReset s) = _
      rw [h]
      rfl
    case holdAsserted l =>
      show Host.Outcome.next (if s.inReset then keepLevel s l true else coreEvent (holdOn · l) s) = _
      rw [h]
      rfl
    case holdDeasserted l =>
      show Host.Outcome.next (if s.inReset then keepLevel s l false else coreEvent (holdOff · l) s) = _
      rw [h]
      rfl
    case tick | triggerEdge => exact congrArg Host.Outcome.next (coreEvent_inReset h _)
    case receiveLineOn | byteReceived => exact congrArg Host.Outcome.next (event_inReset _ s h)
    case unknownRequestCode | requestArrival | syncArrival | badFrame | lineFault =>
      exact congrArg Host.Outcome.next (frameEvent_inReset h _)
    case syncDoneDeferred | partialFrameTimeout | frameTransmitStart | frameTransmitEnd | noticeResendExpiry
        | arbiterGrant => exact congrArg Host.Outcome.next (eventIf_inReset h _ _)
    case slewAdjustment | timeEnd | dueReached | toleranceExpiry | leadWindowEntry | releaseStart | byteSlot
        | holdLimitExpiry | flushEnd | rowCommandDone | transactionComplete | closingPrechargeDone | cancelCueDone
        | stopAllDone | putDataTaken | sealFinish | deleteFinish | readBackFinish | refreshIntervalExpiry
        | refreshPrechargeDone | refreshComplete | bringupWaitEnd | bringupPrechargeDone | bringupRefreshDone
        | modeSetDone => exact congrArg Host.Outcome.next (coreEventIf_inReset h _ _)
    -- what is left are the 28 requests by name
    all_goals exact congrArg Host.Outcome.next (hostRequest_inReset h _ _)

end Sys2Proof.Machine
end

section
/-!
PROOFS. One period of the clock with one event in it (O2).
-/

namespace Sys2Proof.Machine

/-! ### The frame in transmission through an event -/

theorem resume_tx (s : State) : (resume s).link.tx = s.link.tx := (OuterKept.resume s).tx

theorem effect_tx {s t : State} (h : Effect s t) : t.link.tx = s.link.tx := by
  rcases HostKept.effect h with rfl | hk
  · exact resume_tx s
  · rw [hk.link]

theorem frameOver_congr {s t : State} (h : t.link.tx = s.link.tx) : frameOver t = frameOver s := by
  unfold frameOver
  rw [h]

/-- A frame that has just begun is not over. -/
theorem frameOver_txBegin (s : State) : frameOver (txBegin s) = frameOver s := by
  have fresh : ∀ (u : State) (f : Frame), frameOver (u.sendFrame f) = false := by
    intro u f
    show decide (7 + f.body.length ≤ 0 * _ / 1000000000) = false
    rw [Nat.zero_mul, Nat.zero_div]
    exact decide_eq_false (by omega)
  cases ht : s.link.tx with
  | some f => exact frameOver_congr (by rw [txBegin_of_busy s (by rw [ht]; rfl)])
  | none =>
    have hs : frameOver s = false := by
      unfold frameOver
      rw [ht]
    rw [hs]
    unfold txBegin
    rw [ht]
    dsimp only
    repeat' split
    · exact fresh _ _
    · exact fresh _ _
    · exact fresh _ _
    · exact hs

theorem frameOver_takeNext (s : State) : frameOver (takeNext s) = frameOver s := by
  unfold takeNext
  repeat' split
  · rfl
  · exact frameOver_congr (execute_tx (s := { s with link := _ }) _ _)
  · rfl

theorem frameOver_linkSettle (s : State) : frameOver (linkSettle s) = frameOver s := by
  rw [linkSettle, linkTurn, linkTurn, frameOver_takeNext, frameOver_txBegin, frameOver_takeNext, frameOver_txBegin]

/-- An event that leaves the transmitter alone ends no frame. -/
theorem frameOver_event {f : State → State} (hf : ∀ a, (f a).link.tx = a.link.tx) (s : State) :
    frameOver (event f s) = frameOver s := by
  unfold event
  split
  · rfl
  · rw [frameOver_linkSettle]
    show frameOver (f (txBegin s)) = _
    rw [frameOver_congr (hf _), frameOver_txBegin]

theorem frameOver_eventIf {holds : State → Bool} {f : State → State} (hf : ∀ a, (f a).link.tx = a.link.tx)
    (s : State) : frameOver (eventIf holds f s) = frameOver s := by
  unfold eventIf
  split
  · exact frameOver_event hf s
  · rfl

theorem frameOver_coreEvent {f : State → State} (hf : ∀ a, Effect a (f a)) (s : State) :
    frameOver (coreEvent f s) = frameOver s :=
  frameOver_event (fun a => ((OuterKept.coreTail a (f a)).tx).trans (effect_tx (hf a))) s

theorem frameOver_coreEventIf {holds : State → Bool} {f : State → State} (hf : ∀ a, Effect a (f a)) (s : State) :
    frameOver (coreEventIf holds f s) = frameOver s := by
  unfold coreEventIf
  split
  · exact frameOver_coreEvent hf s
  · rfl

theorem frameOver_tickPeriod (s : State) : frameOver (tickPeriod s) = frameOver s := by
  have limits : ∀ a : State, frameOver (fours.foldl
      (fun a l => coreEventIf (fun b => holdExpired b l) (fun b => cutLane b l .hold) a) a) = frameOver a :=
    fun a => foldl_keeps (P := fun t => frameOver t = frameOver a)
      (fun t l h => (frameOver_coreEventIf (fun b => .holdLimit b l) t).trans h) fours a rfl
  rw [tickPeriod, tickChecks]
  rw [frameOver_coreEventIf .wait, frameOver_eventIf (f := State.orderResend) (fun _ => rfl),
    frameOver_eventIf (f := frameEnds) (fun _ => rfl), limits,
    frameOver_coreEvent .tick]

/-! ### A period -/

/-- A frame that is not over ends in no event. -/
theorem eventIf_quiet {s : State} (h : frameOver s = false) : eventIf frameOver txEnd s = s := by
  unfold eventIf
  rw [h]
  rfl

/-- A period of a part that is not in pin reset. -/
theorem clockPeriod_eq {s m : State} (hr : s.inReset = false) (hm : m = countPeriod (txBegin s)) :
    clockPeriod s = eventIf frameOver txEnd
      (whenFalls (tickFalls s) tickPeriod
        (whenFalls (intervalEnds s) (coreEvent intervalExpires)
          (fours.foldl (fun a l => whenFalls (slotFalls s l) (coreEvent (fun b => takeSlot b l)) a)
            (whenFalls (portEnds s) (coreEvent portStep) m)))) := by
  rw [hm, clockPeriod, hr]
  rfl

/-- The byte slots of a period in which at most one falls. -/
theorem slots_one {s : State} {l : Fin 4} (h : ∀ k, k ≠ l → slotFalls s k = false) (a : State) :
    fours.foldl (fun a l => whenFalls (slotFalls s l) (coreEvent (fun b => takeSlot b l)) a) a
      = whenFalls (slotFalls s l) (coreEvent (fun b => takeSlot b l)) a := by
  have off : ∀ k (b : State), k ≠ l → whenFalls (slotFalls s k) (coreEvent (fun b => takeSlot b k)) b = b := by
    intro k b hk
    rw [h k hk]
    rfl
  rw [fours]
  simp only [List.foldl_cons, List.foldl_nil]
  match l with
  | 0 => rw [off 3 _ (by decide), off 2 _ (by decide), off 1 _ (by decide)]
  | 1 => rw [off 3 _ (by decide), off 2 _ (by decide), off 0 _ (by decide)]
  | 2 => rw [off 3 _ (by decide), off 1 _ (by decide), off 0 _ (by decide)]
  | 3 => rw [off 2 _ (by decide), off 1 _ (by decide), off 0 _ (by decide)]

theorem slots_none {s : State} (h : ∀ k, slotFalls s k = false) (a : State) :
    fours.foldl (fun a l => whenFalls (slotFalls s l) (coreEvent (fun b => takeSlot b l)) a) a = a := by
  rw [slots_one (l := 0) (fun k _ => h k), h 0]
  rfl

/-- What ends on the port, for a port that carries the same. -/
theorem coreEvent_congr {f g : State → State} {s : State} (h : f (txBegin s) = g (txBegin s)) :
    coreEvent f s = coreEvent g s := by
  unfold coreEvent event
  dsimp only
  rw [h]

theorem portEnds_iff (s : State) : portEnds s = true ↔ s.mc.port ≠ none ∧ s.mc.portLeft ≤ 1 := by
  unfold portEnds
  cases s.mc.port <;> simp

theorem slotFalls_iff (s : State) (l : Fin 4) :
    slotFalls s l = true
      ↔ (s.lane l).state = .emitting ∧ (s.lane l).slotWaiting = false ∧ (s.lane l).slotIn ≤ 1 := by
  simp [slotFalls, and_assoc]

theorem intervalEnds_iff (s : State) : intervalEnds s = true ↔ ∃ n, s.refresh.timer = .running n ∧ n ≤ 1 := by
  unfold intervalEnds
  cases s.refresh.timer <;> simp

theorem tickFalls_iff (s : State) : tickFalls s = true ↔ 100 ≤ s.time.phase + 1 := decide_eq_true_iff

theorem frameOver_iff (s : State) :
    frameOver s = true ↔ ∃ t, s.link.tx = some t
      ∧ 7 + t.frame.body.length ≤ t.clocks * Config.lineRate.bitsPerSecond / 1000000000 := by
  unfold frameOver
  cases s.link.tx with
  | none => simp
  | some t =>
    rw [decide_eq_true_iff]
    exact ⟨fun h => ⟨t, rfl, h⟩, fun ⟨u, hu, h⟩ => by cases hu; exact h⟩

/-- Settles O2: each event is the one that its command brings, after the counters. -/
theorem emptyQueueIsOnePeriod : Obligations.EmptyQueueIsOnePeriod := by
  unfold Obligations.EmptyQueueIsOnePeriod
  intro s hq a m portDue slotDue intervalDue tickDue frameDue noSlot
  have hm : m = countPeriod (txBegin s) := by
    show _ = ({ a with
      lanes := a.lanes.map Lane.countPeriod, mc := { a.mc with portLeft := a.mc.portLeft - 1 },
      refresh := { a.refresh with timer := a.refresh.timer.countPeriod },
      link := { a.link with tx := a.link.tx.map (fun t => { t with clocks := t.clocks + 1 }) },
      time := { a.time with phase := a.time.phase + 1 } } : State)
    rw [show a.lanes = s.lanes from txBegin_lanes s, show a.mc = s.mc from txBegin_mc s,
      show a.refresh = s.refresh from txBegin_refresh s, show a.time = s.time from txBegin_time s]
    rfl
  have hstep : step s = .next (clockPeriod s) := by rw [step, hq]
  have hport : m.mc.port = s.mc.port := rfl
  have off : ∀ {b : Bool} {p : Prop}, (b = true ↔ p) → ¬p → b = false := fun h hp => by
    rw [← h] at hp
    simpa using hp
  refine ⟨fun hr => ?_, fun hr => ?_⟩
  · rw [hstep, clockPeriod, if_pos hr]
  have noSlots : noSlot → ∀ k, slotFalls s k = false := fun h k => off (slotFalls_iff s k) (h k)
  have quiet : ¬frameDue → frameOver m = false := off (frameOver_iff m)
  have noPort := off (portEnds_iff s)
  have noInterval := off (intervalEnds_iff s)
  have noTick := off (tickFalls_iff s)
  have hperiod := clockPeriod_eq hr hm
  refine ⟨fun hp hs hi ht hf => ?_, fun hp hs hi ht hf => ?_, fun l hp hl hs hi ht hf => ?_, fun hp hs hi ht hf => ?_,
    fun hp hs hi ht hf => ?_, fun hp hs hi ht hf => ?_⟩
  · rw [hstep, hperiod, noPort hp, slots_none (noSlots hs), noInterval hi, noTick ht]
    exact congrArg Host.Outcome.next (eventIf_quiet (quiet hf))
  · rw [hstep, hperiod, (portEnds_iff s).2 hp, slots_none (noSlots hs), noInterval hi, noTick ht]
    have hquiet : eventIf frameOver txEnd (coreEvent portStep m) = coreEvent portStep m :=
      eventIf_quiet ((frameOver_coreEvent portStep_effect m).trans (quiet hf))
    have ends : ∀ {holds : State → Bool} {f : State → State}, holds m = true → portStep (txBegin m) = f (txBegin m) →
        Host.Outcome.next (eventIf frameOver txEnd (coreEvent portStep m)) = (.next (coreEventIf holds f m) :
          Host.Outcome State Fault Refusal) := by
      intro holds f hh hsame
      rw [hquiet, coreEventIf, hh, coreEvent_congr hsame]
      rfl
    have hcarried : (txBegin m).mc.port = s.mc.port := by rw [txBegin_mc]
    refine ⟨fun t hpt => ⟨fun ⟨c, hc⟩ => ?_, fun hc => ?_, fun hc => ?_⟩, fun hpt => ?_, fun hpt => ?_,
      fun b => ⟨fun hpt => ?_, fun hpt => ?_, fun hpt => ?_⟩⟩
    · refine ends ?_ ?_
      · cases c <;> simp [inRowPhase, portPhase, hport, hpt, hc]
      · rw [portStep, hcarried, hpt]
        simp only [hc]
    · exact ends (by simp [portPhase, hport, hpt, hc]) (by rw [portStep, hcarried, hpt]; simp only [hc])
    · exact ends (by simp [portPhase, hport, hpt, hc]) (by rw [portStep, hcarried, hpt]; simp only [hc])
    · exact ends (by simp [refreshAt, hport, hpt]) (by rw [portStep, hcarried, hpt])
    · exact ends (by simp [refreshAt, hport, hpt]) (by rw [portStep, hcarried, hpt])
    · exact ends (by cases b <;> simp [bringUpAt, hport, hpt]) (by rw [portStep, hcarried, hpt])
    · exact ends (by cases b <;> simp [bringUpAt, hport, hpt]) (by rw [portStep, hcarried, hpt])
    · exact ends (by cases b <;> simp [bringUpAt, hport, hpt]) (by rw [portStep, hcarried, hpt])
  · have hothers : ∀ k, k ≠ l → slotFalls s k = false := fun k hk => off (slotFalls_iff s k) (hs k hk)
    rw [hstep, hperiod, noPort hp, slots_one hothers, (slotFalls_iff s l).2 hl, noInterval hi, noTick ht]
    have hem : (m.lane l).state = .emitting := by
      rw [State.lane, quad_get_map]
      exact hl.1
    have hexec : exec (.byteSlot l) m = .next (coreEvent (fun b => takeSlot b l) m) := by
      show Host.Outcome.next (coreEventIf (fun a => decide ((a.lane l).state = .emitting)) _ m) = _
      rw [coreEventIf, decide_eq_true hem]
      rfl
    rw [hexec]
    exact congrArg Host.Outcome.next
      (eventIf_quiet ((frameOver_coreEvent (fun b => .slot b l) m).trans (quiet hf)))
  · rw [hstep, hperiod, noPort hp, slots_none (noSlots hs), (intervalEnds_iff s).2 hi, noTick ht]
    have hruns : timerRuns m = true := by
      obtain ⟨n, hn, -⟩ := hi
      show timerRuns { s with refresh := { s.refresh with timer := s.refresh.timer.countPeriod } } = true
      simp [timerRuns, hn, RefreshTimer.countPeriod]
    have hexec : exec .refreshIntervalExpiry m = .next (coreEvent intervalExpires m) := by
      show Host.Outcome.next (coreEventIf timerRuns intervalExpires m) = _
      rw [coreEventIf, hruns]
      rfl
    rw [hexec]
    exact congrArg Host.Outcome.next (eventIf_quiet ((frameOver_coreEvent .interval m).trans (quiet hf)))
  · rw [hstep, hperiod, noPort hp, slots_none (noSlots hs), noInterval hi, (tickFalls_iff s).2 ht]
    exact congrArg Host.Outcome.next (eventIf_quiet ((frameOver_tickPeriod m).trans (quiet hf)))
  · rw [hstep, hperiod, noPort hp, slots_none (noSlots hs), noInterval hi, noTick ht]
    have hover := (frameOver_iff m).2 hf
    obtain ⟨t, htx, -⟩ := hf
    show Host.Outcome.next (eventIf frameOver txEnd m) = .next (eventIf (fun a => a.link.tx.isSome) txEnd m)
    rw [eventIf, eventIf, hover, htx]
    rfl

end Sys2Proof.Machine
end

section
/-!
PROOFS. Sorting, and how notices join the queue and go (O34).
-/

namespace Sys2Proof.Machine

/-! ### Sorting -/

/-- Sorting by a strict order whose complement is transitive gives rising members. -/
theorem insertBy_pairwise {α : Type} {lt : α → α → Bool} (asymm : ∀ a b, lt a b = true → lt b a = false)
    (trans : ∀ a b c, lt b a = false → lt c b = false → lt c a = false) {x : α} {l : List α}
    (h : l.Pairwise (fun a b => lt b a = false)) : (insertBy lt x l).Pairwise (fun a b => lt b a = false) := by
  induction l with
  | nil => exact List.pairwise_singleton _ _
  | cons y t ih =>
    obtain ⟨hy, ht⟩ := List.pairwise_cons.1 h
    unfold insertBy
    split
    next hlt =>
      refine List.pairwise_cons.2 ⟨fun z hz => ?_, ih ht⟩
      rcases mem_insertBy.1 hz with rfl | hz
      · exact asymm _ _ hlt
      · exact hy z hz
    next hlt =>
      have hxy : lt y x = false := by simpa using hlt
      refine List.pairwise_cons.2 ⟨fun z hz => ?_, h⟩
      rcases List.mem_cons.1 hz with rfl | hz
      · exact hxy
      · exact trans _ _ _ hxy (hy z hz)

theorem sortBy_pairwise {α : Type} {lt : α → α → Bool} (asymm : ∀ a b, lt a b = true → lt b a = false)
    (trans : ∀ a b c, lt b a = false → lt c b = false → lt c a = false) (l : List α) :
    (sortBy lt l).Pairwise (fun a b => lt b a = false) := by
  induction l with
  | nil => exact List.Pairwise.nil
  | cons x t ih => exact insertBy_pairwise asymm trans ih

/-- Members that the order does not tell apart keep their order. -/
theorem filter_insertBy {α : Type} {lt : α → α → Bool} {p : α → Bool}
    (hp : ∀ a b, p a = true → p b = true → lt a b = false) (x : α) (l : List α) :
    (insertBy lt x l).filter p = (x :: l).filter p := by
  induction l with
  | nil => rfl
  | cons y t ih =>
    unfold insertBy
    split
    next hlt =>
      rw [List.filter_cons, ih]
      by_cases hx : p x = true
      · have hy : p y = false := by
          by_contra hy
          rw [hp y x (by simpa using hy) hx] at hlt
          cases hlt
        simp [List.filter_cons, hy]
      · simp [List.filter_cons, hx]
    · rfl

theorem filter_sortBy {α : Type} {lt : α → α → Bool} {p : α → Bool}
    (hp : ∀ a b, p a = true → p b = true → lt a b = false) (l : List α) :
    (sortBy lt l).filter p = l.filter p := by
  induction l with
  | nil => rfl
  | cons x t ih =>
    show (insertBy lt x (sortBy lt t)).filter p = _
    rw [filter_insertBy hp, List.filter_cons, List.filter_cons, ih]

/-! ### Notices -/

theorem anyOverflow_iff (l : List Notice) : l.any Notice.isOverflow = true ↔ ∃ n ∈ l, n.body = .overflow := by
  simp [Notice.isOverflow]

/-- The three fates of a raised notice (R162). -/
theorem offer_cases (q : NoticeQueue) (b : NoticeBody) :
    ((∃ n ∈ q.held, n.body = .overflow) → q.offer b = q)
      ∧ ((∀ n ∈ q.held, n.body ≠ .overflow) → 31 ≤ q.held.length → q.offer b = q.append .overflow)
      ∧ ((∀ n ∈ q.held, n.body ≠ .overflow) → q.held.length < 31 → q.offer b = q.append b) := by
  have hsize : Config.noticeQueueSize - 1 = 31 := rfl
  have hnone : (∀ n ∈ q.held, n.body ≠ .overflow) → ¬q.held.any Notice.isOverflow = true := by
    intro h hany
    obtain ⟨n, hn, hb⟩ := (anyOverflow_iff _).1 hany
    exact h n hn hb
  unfold NoticeQueue.offer
  rw [hsize]
  refine ⟨fun h => if_pos ((anyOverflow_iff _).2 h), fun h hl => ?_, fun h hl => ?_⟩
  · rw [if_neg (hnone h), if_pos hl]
  · rw [if_neg (hnone h), if_neg (by omega)]

theorem awaitsRelease_iff (s : State) (id : Nat) :
    s.awaitsRelease id = true ↔ ∃ c, s.cue? id = some c ∧ (c.state = .armed ∨ c.state = .pending) := by
  unfold State.awaitsRelease
  cases s.cue? id <;> simp

/-- The order of R163. -/
theorem raisedInOrder_spec (s : State) :
    s.raisedInOrder.Pairwise (fun a b => noticeRank a ≤ noticeRank b)
      ∧ ∀ k, s.raisedInOrder.filter (fun b => decide (noticeRank b = k))
          = (s.raised.filter (fun b => decide (noticeRank b = k))).map s.noticeLeft := by
  unfold State.raisedInOrder
  refine ⟨?_, fun k => ?_⟩
  · refine (sortBy_pairwise (fun a b h => ?_) (fun a b c h1 h2 => ?_) _).imp (fun h => ?_)
    · simp only [decide_eq_true_eq, decide_eq_false_iff_not] at *
      omega
    · simp only [decide_eq_false_iff_not] at *
      omega
    · simpa using h
  · rw [filter_sortBy (fun a b ha hb => ?_)]
    · rw [List.filter_map]
      refine congrArg (List.map _) (List.filter_congr fun b _ => ?_)
      simp [noticeRank_noticeLeft]
    · simp only [decide_eq_true_eq, decide_eq_false_iff_not] at *
      omega

/-- Settles O34. -/
theorem noticesJoinAndGo : Obligations.NoticesJoinAndGo := by
  unfold Obligations.NoticesJoinAndGo
  refine ⟨offer_cases, fun s => ?_, fun n now => ⟨fun h => ?_, fun h => ?_, fun h => ?_⟩⟩
  · intro place left
    have hplace : place = noticeRank := funext fun b => by cases b <;> rfl
    have hleft : left = s.noticeLeft := by
      funext b
      cases b
      case cueSkipped id n due =>
        show NoticeBody.cueSkipped id n _ = .cueSkipped id n _
        congr 1
        exact if_congr (awaitsRelease_iff s id).symm rfl rfl
      all_goals rfl
    rw [hplace, hleft]
    exact ⟨s.raisedInOrder, rfl, raisedInOrder_spec s⟩
  · simp [Notice.resend, Notice.sent, h]
  · simp +contextual [Notice.resend, Notice.sent, h]
  · simp [Notice.resend, Notice.sent, h]

end Sys2Proof.Machine
end

section
/-!
PROOFS. Encoding and decoding of the requests (O6). A body is cut into its fields; written together again they are the
body, and a field that was written reads as its value.
-/

namespace Sys2Proof.Machine

/-! ### Fields of a body -/

/-- The bytes spell their number, and the number the bytes (R172). -/
theorem toLE_fromLE (bs : List Byte) : toLE bs.length (fromLE bs) = bs := by
  induction bs with
  | nil => rfl
  | cons b t ih =>
    have hb := b.isLt
    have hlow : BitVec.ofNat 8 (b.toNat + 256 * fromLE t) = b := by
      apply BitVec.eq_of_toNat_eq
      rw [BitVec.toNat_ofNat]
      omega
    have hhigh : (b.toNat + 256 * fromLE t) / 256 = fromLE t := by omega
    rw [List.length_cons, toLE, fromLE, hlow, hhigh, ih]

theorem fromLE_lt (bs : List Byte) : fromLE bs < 256 ^ bs.length := by
  induction bs with
  | nil => exact Nat.one_pos
  | cons b t ih =>
    have hb := b.isLt
    rw [fromLE, List.length_cons, Nat.pow_succ']
    omega

/-- A field with room for all the bits of its value keeps it. -/
theorem ofNat_fromLE_toLE {w : Nat} (n : Nat) (v : BitVec w) (h : 2 ^ w = 256 ^ n) :
    BitVec.ofNat w (fromLE (toLE n v.toNat)) = v := by
  rw [fromLE_toLE, ← h, Nat.mod_eq_of_lt v.isLt, BitVec.ofNat_toNat, BitVec.setWidth_eq]

/-- `n` bytes of a body from offset `i` on. -/
def cut (body : List Byte) (i n : Nat) : List Byte := (body.drop i).take n

theorem cut_length {body : List Byte} {i n : Nat} (h : i + n ≤ body.length) : (cut body i n).length = n := by
  simp only [cut, List.length_take, List.length_drop]
  omega

theorem cut_all {body : List Byte} {n : Nat} (h : body.length = n) : cut body 0 n = body := by
  rw [cut, List.drop_zero, ← h, List.take_length]

theorem cut_rest (body : List Byte) (i n : Nat) (h : body.length = i + n) : body.drop i = cut body i n := by
  rw [cut, List.take_of_length_le]
  rw [List.length_drop]
  omega

/-- Fields that follow each other, and the byte before a field. -/
theorem cut_append (body : List Byte) (i n m : Nat) : cut body i n ++ cut body (i + n) m = cut body i (n + m) := by
  rw [cut, cut, cut, List.take_add, List.drop_drop]

theorem byteAt_cut {body : List Byte} {i n : Nat} (h : i < body.length) :
    byteAt body i :: cut body (i + 1) n = cut body i (n + 1) := by
  rw [cut, cut, List.drop_eq_getElem_cons h, List.take_succ_cons, byteAt, List.getD_eq_getElem _ _ h]

/-- A field of the body, written again. -/
theorem toLE_fieldAt {body : List Byte} {i n w : Nat} (h : i + n ≤ body.length) (hw : 2 ^ w = 256 ^ n) :
    toLE n (fieldAt body i n w).toNat = cut body i n := by
  have hlen := cut_length h
  have hlt : fromLE (cut body i n) < 2 ^ w := by
    rw [hw]
    simpa [hlen] using fromLE_lt (cut body i n)
  have hval : (fieldAt body i n w).toNat = fromLE (cut body i n) := by
    rw [fieldAt, BitVec.toNat_ofNat]
    exact Nat.mod_eq_of_lt hlt
  have hback := toLE_fromLE (cut body i n)
  rw [hlen] at hback
  rw [hval, hback]

theorem byteAt_single {body : List Byte} {i : Nat} (h : i < body.length) : [byteAt body i] = cut body i 1 :=
  byteAt_cut (n := 0) h

/-- A byte below 2 that is not 1 is 0. -/
theorem flag_zero {b : Byte} (h : b.toNat < 2) (h1 : ¬(b == 1) = true) : b = 0 := by
  apply BitVec.eq_of_toNat_eq
  have hne : b.toNat ≠ 1 := fun he => h1 (by simpa using BitVec.eq_of_toNat_eq (y := 1#8) he)
  show b.toNat = 0
  omega

theorem formatCheck_none (body : List Byte) :
    formatCheck body = none
      ↔ fixedPart (byteAt body 0) ≤ body.length ∧ flagBytesOk body = true ∧ lengthOk body = true
        ∧ cueIdOk body = true := by
  unfold formatCheck
  by_cases h1 : body.length < fixedPart (byteAt body 0)
  · simp [h1]
  · rw [if_neg h1]
    cases flagBytesOk body <;> cases lengthOk body <;> cases cueIdOk body <;> simp [Nat.not_lt.1 h1]

/-! ### From the body to the request and back -/

/-- The parameters of a FILE_CUE body, written again. -/
theorem encodeCue_cueBodyOf {body : List Byte} (h4 : (byteAt body 4).toNat < 2) (h5 : (byteAt body 5).toNat < 2)
    (hl : body.length = if (byteAt body 5 == 1) = true then 32 else 24) :
    encodeCue (cueBodyOf body) = cut body 1 (body.length - 1) := by
  have hkind : startKindByte (cueBodyOf body).start = byteAt body 4 := by
    unfold cueBodyOf
    dsimp only
    by_cases h : (byteAt body 4 == 1) = true
    · rw [if_pos h]
      exact (beq_iff_eq.1 h).symm
    · rw [if_neg h, flag_zero h4 h]
      rfl
  have hstart : ∀ at_, at_ = (if (byteAt body 5 == 1) = true then 26 else 18) → at_ + 6 ≤ body.length →
      encodeStart (cueBodyOf body).start = cut body at_ 6 := by
    intro at_ hat hin
    unfold cueBodyOf
    dsimp only
    rw [← hat]
    by_cases h : (byteAt body 4 == 1) = true
    · rw [if_pos h, encodeStart, toLE_fieldAt (by omega) (by decide)]
      show byteAt body at_ :: byteAt body (at_ + 1) :: cut body (at_ + 1 + 1) 4 = _
      rw [byteAt_cut (by omega), byteAt_cut (by omega)]
    · rw [if_neg h, encodeStart, toLE_fieldAt (by omega) (by decide)]
  by_cases h : (byteAt body 5 == 1) = true
  · rw [if_pos h] at hl
    have hr : (cueBodyOf body).range = some (fieldAt body 18 4 32, fieldAt body 22 4 32) := if_pos h
    have h5 : byteAt body 5 = if (some (fieldAt body 18 4 32, fieldAt body 22 4 32)).isSome then 1 else 0 :=
      beq_iff_eq.1 h
    rw [encodeCue, hkind, hr, ← h5, hstart 26 (by rw [if_pos h]) (by omega)]
    show [byteAt body 1, byteAt body 2, byteAt body 3, byteAt body 4, byteAt body 5, byteAt body 6, byteAt body 7]
      ++ toLE 2 (fieldAt body 8 2 16).toNat ++ [byteAt body 10, byteAt body 11] ++ toLE 2 (fieldAt body 12 2 16).toNat
      ++ toLE 4 (fieldAt body 14 4 32).toNat
      ++ (toLE 4 (fieldAt body 18 4 32).toNat ++ toLE 4 (fieldAt body 22 4 32).toNat) ++ cut body 26 6 = _
    rw [toLE_fieldAt (by omega) (by decide), toLE_fieldAt (by omega) (by decide), toLE_fieldAt (by omega) (by decide),
      toLE_fieldAt (by omega) (by decide), toLE_fieldAt (by omega) (by decide), byteAt_single (i := 7) (by omega),
      byteAt_single (i := 11) (by omega), byteAt_cut (by omega), byteAt_cut (by omega), byteAt_cut (by omega),
      byteAt_cut (by omega), byteAt_cut (by omega), byteAt_cut (by omega), byteAt_cut (by omega), cut_append,
      cut_append, cut_append, cut_append, cut_append, cut_append, cut_append, hl]
  · rw [if_neg h] at hl
    have hr : (cueBodyOf body).range = none := if_neg h
    have h5 : byteAt body 5 = if (none : Option (BitVec 32 × BitVec 32)).isSome then 1 else 0 := flag_zero h5 h
    rw [encodeCue, hkind, hr, ← h5, hstart 18 (by rw [if_neg h]) (by omega)]
    show [byteAt body 1, byteAt body 2, byteAt body 3, byteAt body 4, byteAt body 5, byteAt body 6, byteAt body 7]
      ++ toLE 2 (fieldAt body 8 2 16).toNat ++ [byteAt body 10, byteAt body 11] ++ toLE 2 (fieldAt body 12 2 16).toNat
      ++ toLE 4 (fieldAt body 14 4 32).toNat ++ [] ++ cut body 18 6 = _
    rw [toLE_fieldAt (by omega) (by decide), toLE_fieldAt (by omega) (by decide), toLE_fieldAt (by omega) (by decide),
      byteAt_single (i := 7) (by omega), byteAt_single (i := 11) (by omega), byteAt_cut (by omega),
      byteAt_cut (by omega), byteAt_cut (by omega), byteAt_cut (by omega), byteAt_cut (by omega), byteAt_cut (by omega),
      byteAt_cut (by omega), List.append_nil, cut_append, cut_append, cut_append, cut_append, cut_append, hl]

/-- A body from its code and the rest. -/
theorem body_eq {body params : List Byte} {c : Byte} (hc : byteAt body 0 = c) {n : Nat} (hl : body.length = n + 1)
    (hp : params = cut body 1 n) : c :: params = body := by
  rw [← hc, hp, byteAt_cut (by omega), cut_all hl]

theorem body_code {body : List Byte} {c : Byte} (hc : byteAt body 0 = c) (hl : body.length = 1) : [c] = body :=
  body_eq hc hl rfl

theorem body_byte {body : List Byte} {c : Byte} (hc : byteAt body 0 = c) (hl : body.length = 2) :
    [c, byteAt body 1] = body :=
  body_eq hc hl (byteAt_single (by omega))

/-- A body that is read and passes the format check is the encoding of what is read. -/
theorem encodeBody_readBody {body : List Byte} {r : Req} (hr : readBody body = some r) (hf : formatCheck body = none) :
    encodeBody r = body ∧ r.fits = true := by
  have hcode := code_of_readBody hr
  obtain ⟨hmin, hflags, hlen, hcue⟩ := (formatCheck_none body).1 hf
  unfold readBody at hr
  split at hr
  all_goals cases hr
  all_goals
    rename_i h
    simp only [flagBytesOk, lengthOk, fixedPart, cueIdOk, h, beq_iff_eq, decide_eq_true_eq, Bool.and_eq_true]
      at hflags hlen hcue hmin
  -- identify, getState, reset
  · exact ⟨body_code hcode hlen, rfl⟩
  · exact ⟨body_code hcode hlen, rfl⟩
  · exact ⟨body_code hcode hlen, rfl⟩
  -- noticeAck, memoryInit, memoryStatus
  · exact ⟨body_eq hcode hlen (toLE_fieldAt (by omega) (by decide)), rfl⟩
  · refine ⟨body_eq hcode hlen ?_, rfl⟩
    show toLE 2 (fieldAt body 1 2 16).toNat ++ [byteAt body 3] ++ toLE 2 (fieldAt body 4 2 16).toNat
      ++ [byteAt body 6, byteAt body 7, byteAt body 8, byteAt body 9] = _
    rw [toLE_fieldAt (by omega) (by decide), toLE_fieldAt (by omega) (by decide), byteAt_single (by omega),
      byteAt_single (by omega), byteAt_cut (by omega), byteAt_cut (by omega), byteAt_cut (by omega), cut_append,
      cut_append, cut_append]
  · exact ⟨body_code hcode hlen, rfl⟩
  -- openPayload, putData, sealPayload, deletePayload, readBack, payloadInfo, listPayloads
  · refine ⟨body_eq hcode hlen ?_, rfl⟩
    dsimp only
    rw [toLE_fieldAt (by omega) (by decide), byteAt_cut (by omega)]
  · refine ⟨body_eq (n := body.length - 1) hcode (by omega) ?_, ?_⟩
    · dsimp only
      rw [toLE_fieldAt (by omega) (by decide), cut_rest body 6 (body.length - 6) (by omega), byteAt_cut (by omega),
        cut_append]
      congr 1
      omega
    · simp only [Req.fits, List.length_drop, Bool.and_eq_true, decide_eq_true_eq]
      omega
  · split at hlen
    next hp =>
      rw [if_pos (beq_iff_eq.2 hp)]
      refine ⟨body_eq hcode hlen ?_, rfl⟩
      dsimp only
      rw [toLE_fieldAt (by omega) (by decide), ← hp, byteAt_cut (by omega), byteAt_cut (by omega)]
    next hp =>
      have hb : ¬(byteAt body 2 == 1) = true := fun h => hp (beq_iff_eq.1 h)
      rw [if_neg hb]
      refine ⟨body_eq hcode hlen ?_, rfl⟩
      dsimp only
      rw [← flag_zero hflags hb, byteAt_single (by omega), byteAt_cut (by omega)]
  · exact ⟨body_byte hcode hlen, rfl⟩
  · refine ⟨body_eq hcode hlen ?_, rfl⟩
    dsimp only
    rw [toLE_fieldAt (by omega) (by decide), toLE_fieldAt (by omega) (by decide), byteAt_cut (by omega), cut_append]
  · exact ⟨body_byte hcode hlen, rfl⟩
  · exact ⟨body_byte hcode hlen, rfl⟩
  -- fileCue, armCue, cancelCue, discardCue, cueInfo, listCues, stopAll
  · obtain ⟨⟨h4, h5⟩, h6⟩ := hflags
    refine ⟨body_eq (n := body.length - 1) hcode (by omega) (encodeCue_cueBodyOf h4 h5 (by simpa using hlen)), ?_⟩
    show (decide (_ < Config.cueSlots) && decide (_ < 8)) = true
    rw [Bool.and_eq_true, decide_eq_true_eq, decide_eq_true_eq]
    exact ⟨hcue, h6⟩
  · split at hlen
    next hp =>
      rw [if_pos (beq_iff_eq.2 hp)]
      refine ⟨body_eq hcode hlen ?_, decide_eq_true hcue⟩
      dsimp only
      rw [toLE_fieldAt (by omega) (by decide), ← hp, byteAt_cut (by omega), byteAt_cut (by omega)]
    next hp =>
      have hb : ¬(byteAt body 2 == 1) = true := fun h => hp (beq_iff_eq.1 h)
      rw [if_neg hb]
      refine ⟨body_eq hcode hlen ?_, decide_eq_true hcue⟩
      dsimp only
      rw [← flag_zero hflags hb, byteAt_single (by omega), byteAt_cut (by omega)]
  · exact ⟨body_byte hcode hlen, decide_eq_true hcue⟩
  · exact ⟨body_byte hcode hlen, decide_eq_true hcue⟩
  · exact ⟨body_byte hcode hlen, decide_eq_true hcue⟩
  · exact ⟨body_code hcode hlen, rfl⟩
  · exact ⟨body_code hcode hlen, rfl⟩
  -- getTime, setTime, stepTime, slewTime, setTrigger, readStamps
  · exact ⟨body_code hcode hlen, rfl⟩
  · exact ⟨body_eq hcode hlen (toLE_fieldAt (by omega) (by decide)), rfl⟩
  · exact ⟨body_eq hcode hlen (toLE_fieldAt (by omega) (by decide)), rfl⟩
  · refine ⟨body_eq hcode hlen ?_, rfl⟩
    dsimp only
    rw [toLE_fieldAt (by omega) (by decide), toLE_fieldAt (by omega) (by decide), cut_append]
  · refine ⟨body_eq hcode hlen ?_, rfl⟩
    dsimp only
    rw [byteAt_single (by omega), byteAt_cut (by omega), byteAt_cut (by omega)]
  · refine ⟨body_eq hcode hlen ?_, rfl⟩
    dsimp only
    rw [byteAt_single (by omega), byteAt_cut (by omega)]
  -- setLane, laneStatus
  · refine ⟨body_eq hcode hlen ?_, rfl⟩
    show [byteAt body 1, byteAt body 2, byteAt body 3] ++ toLE 2 (fieldAt body 4 2 16).toNat
      ++ toLE 2 (fieldAt body 6 2 16).toNat ++ toLE 2 (fieldAt body 8 2 16).toNat = _
    rw [toLE_fieldAt (by omega) (by decide), toLE_fieldAt (by omega) (by decide), toLE_fieldAt (by omega) (by decide),
      byteAt_single (by omega), byteAt_cut (by omega), byteAt_cut (by omega), cut_append, cut_append, cut_append]
  · exact ⟨body_byte hcode hlen, rfl⟩

/-- The parameters of a FILE_CUE, read from its body. -/
theorem cueBodyOf_encodeBody (b : CueBody) : cueBodyOf (encodeBody (.fileCue b)) = b := by
  obtain ⟨cue, lane, payload, options, latePolicy, tolerance, priority, report, repeatCount, period, range, start⟩ := b
  have h16 : ∀ v : BitVec 16, BitVec.ofNat 16 (fromLE (toLE 2 v.toNat)) = v :=
    fun v => ofNat_fromLE_toLE 2 v (by decide)
  have h32 : ∀ v : BitVec 32, BitVec.ofNat 32 (fromLE (toLE 4 v.toNat)) = v :=
    fun v => ofNat_fromLE_toLE 4 v (by decide)
  have h48 : ∀ v : BitVec 48, BitVec.ofNat 48 (fromLE (toLE 6 v.toNat)) = v :=
    fun v => ofNat_fromLE_toLE 6 v (by decide)
  have fixed : ∀ r st, ({
      cue, lane, payload, options, latePolicy, tolerance := BitVec.ofNat 16 (fromLE (toLE 2 tolerance.toNat)), priority,
      report, repeatCount := BitVec.ofNat 16 (fromLE (toLE 2 repeatCount.toNat)),
      period := BitVec.ofNat 32 (fromLE (toLE 4 period.toNat)), range := r, start := st } : CueBody)
        = { cue, lane, payload, options, latePolicy, tolerance, priority, report, repeatCount, period, range := r,
            start := st } := by
    intro r st
    rw [h16, h16, h32]
  cases range with
  | none =>
    cases start with
    | time due =>
      refine (fixed none (.time (BitVec.ofNat 48 (fromLE (toLE 6 due.toNat))))).trans ?_
      rw [h48]
    | trigger line edge offset =>
      refine (fixed none (.trigger line edge (BitVec.ofNat 32 (fromLE (toLE 4 offset.toNat))))).trans ?_
      rw [h32]
  | some r =>
    obtain ⟨o, c⟩ := r
    let r := some (BitVec.ofNat 32 (fromLE (toLE 4 o.toNat)), BitVec.ofNat 32 (fromLE (toLE 4 c.toNat)))
    have hr : r = some (o, c) := by rw [show r = some (BitVec.ofNat 32 _, BitVec.ofNat 32 _) from rfl, h32, h32]
    cases start with
    | time due =>
      refine (fixed r (.time (BitVec.ofNat 48 (fromLE (toLE 6 due.toNat))))).trans ?_
      rw [hr, h48]
    | trigger line edge offset =>
      refine (fixed r (.trigger line edge (BitVec.ofNat 32 (fromLE (toLE 4 offset.toNat))))).trans ?_
      rw [hr, h32]

theorem readBody_encodeBody (r : Req) : readBody (encodeBody r) = some r := by
  have h16 : ∀ v : BitVec 16, BitVec.ofNat 16 (fromLE (toLE 2 v.toNat)) = v :=
    fun v => ofNat_fromLE_toLE 2 v (by decide)
  have h32 : ∀ v : BitVec 32, BitVec.ofNat 32 (fromLE (toLE 4 v.toNat)) = v :=
    fun v => ofNat_fromLE_toLE 4 v (by decide)
  have h48 : ∀ v : BitVec 48, BitVec.ofNat 48 (fromLE (toLE 6 v.toNat)) = v :=
    fun v => ofNat_fromLE_toLE 6 v (by decide)
  cases r
  case noticeAck n => exact congrArg (some ∘ Req.noticeAck) (h16 n)
  case memoryInit p =>
    obtain ⟨rows, policy, interval, debtLimit, initRefreshes, latency, burst⟩ := p
    show some (Req.memoryInit ⟨BitVec.ofNat 16 (fromLE (toLE 2 rows.toNat)), policy,
      BitVec.ofNat 16 (fromLE (toLE 2 interval.toNat)), debtLimit, initRefreshes, latency, burst⟩) = _
    rw [h16, h16]
  case openPayload p n => exact congrArg (some ∘ Req.openPayload p) (h32 n)
  case putData p o d =>
    show some (Req.putData p (BitVec.ofNat 32 (fromLE (toLE 4 o.toNat))) d) = _
    rw [h32]
  case sealPayload p k =>
    cases k with
    | none => rfl
    | some k =>
      show some (Req.sealPayload p (some (BitVec.ofNat 32 (fromLE (toLE 4 k.toNat))))) = _
      rw [h32]
  case readBack p o n =>
    show some (Req.readBack p (BitVec.ofNat 32 (fromLE (toLE 4 o.toNat))) (BitVec.ofNat 16 (fromLE (toLE 2 n.toNat)))) = _
    rw [h32, h16]
  case fileCue b => exact congrArg (some ∘ Req.fileCue) (cueBodyOf_encodeBody b)
  case armCue c d =>
    cases d with
    | none => rfl
    | some d =>
      show some (Req.armCue c (some (BitVec.ofNat 48 (fromLE (toLE 6 d.toNat))))) = _
      rw [h48]
  case setTime v => exact congrArg (some ∘ Req.setTime) (h48 v)
  case stepTime o => exact congrArg (some ∘ Req.stepTime) (h32 o)
  case slewTime o sp =>
    show some (Req.slewTime (BitVec.ofNat 32 (fromLE (toLE 4 o.toNat))) (BitVec.ofNat 16 (fromLE (toLE 2 sp.toNat)))) = _
    rw [h32, h16]
  case setLane l b =>
    obtain ⟨enabled, pace, leadWindow, startThreshold, holdLimit⟩ := b
    show some (Req.setLane l ⟨enabled, pace, BitVec.ofNat 16 (fromLE (toLE 2 leadWindow.toNat)),
      BitVec.ofNat 16 (fromLE (toLE 2 startThreshold.toNat)), BitVec.ofNat 16 (fromLE (toLE 2 holdLimit.toNat))⟩) = _
    rw [h16, h16, h16]
  all_goals rfl

/-- The encoding of a request that fits passes the format check. -/
theorem formatCheck_encodeBody {r : Req} (h : r.fits = true) : formatCheck (encodeBody r) = none := by
  rw [formatCheck_none]
  cases r
  case putData p o d =>
    simp only [Req.fits, Bool.and_eq_true, decide_eq_true_eq] at h
    have hl : (encodeBody (.putData p o d)).length = d.length + 6 := by
      simp [encodeBody]; omega
    refine ⟨by rw [hl]; exact Nat.le_add_left 6 _, rfl, ?_, rfl⟩
    show (decide (7 ≤ (encodeBody (.putData p o d)).length) && decide ((encodeBody (.putData p o d)).length ≤ 1030)) = true
    rw [hl, Bool.and_eq_true, decide_eq_true_eq, decide_eq_true_eq]
    omega
  case fileCue b =>
    simp only [Req.fits, Bool.and_eq_true, decide_eq_true_eq] at h
    obtain ⟨hid, hopt⟩ := h
    obtain ⟨cue, lane, payload, options, latePolicy, tolerance, priority, report, repeatCount, period, range, start⟩ := b
    have hid' : decide (cue.toNat < Config.cueSlots) = true := decide_eq_true hid
    have hopt' : decide (options.toNat < 8) = true := decide_eq_true hopt
    have hflags : ∀ k r : Bool, ((decide ((if k then (1 : Byte) else 0).toNat < 2)
        && decide ((if r then (1 : Byte) else 0).toNat < 2)) && decide (options.toNat < 8)) = true := by
      intro k r
      rw [hopt']
      cases k <;> cases r <;> rfl
    cases range <;> cases start
    · exact ⟨(by decide : 18 ≤ 24), hflags false false, rfl, hid'⟩
    · exact ⟨(by decide : 18 ≤ 24), hflags true false, rfl, hid'⟩
    · exact ⟨(by decide : 18 ≤ 32), hflags false true, rfl, hid'⟩
    · exact ⟨(by decide : 18 ≤ 32), hflags true true, rfl, hid'⟩
  case armCue c d =>
    cases d with
    | none => exact ⟨Nat.le_refl 3, rfl, rfl, h⟩
    | some d => exact ⟨(by decide : 3 ≤ 9), rfl, rfl, h⟩
  case cancelCue c | discardCue c | cueInfo c => exact ⟨Nat.le_refl 2, rfl, rfl, h⟩
  case sealPayload p k =>
    cases k with
    | none => exact ⟨Nat.le_refl 3, rfl, rfl, rfl⟩
    | some k => exact ⟨(by decide : 3 ≤ 7), rfl, rfl, rfl⟩
  all_goals exact ⟨Nat.le_refl _, rfl, rfl, rfl⟩

/-- Settles O6. -/
theorem requestsRoundTrip : Obligations.RequestsRoundTrip := by
  unfold Obligations.RequestsRoundTrip
  refine fun body r => ⟨fun h => ?_, fun ⟨he, hf⟩ => ?_⟩
  · obtain ⟨hr, hc⟩ := decodeBody_ok body r h
    exact encodeBody_readBody hr hc
  · rw [← he]
    simp only [decodeBody, readBody_encodeBody, formatCheck_encodeBody hf]

end Sys2Proof.Machine
end

section
/-!
PROOFS. The three tests that the interpreter makes before a request reaches its block (R129): the code, the grid of
device states, and the format check of R174. Each turns the request away by a reply and changes nothing else (O7).
-/

namespace Sys2Proof.Machine

/-! ### The framer beside the transmitter -/

/-- The transmitter does not see the framer (R143, R154). -/
theorem txBegin_setFramer (s : State) (f : Framer) : txBegin (setFramer s f) = setFramer (txBegin s) f := by
  unfold txBegin setFramer
  dsimp only
  split
  · rfl
  · split
    · rfl
    · split
      · rfl
      · split <;> rfl

/-- Whether a request is attended to does not depend on the framer. -/
theorem attends_setFramer (s : State) (f : Framer) (seq code : Byte) :
    attends (setFramer s f) seq code = attends s seq code := rfl

/-- On an ON line the arrival of a complete frame is a request frame at a framer in HUNT (R143, R146). -/
theorem frameEvent_frameEnds {s : State} (f : State → State) (hr : s.inReset = false) (hl : s.link.line = .on) :
    frameEvent (fun a => f (frameEnds a)) s = frameEvent f (frameEnds s) := by
  rw [frameEvent_eq _ _ hl, frameEvent_eq _ _ (show (frameEnds s).link.line = .on from hl),
    event_ended _ _ hr, event_ended _ _ (show (frameEnds s).inReset = false from hr)]
  show ended (f (setFramer (txBegin s) .hunt)) = ended (f (txBegin (setFramer s .hunt)))
  rw [txBegin_setFramer]

/-! ### A request that is turned away -/

/-- A request that the interpreter ends with a reply, and nothing else, is replied to in the event in which it
arrives. -/
theorem requestEvent_replied {s : State} {seq : Byte} {body : List Byte} {st : Status} {res : List Byte}
    (h : attends s seq (byteAt body 0) = true) (hb : body ≠ []) (hl : body.length ≤ Config.maxBody)
    (hx : execute (txBegin s) seq body = endExecution (txBegin s) seq (byteAt body 0) st res) :
    frameEvent (fun a => requestFrame a seq body) s = replied (txBegin s) seq (byteAt body 0) st res := by
  obtain ⟨-, -, hinbox, -, -, hsync, -, -⟩ := (attends_iff _ _ _).mp h
  have hq : execute (txBegin s) seq body = queueReply (txBegin s) seq (byteAt body 0) st res :=
    hx.trans (endExecution_eq _ _ _ _ _ (by simpa using hsync))
  rw [requestEvent_eq s seq body h hb hl (by rw [hq]; simpa using hinbox), hq, replied,
    ended_of_empty _ (by simpa using hinbox)]

/-- The same for the arrival of its frame. -/
theorem requestArrival_replied {s : State} {seq : Byte} {body : List Byte} {st : Status} {res : List Byte}
    (h : attends s seq (byteAt body 0) = true) (hb : body ≠ []) (hl : body.length ≤ Config.maxBody)
    (hx : ∀ a : State, a.device = s.device →
      execute a seq body = endExecution a seq (byteAt body 0) st res) :
    exec (.requestArrival seq body) s = .next (replied (setFramer (txBegin s) .hunt) seq (byteAt body 0) st res) := by
  obtain ⟨hr, -, -, hline, -⟩ := (attends_iff _ _ _).mp h
  show Host.Outcome.next _ = _
  rw [frameEvent_frameEnds (fun a => requestFrame a seq body) hr hline,
    requestEvent_replied (s := frameEnds s) (attends_setFramer s .hunt _ _ ▸ h) hb hl
      (hx _ (txBegin_device (frameEnds s))), frameEnds, txBegin_setFramer]

/-! ### The code of a request -/

/-- The code of every request is known (R129). -/
theorem knownCode_code (r : Req) : knownCode r.code = true := by
  cases r <;> rfl

/-- A body with an unknown code spells no request. -/
theorem readBody_unknown {body : List Byte} (h : knownCode (byteAt body 0) = false) : readBody body = none := by
  cases hr : readBody body with
  | none => rfl
  | some r => rw [code_of_readBody hr, knownCode_code] at h; cases h

/-- A body with a known code spells one. -/
theorem readBody_known {body : List Byte} (h : knownCode (byteAt body 0) = true) : ∃ r, readBody body = some r := by
  simp only [knownCode, requestCodes, List.contains_iff_mem, List.mem_cons, List.not_mem_nil, or_false] at h
  rcases h with h | h | h | h | h | h | h | h | h | h | h | h | h | h | h | h | h | h | h | h | h | h | h | h | h | h
    | h | h <;> exact ⟨_, by rw [readBody, h]; rfl⟩

/-! ### The grid -/

/-- The rows of the grid that R129 leaves out: MEMORY_INIT in INITIALIZING, and the requests on payloads and cues
outside READY. -/
theorem accepted_eq_false_of_ne_ready {code : Byte} {d : DeviceState} (h : 0x20 ≤ code.toNat) (h' : code.toNat < 0x40)
    (hd : d ≠ .ready) : accepted code d = false := by
  cases d with
  | ready => exact absurd rfl hd
  | unconfigured => simp [accepted, Nat.not_lt.mpr h, Nat.not_le.mpr h']
  | initializing => simp [accepted, Nat.not_lt.mpr h, Nat.not_le.mpr h']

/-- A request that the grid does not accept is refused with NOT_READY, whatever its operands. -/
theorem exec_command_refused {s : State} {seq : Byte} {r : Req} (h : attends s seq r.code = true)
    (hl : (encodeBody r).length ≤ Config.maxBody) (ha : accepted r.code s.device = false) :
    exec (r.command seq) s = .next (replied (txBegin s) seq r.code .notReady [deviceStateCode s.device]) := by
  have hx : execute (txBegin s) seq (encodeBody r)
      = endExecution (txBegin s) seq (byteAt (encodeBody r) 0) .notReady [deviceStateCode s.device] := by
    simp only [execute, readBody_encodeBody, byteAt_encodeBody, txBegin_device, ha, Bool.false_eq_true, if_false]
  rw [exec_command, hostRequest, requestEvent_replied (by simpa using h) (encodeBody_ne r) hl hx, byteAt_encodeBody]

/-! ### The format check -/

/-- The status of the first test of R174 that fails. -/
theorem formatCheck_fails {body : List Byte} {st : Status}
    (h : (body.length < fixedPart (byteAt body 0) ∧ st = .badLength)
      ∨ (fixedPart (byteAt body 0) ≤ body.length ∧ flagBytesOk body = false ∧ st = .badValue)
      ∨ (fixedPart (byteAt body 0) ≤ body.length ∧ flagBytesOk body = true ∧ lengthOk body = false ∧ st = .badLength)
      ∨ (fixedPart (byteAt body 0) ≤ body.length ∧ flagBytesOk body = true ∧ lengthOk body = true
          ∧ cueIdOk body = false ∧ st = .badValue)) :
    formatCheck body = some st := by
  unfold formatCheck
  rcases h with ⟨h1, rfl⟩ | ⟨h1, h2, rfl⟩ | ⟨h1, h2, h3, rfl⟩ | ⟨h1, h2, h3, h4, rfl⟩
  · rw [if_pos h1]
  · rw [if_neg (Nat.not_lt.mpr h1), h2]; rfl
  · rw [if_neg (Nat.not_lt.mpr h1), h2, h3]; rfl
  · rw [if_neg (Nat.not_lt.mpr h1), h2, h3, h4]; rfl

/-- Settles O7: the code, the grid and the format check, each carried to the event in which the request arrives. -/
theorem interpreterTests : Obligations.InterpreterTests := by
  unfold Obligations.InterpreterTests
  refine ⟨fun seq code params s hk hl h => ?unknown, fun r seq s hl h hd => ?notReady,
    fun seq body st s hk hb hl h ha hst => ?format⟩
  case unknown =>
    have hx : execute (txBegin s) seq (code :: params)
        = endExecution (txBegin s) seq (byteAt (code :: params) 0) .badKind [] := by
      simp only [execute, readBody_unknown (body := code :: params) hk]
    exact congrArg Host.Outcome.next (requestEvent_replied h (List.cons_ne_nil _ _) hl hx)
  case notReady =>
    refine exec_command_refused h hl ?_
    cases r
    case memoryInit p => rw [show s.device = .initializing from hd]; rfl
    all_goals first
      | exact hd.elim
      | exact accepted_eq_false_of_ne_ready (Nat.le_of_ble_eq_true rfl) (Nat.le_of_ble_eq_true rfl) hd
  case format =>
    obtain ⟨r, hr⟩ := readBody_known hk
    refine requestArrival_replied h hb hl fun a hdev => ?_
    simp only [execute, hr, hdev, ha, if_true, formatCheck_fails hst]

end Sys2Proof.Machine
end

section
/-!
PROOFS. The requests that only read: of the part, of the memory controller and of a lane (O8), of the directory (O9),
and of the cue table (O10). Each leaves the part as it is and replies with what its block reports.
-/

namespace Sys2Proof.Machine

/-! ### A request that fits, in a part that attends -/

/-- The body of a request that fits is decoded to it. -/
theorem decodeBody_encodeBody {r : Req} (h : r.fits = true) : decodeBody (encodeBody r) = .ok r :=
  (requestsRoundTrip (encodeBody r) r).mpr ⟨rfl, h⟩

/-- The body of a request that fits has room in a frame (R141). -/
theorem encodeBody_length_le {r : Req} (h : r.fits = true) : (encodeBody r).length ≤ Config.maxBody := by
  have hf := (formatCheck_none _).mp (formatCheck_encodeBody h)
  cases r
  case putData p o d =>
    simp only [Req.fits, Bool.and_eq_true, decide_eq_true_eq] at h
    simp only [encodeBody, List.length_cons, List.length_append, toLE_length, Config.maxBody]
    omega
  case fileCue b =>
    obtain ⟨cue, lane, payload, options, latePolicy, tolerance, priority, report, repeatCount, period, range, start⟩ := b
    cases range <;> cases start <;> exact Nat.le_of_ble_eq_true rfl
  case armCue c d => cases d <;> exact Nat.le_of_ble_eq_true rfl
  case sealPayload p e => cases e <;> exact Nat.le_of_ble_eq_true rfl
  all_goals exact Nat.le_of_ble_eq_true rfl

/-- A request that fits, is attended to and accepted, and answers by a plain reply with the link as it was, is replied
to in the event in which it arrives. -/
theorem exec_request_says {s t : State} {seq : Byte} {r : Req} {st : Status} {res : List Byte}
    (h : attends s seq r.code = true) (hf : r.fits = true) (ha : accepted r.code s.device = true)
    (hrun : runRequest (txBegin s) seq r = (t, .says st res)) (hlink : t.link = (txBegin s).link) :
    exec (r.command seq) s = .next (replied t seq r.code st res) :=
  exec_command_accepted_says h (encodeBody_length_le hf) (decodeBody_encodeBody hf) ha hrun hlink

/-- A request below 0x20 other than MEMORY_INIT is accepted in every device state (R129). -/
theorem accepted_of_lt_0x20 {code : Byte} (h : code.toNat < 0x20) (h' : code ≠ 0x10) (d : DeviceState) :
    accepted code d = true := by
  cases d with
  | ready => rfl
  | unconfigured => simp [accepted, h]
  | initializing => simp only [accepted, decide_eq_true h, Bool.true_or, Bool.true_and, decide_eq_true_eq]; exact h'

/-! ### The part, the memory controller and the lanes -/

/-- The queue of PENDING cues does not depend on the transmitter. -/
theorem pendingQueue_txBegin (s : State) (l : Fin 4) : pendingQueue (txBegin s) l = pendingQueue s l := by
  simp only [pendingQueue, txBegin_cues]

/-- GET_STATE of an empty inbox, as the transmitter leaves the part. -/
theorem stateBytes_txBegin {s : State} (h : s.link.inbox = []) :
    stateBytes (txBegin s)
      = [deviceStateCode s.device, flagByte s.time.valid] ++ cueCounts s ++ u16 s.store.pool.length
          ++ u8 s.notices.held.length ++ [0] := by
  simp only [stateBytes, cueCounts, cuesIn, txBegin_device, txBegin_time, txBegin_cues, txBegin_store,
    txBegin_held_length, txBegin_inbox, h]
  rfl

/-- MEMORY_STATUS does not report the transmitter. -/
theorem memoryStatusBytes_txBegin (s : State) : memoryStatusBytes (txBegin s) = memoryStatusBytes s := by
  simp only [memoryStatusBytes, profilePart, bringUpPart, limitPart, txBegin_device, txBegin_mc, txBegin_store,
    txBegin_refresh]

/-- LANE_STATUS does not report the transmitter. -/
theorem laneStatusBytes_txBegin (s : State) (l : Fin 4) : laneStatusBytes (txBegin s) l = laneStatusBytes s l := by
  simp only [laneStatusBytes, heldBytes, txBegin_lane, txBegin_cue?, pendingQueue_txBegin]

/-- One byte for each entry of a table. -/
theorem flatten_map_u8 {α : Type} (q : List (Nat × α)) :
    (q.map (fun e => u8 e.1)).flatten = q.map (fun e => BitVec.ofNat 8 e.1) := by
  induction q with
  | nil => rfl
  | cons e t ih => rw [List.map_cons, List.flatten_cons, ih]; rfl

/-- Settles O8: each of the five requests replies with the bytes of its block, spelled out. -/
theorem partReadersReply : Obligations.PartReadersReply := by
  unfold Obligations.PartReadersReply
  refine ⟨fun seq s => ⟨fun h => ?identify, fun h => ?getState, fun h => ?getTime⟩, fun seq s h => ?memoryStatus,
    fun seq lane s h => ⟨fun l hl => ?laneStatus, fun hl => ?noLane⟩⟩
  case identify =>
    exact exec_request_says (r := .identify) h rfl (accepted_of_lt_0x20 (by decide) (by decide) _) rfl rfl
  case getState =>
    obtain ⟨-, -, hinbox, -⟩ := (attends_iff _ _ _).mp h
    have hrun : runRequest (txBegin s) seq .getState = (txBegin s, .says .ok (stateBytes (txBegin s))) := rfl
    rw [stateBytes_txBegin hinbox] at hrun
    exact exec_request_says (r := .getState) h rfl (accepted_of_lt_0x20 (by decide) (by decide) _) hrun rfl
  case getTime =>
    have hrun : runRequest (txBegin s) seq .getTime = (txBegin s, .says .ok (timeBytes (txBegin s).time)) := rfl
    rw [txBegin_time] at hrun
    exact exec_request_says (r := .getTime) h rfl (accepted_of_ge_0x40 (by decide) _) hrun rfl
  case memoryStatus =>
    have hrun : runRequest (txBegin s) seq .memoryStatus
        = (txBegin s, .says .ok (memoryStatusBytes (txBegin s))) := rfl
    rw [memoryStatusBytes_txBegin] at hrun
    have hreply := exec_request_says (r := .memoryStatus) h rfl (accepted_of_lt_0x20 (by decide) (by decide) _) hrun rfl
    refine hreply.trans (congrArg Host.Outcome.next (congrArg (replied (txBegin s) seq 0x11 .ok) ?_))
    refine congrArg₂ (· ++ ·) (congrArg₂ (· ++ ·) (congrArg₂ (· ++ ·) (congrArg₂ (· ++ ·) (congrArg₂ (· ++ ·)
      (congrArg₂ (· ++ ·) rfl ?profile) ?bringUp) rfl) (congrArg List.flatten ?banks)) rfl) ?limit
    case profile => unfold profilePart; cases s.mc.profile <;> rfl
    case bringUp => unfold bringUpPart; cases s.mc.bringUp <;> rfl
    case banks => 
      show fours.map (fun b => bankBytes (s.mc.banks.get b)) = _
      exact List.map_congr_left fun b _ => by cases s.mc.banks.get b <;> rfl
    case limit => unfold limitPart; cases s.mc.profile <;> rfl
  case laneStatus =>
    have hrun : runRequest (txBegin s) seq (.laneStatus lane)
        = (txBegin s, .says .ok (laneStatusBytes (txBegin s) l)) := by
      simp only [runRequest, runLaneStatus, fourOf_eq_some hl]
    rw [laneStatusBytes_txBegin] at hrun
    have hreply := exec_request_says (r := .laneStatus lane) h rfl
      (accepted_of_ge_0x40 (Nat.le_of_ble_eq_true rfl) _) hrun rfl
    refine hreply.trans (congrArg Host.Outcome.next (congrArg (replied (txBegin s) seq 0x51 .ok) ?_))
    refine congrArg₂ (· ++ ·) (congrArg₂ (· ++ ·) (congrArg₂ (· ++ ·) (congrArg₂ (· ++ ·) (congrArg₂ (· ++ ·)
      (congrArg₂ (· ++ ·) rfl ?held) ?release) rfl) rfl) rfl) (flatten_map_u8 _)
    case held =>
      unfold heldBytes
      cases (s.lane l).held with
      | none => rfl
      | some x => dsimp only; cases (s.lane l).state <;> rfl
    case release => unfold releaseBytes; cases (s.lane l).release <;> rfl
  case noLane =>
    have hrun : runRequest (txBegin s) seq (.laneStatus lane) = (txBegin s, .says .badValue []) := by
      simp only [runRequest, runLaneStatus, (fourOf_eq_none_iff lane).mpr hl, refuse]
    exact exec_request_says (r := .laneStatus lane) h rfl (accepted_of_ge_0x40 (Nat.le_of_ble_eq_true rfl) _) hrun rfl

/-! ### The directory -/

/-- A byte is its own one-byte field. -/
theorem u8_toNat (b : Byte) : u8 b.toNat = [b] := by
  show [BitVec.ofNat 8 b.toNat] = [b]
  rw [BitVec.ofNat_toNat, BitVec.setWidth_eq]

/-- In a table by rising key the keys of any part of it rise. -/
theorem sortedKeys_filter_pairwise {α : Type} (t : List (Nat × α)) (p : Nat × α → Bool) (h : sortedKeys t = true) :
    ((t.filter p).map Prod.fst).Pairwise (· < ·) := by
  rw [List.pairwise_map]
  refine List.Pairwise.filter p ?_
  induction t with
  | nil => exact List.Pairwise.nil
  | cons e t ih =>
    obtain ⟨hfirst, hrest⟩ := (sortedKeys_cons e.1 e.2 t).mp h
    exact List.Pairwise.cons hfirst (ih hrest)

/-- Settles O9: the entry or the list of the directory, as its block reports it. -/
theorem directoryReadersReply : Obligations.DirectoryReadersReply := by
  unfold Obligations.DirectoryReadersReply
  intro seq id s hdev
  have hready : ∀ code, accepted code s.device = true := fun code => by rw [hdev]; rfl
  refine ⟨fun h => ⟨fun hp => ?free, fun p hp => ?entry⟩, fun h => ?list⟩
  case free =>
    have hrun : runRequest (txBegin s) seq (.payloadInfo id) = (txBegin s, .says .noSuch []) := by
      simp only [runRequest, runPayloadInfo, txBegin_payload?, hp, refuse]
    exact exec_request_says (r := .payloadInfo id) h rfl (hready _) hrun rfl
  case entry =>
    have hrun : runRequest (txBegin s) seq (.payloadInfo id) = (txBegin s, .says .ok (payloadBytes id.toNat p)) := by
      simp only [runRequest, runPayloadInfo, txBegin_payload?, hp]
    unfold payloadBytes at hrun
    rw [u8_toNat] at hrun
    refine (exec_request_says (r := .payloadInfo id) h rfl (hready _) hrun rfl).trans ?_
    cases p.check <;> rfl
  case list =>
    dsimp only
    refine ⟨?_, sortedKeys_filter_pairwise _ _⟩
    have hrun : runRequest (txBegin s) seq (.listPayloads id)
        = (txBegin s, .says .ok (listPayloadsBytes s id.toNat)) := by
      simp only [runRequest, runListPayloads, listPayloadsBytes, entriesFrom, txBegin_store]
    unfold listPayloadsBytes entriesFrom at hrun
    dsimp only at hrun
    rw [List.length_take, Nat.min_comm, List.head?_drop] at hrun
    refine (exec_request_says (r := .listPayloads id) h rfl (hready _) hrun rfl).trans ?_
    cases (s.store.directory.filter fun e => decide (id.toNat ≤ e.1))[128]? <;> rfl

/-! ### The cue table -/

/-- CUE_INFO of a slot in use replies with its record (R26). -/
theorem exec_cueInfo {s : State} {seq id : Byte} {c : Cue} (hdev : s.device = .ready) (hid : id.toNat < 64)
    (h : attends s seq 0x34 = true) (hc : s.cue? id.toNat = some c) :
    exec (.cueInfo seq id) s = .next (replied (txBegin s) seq 0x34 .ok (cueBytes id.toNat c)) := by
  have hrun : runRequest (txBegin s) seq (.cueInfo id) = (txBegin s, .says .ok (cueBytes id.toNat c)) := by
    simp only [runRequest, runCueInfo, txBegin_cue?, hc]
  exact exec_request_says (r := .cueInfo id) h (decide_eq_true hid) (by rw [hdev]; rfl) hrun rfl

/-- Settles O10: the record of a slot or the list of the table, as its block reports it. -/
theorem cueReadersReply : Obligations.CueReadersReply := by
  unfold Obligations.CueReadersReply
  refine ⟨fun seq id s hdev hid h => ⟨fun hc => ?empty, fun c hc => ?record⟩,
    fun seq s hdev h => ⟨?list, fun hs => ?sorted⟩⟩
  case empty =>
    have hrun : runRequest (txBegin s) seq (.cueInfo id) = (txBegin s, .says .noSuch []) := by
      simp only [runRequest, runCueInfo, txBegin_cue?, hc, refuse]
    exact exec_request_says (r := .cueInfo id) h (decide_eq_true hid) (by rw [hdev]; rfl) hrun rfl
  case record =>
    refine (exec_cueInfo hdev hid h hc).trans ?_
    unfold cueBytes cueTail
    rw [u8_toNat]
    cases c.start <;> cases c.range <;> cases c.due <;> cases c.last <;> cases c.endReason <;> rfl
  case list =>
    have hrun : runRequest (txBegin s) seq .listCues = (txBegin s, .says .ok (listCuesBytes s)) := by
      simp only [runRequest, runListCues, listCuesBytes, txBegin_cues]
    exact exec_request_says (r := .listCues) h rfl (by rw [hdev]; rfl) hrun rfl
  case sorted =>
    have hall := sortedKeys_filter_pairwise s.cues (fun _ => true) hs
    rwa [List.filter_true] at hall

end Sys2Proof.Machine
end

section
/-!
PROOFS. The requests about the notice queue and the memory: NOTICE_ACK by the three places a number can have in the
queue (O11), and MEMORY_INIT by its two tests and what its acceptance sets (O12).
-/

namespace Sys2Proof.Machine

/-! ### NOTICE_ACK -/

/-- A held number is acknowledged with all before it. -/
theorem ackCount_held {q : NoticeQueue} {n : BitVec 16} (h : (n - oldestNumber q).toNat < q.held.length) :
    ackCount q n = some ((n - oldestNumber q).toNat + 1) := by
  rw [ackCount, if_pos h]

/-- An older number acknowledges nothing. -/
theorem ackCount_older {q : NoticeQueue} {n : BitVec 16} (h : q.held.length ≤ (n - oldestNumber q).toNat)
    (h1 : 1 ≤ (oldestNumber q - n).toNat) (h2 : (oldestNumber q - n).toNat ≤ 32768) : ackCount q n = some 0 := by
  rw [ackCount, if_neg (Nat.not_lt.mpr h), if_pos ⟨h1, h2⟩]

/-- Any other number was never given. -/
theorem ackCount_never {q : NoticeQueue} {n : BitVec 16} (h : q.held.length ≤ (n - oldestNumber q).toNat)
    (h' : (oldestNumber q - n).toNat = 0 ∨ 32768 < (oldestNumber q - n).toNat) : ackCount q n = none := by
  rw [ackCount, if_neg (Nat.not_lt.mpr h), if_neg (by omega)]

/-- Settles O11: the count that each place of the number gives, and the removal that follows from it. -/
theorem noticeAckByPosition : Obligations.NoticeAckByPosition := by
  unfold Obligations.NoticeAckByPosition
  intro seq n s h
  have hacc : accepted 0x04 s.device = true := accepted_of_lt_0x20 (by decide) (by decide) _
  refine ⟨fun hd => ?held, fun hd h1 h2 => ?older, fun hd h' => ?never⟩
  case held =>
    refine exec_request_says (r := .noticeAck n) h rfl hacc ?_ ?link
    · simp only [runRequest, runNoticeAck, ackCount_held hd, removeNotices, Nat.succ_ne_zero, if_false]
      rfl
    case link => split <;> rfl
  case older =>
    refine exec_request_says (r := .noticeAck n) h rfl hacc ?_ rfl
    simp only [runRequest, runNoticeAck, ackCount_older hd h1 h2, removeNotices, if_true, Nat.sub_zero]
    rfl
  case never =>
    refine exec_request_says (r := .noticeAck n) h rfl hacc ?_ rfl
    simp only [runRequest, runNoticeAck, ackCount_never hd h', refuse, ackRefusal]
    cases (txBegin s).notices.held.head? <;> cases (txBegin s).notices.held.getLast? <;> rfl

/-! ### MEMORY_INIT -/

/-- The fields of a profile are within their values (R95, R96). -/
def profileInRange (p : ProfileBody) : Prop :=
  (p.rows.toNat = 2048 ∨ p.rows.toNat = 4096 ∨ p.rows.toNat = 8192)
    ∧ (p.policy.toNat = 0 ∨ p.policy.toNat = 1) ∧ 1000 ≤ p.interval.toNat
    ∧ 1 ≤ p.debtLimit.toNat ∧ p.debtLimit.toNat ≤ 8 ∧ 2 ≤ p.initRefreshes.toNat ∧ p.initRefreshes.toNat ≤ 16
    ∧ (p.latency.toNat = 2 ∨ p.latency.toNat = 3) ∧ (p.burst.toNat = 4 ∨ p.burst.toNat = 8)

/-- The profile that the fields of a body in range give. -/
def profileGiven (p : ProfileBody) : Profile :=
  { rows := p.rows.toNat, policy := if p.policy.toNat = 0 then .openRow else .closeRow,
    interval := p.interval.toNat, debtLimit := p.debtLimit.toNat, initRefreshes := p.initRefreshes.toNat,
    latency := p.latency.toNat, burst := p.burst.toNat }

/-- A body in range gives its profile. -/
theorem profileOf_inRange {p : ProfileBody} (h : profileInRange p) : profileOf p = some (profileGiven p) := by
  obtain ⟨hrows, hpolicy, hrest⟩ := h
  unfold profileOf profileGiven
  rcases hpolicy with hp | hp <;> simp only [hp, if_true, if_false, Nat.one_ne_zero] <;> exact if_pos ⟨hrows, hrest⟩

/-- A body out of range gives none. -/
theorem profileOf_outOfRange {p : ProfileBody} (h : ¬profileInRange p) : profileOf p = none := by
  unfold profileOf
  split
  · rfl
  next policy hpolicy =>
    refine if_neg fun ⟨hrows, hrest⟩ => h ⟨hrows, ?_, hrest⟩
    split at hpolicy
    · exact .inl ‹_›
    · split at hpolicy
      · exact .inr ‹_›
      · cases hpolicy

/-- Settles O12: the payloads in use, the ranges of the profile, and the acceptance. -/
theorem memoryInitBeginsBringUp : Obligations.MemoryInitBeginsBringUp := by
  unfold Obligations.MemoryInitBeginsBringUp
  intro seq p s h
  have hacc : s.device ≠ .initializing → accepted 0x10 s.device = true := fun hd => by
    cases hs : s.device <;> first | rfl | exact absurd hs hd
  have hfree : (s.device = .ready → s.store.directory = []) →
      ¬((txBegin s).device = .ready ∧ (txBegin s).store.directory ≠ []) := fun hd => by
    rw [txBegin_device, txBegin_store]
    exact fun ⟨hr, hne⟩ => hne (hd hr)
  refine ⟨fun hd hu => ?inUse, fun hd hu hr => ?badValue, fun hd hu hr => ?accepted⟩
  case inUse =>
    refine exec_request_says (r := .memoryInit p) h rfl (hacc (by rw [hd]; nofun)) ?_ rfl
    rw [runRequest, runMemoryInit, if_pos (by rw [txBegin_device, txBegin_store]; exact ⟨hd, hu⟩), txBegin_store]
    rfl
  case badValue =>
    refine exec_request_says (r := .memoryInit p) h rfl (hacc hd) ?_ rfl
    rw [runRequest, runMemoryInit, if_neg (hfree hu), profileOf_outOfRange hr]
    rfl
  case accepted =>
    refine exec_request_says (r := .memoryInit p) h rfl (hacc hd) ?_ rfl
    rw [runRequest, runMemoryInit, if_neg (hfree hu), profileOf_inRange hr]
    dsimp only
    rw [acceptInit, elapsedIn, txBegin_time]
    rfl

end Sys2Proof.Machine
end

section
/-!
PROOFS. What a request that fits comes to beyond a plain reply: answered with what its event ends with, or executing on,
where a calm event goes straight to the test whether its wait is over (R149). The operations on the store do not see the
executing request, so that its reply does not depend on it.
-/

namespace Sys2Proof.Machine

/-! ### The executing request beside the store -/

/-- The state with another executing request. -/
def State.busy (s : State) (e : Option Executing) : State := { s with executing := e }

section
variable (s : State) (e : Option Executing)

theorem placeFill_busy : placeFill (s.busy e) = (placeFill s).busy e := by
  unfold placeFill
  rw [show fillRequest (s.busy e) = fillRequest s from rfl]
  cases fillRequest s <;> rfl

/-- A chunk that is taken joins the tail of the fill buffer (R81). -/
theorem takeChunk_eq {p : Nat} {x : Payload} (hp : s.payload? p = some x) (o : Nat) (d : List Byte) :
    takeChunk s p o d
      = placeFill ((s.setPayload p
          { x with fillOffset := x.fillOffset + d.length, running := crc32Extend x.running d }).setChunks
          (s.store.chunks ++ [{ payload := p, offset := o, data := d, written := 0 }])) := by
  simp only [takeChunk, hp]
  rfl

theorem takeChunk_busy (p o : Nat) (d : List Byte) : takeChunk (s.busy e) p o d = (takeChunk s p o d).busy e := by
  cases hp : s.payload? p with
  | none =>
    have hp' : (s.busy e).payload? p = none := hp
    simp only [takeChunk, hp, hp']
  | some x =>
    rw [takeChunk_eq (s.busy e) hp, takeChunk_eq s hp]
    exact placeFill_busy ((s.setPayload p _).setChunks (s.store.chunks ++ _)) e

theorem freePayload_busy (p : Nat) : (s.busy e).freePayload p = (s.freePayload p).busy e := by
  unfold State.freePayload
  rw [show (s.busy e).payload? p = s.payload? p from rfl]
  cases s.payload? p <;> rfl

/-- The end of an execution does not depend on what executed. -/
theorem endExecution_busy (seq code : Byte) (st : Status) (res : List Byte) :
    endExecution (s.busy e) seq code st res = endExecution s seq code st res := rfl

theorem finishSeal_busy (seq code : Byte) (p : Nat) (want : Option (BitVec 32)) :
    finishSeal (s.busy e) seq code p want = finishSeal s seq code p want := by
  unfold finishSeal
  rw [show (s.busy e).payload? p = s.payload? p from rfl, freePayload_busy]
  cases s.payload? p <;> rfl

/-! ### The ends of the waits -/

variable (seq code : Byte)

/-- A chunk is taken as soon as a slot is free (R81). -/
theorem resume_putData (p o : Nat) (d : List Byte) (h : slotFree s = true) :
    resume (s.busy (some { seq := seq, code := code, wait := .putData p o d }))
      = endExecution (takeChunk s p o d) seq code .ok (u16 (o + d.length)) := by
  rw [show resume (s.busy _) = if slotFree s then endExecution (takeChunk (s.busy _) p o d) seq code .ok _ else _ from rfl,
    if_pos h, takeChunk_busy, endExecution_busy]

/-- A payload is closed as soon as it has no chunk left (R85). -/
theorem resume_seal (p : Nat) (want : Option (BitVec 32)) (h : holdsChunk s p = false) :
    resume (s.busy (some { seq := seq, code := code, wait := .seal p want })) = finishSeal s seq code p want := by
  rw [show resume (s.busy _) = if holdsChunk s p then _ else finishSeal (s.busy _) seq code p want from rfl, h,
    if_neg Bool.false_ne_true, finishSeal_busy]

/-- A payload is freed as soon as it has no chunk left (R88). -/
theorem resume_delete (p : Nat) (h : holdsChunk s p = false) :
    resume (s.busy (some { seq := seq, code := code, wait := .delete p }))
      = endExecution (s.freePayload p) seq code .ok [payloadStateCode none] := by
  rw [show resume (s.busy _) = if holdsChunk s p then _
      else endExecution ((s.busy _).freePayload p) seq code .ok [payloadStateCode none] from rfl, h,
    if_neg Bool.false_ne_true, freePayload_busy, endExecution_busy]

/-- A READ_BACK with bytes to come requests them (R90). -/
theorem resume_readBack (bl : List Nat) (o n : Nat) (got : List Byte) (h : got.length < n) :
    resume (s.busy (some { seq := seq, code := code, wait := .readBack bl o n got }))
      = placeReadBack (s.busy (some { seq := seq, code := code, wait := .readBack bl o n got })) bl o n got := by
  rw [show resume (s.busy _) = if n ≤ got.length then _ else placeReadBack (s.busy _) bl o n got from rfl,
    if_neg (Nat.not_le.mpr h)]

end

/-! ### Sealing -/

/-- A FILLING payload that is sealed with no check expected, or with its own (R85). -/
theorem finishSeal_sealed {s : State} {p : Nat} {x : Payload} {want : Option (BitVec 32)} (seq code : Byte)
    (hp : s.payload? p = some x) (hx : x.state = .filling) (hw : want = none ∨ want = some x.running) :
    finishSeal s seq code p want
      = endExecution (s.setPayload p { x with state := .sealed, check := some x.running }) seq code .ok
          (u32 x.running.toNat) := by
  simp only [finishSeal, hp, hx, ne_eq, not_true_eq_false, if_false]
  rw [if_pos hw]

/-- A FILLING payload whose running check is another one than expected is freed (R85). -/
theorem finishSeal_mismatch {s : State} {p : Nat} {x : Payload} {k : BitVec 32} (seq code : Byte)
    (hp : s.payload? p = some x) (hx : x.state = .filling) (hk : k ≠ x.running) :
    finishSeal s seq code p (some k)
      = endExecution (s.freePayload p) seq code .checkMismatch (u32 x.running.toNat) := by
  simp only [finishSeal, hp, hx, ne_eq, not_true_eq_false, if_false]
  rw [if_neg]
  rintro (h | h)
  · cases h
  · exact hk (Option.some.inj h)

/-! ### Requests that go on in the event -/

section
variable {s t : State} {seq : Byte} {r : Req} {st : Status} {res : List Byte} {w : Wait}

/-- A request answered by a reply, with what the event ends with. -/
theorem exec_request_answered (h : attends s seq r.code = true) (hf : r.fits = true)
    (ha : accepted r.code s.device = true) (hrun : runRequest (txBegin s) seq r = (t, .did st res))
    (hlink : t.link = (txBegin s).link) :
    exec (r.command seq) s = .next (answered (txBegin s) t seq r.code st res) := by
  obtain ⟨-, -, hinbox, -, -, hsync, -, -⟩ := (attends_iff s seq r.code).mp h
  rw [exec_command, hostRequest_answered s t seq r st res h (encodeBody_length_le hf) (decodeBody_encodeBody hf) ha hrun
    (by simp [hlink, hinbox]) (by simp [hlink, hsync])]

/-- A request that executes on, with what the event ends with. -/
theorem exec_request_waits (h : attends s seq r.code = true) (hf : r.fits = true)
    (ha : accepted r.code s.device = true) (hrun : runRequest (txBegin s) seq r = (t, .waits w))
    (hlink : t.link = (txBegin s).link) :
    exec (r.command seq) s
      = .next (finished (txBegin s) (t.busy (some { seq := seq, code := r.code, wait := w }))) := by
  obtain ⟨-, -, hinbox, -⟩ := (attends_iff s seq r.code).mp h
  rw [exec_command, hostRequest_waits s t seq r w h (encodeBody_length_le hf) (decodeBody_encodeBody hf) ha hrun
    (by simp [hlink, hinbox]), finished]
  refine congrArg Host.Outcome.next (ended_of_empty _ ?_).symm
  rw [coreTail_inbox]
  show t.link.inbox = []
  rw [hlink, txBegin_inbox, hinbox]

/-- A request that executes on in a calm event goes to the test of its wait and to the arbiter. -/
theorem exec_request_waits_calm (h : attends s seq r.code = true) (hf : r.fits = true)
    (ha : accepted r.code s.device = true) (hrun : runRequest (txBegin s) seq r = (t, .waits w))
    (hlink : t.link = (txBegin s).link) (hcalm : calm (txBegin s) t = true) :
    exec (r.command seq) s
      = .next (concluded (resume (t.busy (some { seq := seq, code := r.code, wait := w })))) := by
  rw [exec_request_waits h hf ha hrun hlink, finished, coreTail_calm _ _ (by exact hcalm), concluded]

end

end Sys2Proof.Machine
end

section
/-!
PROOFS. The requests on payloads (R80 to R90): PUT_DATA, SEAL_PAYLOAD, DELETE_PAYLOAD and READ_BACK, each by its tests
in order and by what becomes of it in the event in which it arrives (O15 to O18).
-/

namespace Sys2Proof.Machine

/-- In READY every request is accepted (R129). -/
theorem accepted_ready {code : Byte} {s : State} (h : s.device = .ready) : accepted code s.device = true := by
  rw [h]; rfl

/-! ### PUT_DATA -/

section
variable {s : State} {seq id : Byte} {off : BitVec 32} {data : List Byte} {st : Status} {res : List Byte}

/-- PUT_DATA that fails a test is refused (R80). -/
theorem exec_putData_refused (hdev : s.device = .ready) (hd : 1 ≤ data.length ∧ data.length ≤ 1024)
    (h : attends s seq 0x21 = true) (hrun : runPutData (txBegin s) id off data = refuse (txBegin s) st res) :
    exec (.putData seq id off data) s = .next (replied (txBegin s) seq 0x21 st res) := by
  have hfits : (Req.putData id off data).fits = true := by
    simpa only [Req.fits, Bool.and_eq_true, decide_eq_true_eq] using hd
  exact exec_request_says (r := .putData id off data) h hfits (accepted_ready hdev) hrun rfl

/-- Settles O15: the tests of R80, and the take of R81 where a slot is free. -/
theorem putDataIsTaken : Obligations.PutDataIsTaken := by
  unfold Obligations.PutDataIsTaken
  intro seq id off data s hdev h1 h2 h
  have hpay : ∀ {o}, s.payload? id.toNat = o → (txBegin s).payload? id.toNat = o := (txBegin_payload? s _).trans
  refine ⟨fun hp => ?free, fun p hp => ⟨fun hst => ?state, fun hst ho => ?order, fun hst ho hl => ?long,
    fun hst ho hl hcalm => ?fits⟩⟩
  case free =>
    refine exec_putData_refused hdev ⟨h1, h2⟩ h ?_
    simp only [runPutData, hpay hp]; rfl
  case state =>
    refine exec_putData_refused hdev ⟨h1, h2⟩ h ?_
    simp only [runPutData, hpay hp]; rw [if_pos hst]
  case order =>
    refine exec_putData_refused hdev ⟨h1, h2⟩ h ?_
    simp only [runPutData, hpay hp]; rw [if_neg (not_not_intro hst), if_pos ho]; rfl
  case long =>
    refine exec_putData_refused hdev ⟨h1, h2⟩ h ?_
    simp only [runPutData, hpay hp]; rw [if_neg (not_not_intro hst), if_neg (not_not_intro ho), if_pos hl]; rfl
  case fits =>
    obtain ⟨-, -, -, -, -, hsync, -, -⟩ := (attends_iff _ _ _).mp h
    have hfits : (Req.putData id off data).fits = true := by
      simpa only [Req.fits, Bool.and_eq_true, decide_eq_true_eq] using And.intro h1 h2
    have hrun : runRequest (txBegin s) seq (.putData id off data)
        = (txBegin s, .waits (.putData id.toNat off.toNat data)) := by
      simp only [runRequest, runPutData, hpay hp]
      rw [if_neg (not_not_intro hst), if_neg (not_not_intro ho), if_neg (Nat.not_lt.mpr hl)]
    have hexec := exec_request_waits_calm (r := .putData id off data) h hfits (accepted_ready hdev) hrun rfl hcalm
    refine ⟨fun hfree => ?taken, fun hfull => ?waits⟩
    case taken =>
      refine hexec.trans ?_
      have hslot : slotFree (txBegin s) = true := by
        rw [slotFree, txBegin_store]; exact decide_eq_true hfree
      rw [resume_putData _ _ _ _ _ _ hslot, takeChunk_eq _ (hpay hp), endExecution_eq, txBegin_store, ho]
      · rfl
      · rw [(CoreKept.placeFill _).link]
        exact (txBegin_pendingSync s).trans hsync
    case waits =>
      refine hexec.trans ?_
      have hslot : slotFree (txBegin s) = false := by
        rw [slotFree, txBegin_store]; exact decide_eq_false (Nat.not_lt.mpr hfull)
      have hwaits : waitGoesOn ((txBegin s).busy
          (some { seq := seq, code := 0x21, wait := .putData id.toNat off.toNat data })) = true :=
        congrArg Bool.not hslot
      exact congrArg (fun u => Host.Outcome.next (concluded u)) (resume_waits _ hwaits)

end

/-! ### SEAL_PAYLOAD -/

/-- Settles O16: the tests of R84, and the closing of R85 where no chunk is left. -/
theorem sealPayloadCloses : Obligations.SealPayloadCloses := by
  unfold Obligations.SealPayloadCloses
  intro seq id want s hdev h
  have hpay : ∀ {o}, s.payload? id.toNat = o → (txBegin s).payload? id.toNat = o := (txBegin_payload? s _).trans
  refine ⟨fun hp => ?free, fun p hp => ⟨fun hst => ?state, fun hst ho => ?unfilled, fun hst ho hcalm => ?filled⟩⟩
  case free =>
    refine exec_request_says (r := .sealPayload id want) h rfl (accepted_ready hdev) ?_ rfl
    simp only [runRequest, runSealPayload, hpay hp]; rfl
  case state =>
    refine exec_request_says (r := .sealPayload id want) h rfl (accepted_ready hdev) ?_ rfl
    simp only [runRequest, runSealPayload, hpay hp]; rw [if_pos hst]; rfl
  case unfilled =>
    refine exec_request_says (r := .sealPayload id want) h rfl (accepted_ready hdev) ?_ rfl
    simp only [runRequest, runSealPayload, hpay hp]; rw [if_neg (not_not_intro hst), if_pos ho]; rfl
  case filled =>
    obtain ⟨-, -, -, -, -, hsync, -, -⟩ := (attends_iff _ _ _).mp h
    have hsync' : (txBegin s).link.pendingSync = none := (txBegin_pendingSync s).trans hsync
    have hchunk : holdsChunk (txBegin s) id.toNat = holdsChunk s id.toNat := by rw [holdsChunk, txBegin_store]; rfl
    have hrun : runRequest (txBegin s) seq (.sealPayload id want)
        = (txBegin s, .waits (.seal id.toNat want)) := by
      simp only [runRequest, runSealPayload, hpay hp]
      rw [if_neg (not_not_intro hst), if_neg (not_not_intro ho)]
    have hexec := exec_request_waits_calm (r := .sealPayload id want) h rfl (accepted_ready hdev) hrun rfl hcalm
    refine ⟨fun hnone hw => hexec.trans ?sealed, fun hnone ⟨k, hk, hne⟩ => hexec.trans ?mismatch,
      fun hsome => hexec.trans ?waits⟩
    case sealed =>
      rw [resume_seal _ _ _ _ _ (hchunk.trans hnone), finishSeal_sealed _ _ (hpay hp) hst hw,
        endExecution_eq ((txBegin s).setPayload id.toNat _) _ _ _ _ hsync']
      rfl
    case mismatch =>
      rw [resume_seal _ _ _ _ _ (hchunk.trans hnone), hk, finishSeal_mismatch _ _ (hpay hp) hst hne, endExecution_eq]
      · rfl
      · rw [(CoreKept.freePayload _ _).link]; exact hsync'
    case waits =>
      have hwaits : waitGoesOn ((txBegin s).busy (some { seq := seq, code := 0x22, wait := .seal id.toNat want })) = true :=
        hchunk.trans hsome
      exact congrArg (fun u => Host.Outcome.next (concluded u)) (resume_waits _ hwaits)

/-! ### DELETE_PAYLOAD -/

/-- Whether an event leaves the lanes and the store calm rests on the lanes, the cues, device time, the directory, and
on which lanes have a request outstanding. -/
theorem calm_congr {s0 s t : State} (hlanes : t.lanes = s.lanes) (hcues : t.cues = s.cues) (htime : t.time = s.time)
    (hdir : t.store.directory = s.store.directory)
    (hout : ∀ l : Fin 4, outstanding t (.lane l) = outstanding s (.lane l)) : calm s0 t = calm s0 s := by
  have hrests : laneRests s0 t = laneRests s0 s := funext fun l => by
    simp only [laneRests, flushOver, evaluates, cameWithin, withinWindow, candidate, pendingQueue, dueList, State.lane,
      hlanes, hcues, htime, hout]
    rfl
  simp only [calm, hrests, doomedUnused, hdir]

/-- Whether a transaction of a requester is in flight does not depend on what another one gives up. -/
theorem outstanding_giveUp_fill (s : State) (l : Fin 4) :
    outstanding (giveUpRequest s .fill) (.lane l) = outstanding s (.lane l) := by
  unfold giveUpRequest
  dsimp only
  split
  next t ht =>
    have ht' : s.mc.port = some (.transaction t) := ht
    simp only [outstanding, inFlight, dropRequest, ht']
    refine congrArg _ ?_
    unfold Transaction.withdrawFor
    split
    · split
      next hr => simp [hr]
      · rfl
    · rfl
  · rfl

/-- The fill buffer asks for the fill buffer alone. -/
theorem outstanding_placeFill (s : State) (l : Fin 4) :
    outstanding (placeFill s) (.lane l) = outstanding s (.lane l) := by
  unfold placeFill
  cases fillRequest s <;> rfl

/-- A payload whose chunks have left has none. -/
theorem any_withoutChunks (cs : List Chunk) (p : Nat) :
    (withoutChunks cs p false).any (fun c => decide (c.payload = p)) = false := by
  have hrest : ∀ t : List Chunk,
      (t.filter (fun k => decide (k.payload ≠ p))).any (fun c => decide (c.payload = p)) = false := fun t => by
    simp [List.any_filter]
  cases cs with
  | nil => rfl
  | cons c t =>
    unfold withoutChunks
    dsimp only
    split
    · exact hrest t
    next h => rw [List.any_cons, hrest, Bool.or_false, decide_eq_false (fun e => h ⟨e, rfl⟩)]

/-- The chunks of a payload that has none are as they were. -/
theorem withoutChunks_of_holdsChunk {s : State} {p : Nat} (h : holdsChunk s p = false) (b : Bool) :
    withoutChunks s.store.chunks p b = s.store.chunks := by
  unfold holdsChunk at h
  cases hc : s.store.chunks with
  | nil => rfl
  | cons c t =>
    rw [hc, List.any_cons, Bool.or_eq_false_iff, decide_eq_false_iff_not] at h
    have ht : t.filter (fun k => decide (k.payload ≠ p)) = t :=
      List.filter_eq_self.mpr fun k hk => by simpa using List.any_eq_false.mp h.2 k hk
    rw [withoutChunks, if_neg fun hp => h.1 hp.1, ht]

/-- Giving a request up does not see the chunks. -/
theorem giveUpRequest_setChunks (s : State) (r : Requester) (cs : List Chunk) :
    (giveUpRequest s r).setChunks cs = giveUpRequest (s.setChunks cs) r := by
  unfold giveUpRequest
  dsimp only
  rw [show (dropRequest (s.setChunks cs) r).mc.port = (dropRequest s r).mc.port by cases r <;> rfl]
  split <;> cases r <;> rfl

/-- DELETE_PAYLOAD of a FILLING payload that leaves no chunk of it is answered in its event (R88). -/
theorem exec_deletePayload_freed {s t : State} {seq id : Byte} {p : Payload} (hdev : s.device = .ready)
    (h : attends s seq 0x23 = true) (hp : s.payload? id.toNat = some p) (hst : p.state = .filling)
    (ht : deleteChunks (txBegin s) id.toNat = t) (hcalm : calm (txBegin s) t = true)
    (hnone : holdsChunk t id.toNat = false) :
    exec (.deletePayload seq id) s
      = .next (concluded (queueReply (t.freePayload id.toNat) seq 0x23 .ok [0])) := by
  obtain ⟨-, -, -, -, -, hsync, -, -⟩ := (attends_iff _ _ _).mp h
  have hlink : t.link = (txBegin s).link := by rw [← ht]; exact (CoreKept.deleteChunks _ _).link
  have hrun : runRequest (txBegin s) seq (.deletePayload id) = (t, .waits (.delete id.toNat)) := by
    simp only [runRequest, runDeletePayload, txBegin_payload?, hp, hst, ht]
  refine (exec_request_waits_calm (r := .deletePayload id) h rfl (accepted_ready hdev) hrun hlink hcalm).trans ?_
  rw [resume_delete _ _ _ _ hnone, endExecution_eq]
  · rfl
  · rw [(CoreKept.freePayload _ _).link, hlink]
    exact (txBegin_pendingSync s).trans hsync

/-- A DELETE_PAYLOAD whose head chunk is being written waits for that write (R88). -/
theorem exec_deletePayload_column {s : State} {seq id : Byte} {p : Payload} {c : Chunk} {rest : List Chunk}
    (hdev : s.device = .ready) (h : attends s seq 0x23 = true) (hp : s.payload? id.toNat = some p)
    (hst : p.state = .filling) (hcs : s.store.chunks = c :: rest) (hc : c.payload = id.toNat)
    (hcol : inColumn s .fill = true) (hcalm : calm (txBegin s) (txBegin s) = true) :
    exec (.deletePayload seq id) s
      = .next (ended (((txBegin s).setChunks (c :: rest.filter (fun k => decide (k.payload ≠ id.toNat)))).busy
          (some { seq := seq, code := 0x23, wait := .delete id.toNat }))) := by
  have hport : s.mc.port.isSome = true := by
    unfold inColumn at hcol
    cases hport : s.mc.port with
    | none => rw [hport] at hcol; cases hcol
    | some op => rfl
  have hhead : headIs (txBegin s) id.toNat = true := by simp [headIs, hcs, hc]
  have ht : deleteChunks (txBegin s) id.toNat
      = (txBegin s).setChunks (c :: rest.filter (fun k => decide (k.payload ≠ id.toNat))) := by
    rw [deleteChunks, if_pos hhead, if_pos (by rw [inColumn, txBegin_mc]; exact hcol), txBegin_store, hcs,
      withoutChunks, if_neg (by simp)]
  have hrun : runRequest (txBegin s) seq (.deletePayload id)
      = ((txBegin s).setChunks (c :: rest.filter (fun k => decide (k.payload ≠ id.toNat))),
          .waits (.delete id.toNat)) := by
    simp only [runRequest, runDeletePayload, txBegin_payload?, hp, hst, ht]
  refine (exec_request_waits_calm (r := .deletePayload id) h rfl (accepted_ready hdev) hrun rfl hcalm).trans ?_
  rw [resume_waits]
  · refine congrArg (fun u => Host.Outcome.next (ended u)) (arbitrate_rests _ ?_)
    have hport' : (txBegin s).mc.port.isSome = true := by rw [txBegin_mc]; exact hport
    exact (congrArg (· || _) hport').trans (Bool.true_or _)
  · show holdsChunk _ id.toNat = true
    unfold holdsChunk
    exact (congrArg (· || _) (decide_eq_true hc)).trans (Bool.true_or _)

/-- Settles O17: the state of the entry, and the place of its chunks and of its write request where it is FILLING. -/
theorem deletePayload : Obligations.DeletePayload := by
  unfold Obligations.DeletePayload
  refine ⟨fun seq id s hdev h => ?_, fun seq id p c rest s hdev h hp hst hcs hc hcol => ?column⟩
  case column =>
    intro a hcalm
    obtain ⟨-, -, hinbox, -⟩ := (attends_iff _ _ _).mp h
    refine (exec_deletePayload_column hdev h hp hst hcs hc hcol hcalm).trans (congrArg Host.Outcome.next ?_)
    exact ended_of_empty (((txBegin s).setChunks _).busy _) ((txBegin_inbox s).trans hinbox)
  · have hpay : ∀ {o}, s.payload? id.toNat = o → (txBegin s).payload? id.toNat = o := (txBegin_payload? s _).trans
    refine ⟨fun hp => ?free, fun p hp => ⟨fun hst hr => ?sealed, fun hst hr => ?doom, fun hst => ?doomed,
      fun hst hnone hcalm => ?noChunk, fun hst c rest hcs hcalm => ⟨fun hc => ?otherHead, fun hc hcol => ?ownHead⟩⟩⟩
    case free =>
      refine exec_request_says (r := .deletePayload id) h rfl (accepted_ready hdev) ?_ rfl
      simp only [runRequest, runDeletePayload, hpay hp]; rfl
    case sealed =>
      refine exec_request_answered (r := .deletePayload id) h rfl (accepted_ready hdev) ?_ rfl
      simp only [runRequest, runDeletePayload, hpay hp, hst]
      rw [if_pos hr, State.freePayload, hpay hp, txBegin_store]
      rfl
    case doom =>
      refine exec_request_answered (r := .deletePayload id) h rfl (accepted_ready hdev) ?_ rfl
      simp only [runRequest, runDeletePayload, hpay hp, hst]
      rw [if_neg (Nat.pos_iff_ne_zero.mp hr)]
      rfl
    case doomed =>
      refine exec_request_says (r := .deletePayload id) h rfl (accepted_ready hdev) ?_ rfl
      simp only [runRequest, runDeletePayload, hpay hp, hst]
      rfl
    case noChunk =>
      have hnone' : holdsChunk (txBegin s) id.toNat = false := by rw [holdsChunk, txBegin_store]; exact hnone
      refine exec_deletePayload_freed hdev h hp hst ?_ hcalm hnone'
      have hhead : headIs (txBegin s) id.toNat = false := by
        unfold headIs
        unfold holdsChunk at hnone'
        split
        next c t hc =>
          rw [hc, List.any_cons, Bool.or_eq_false_iff] at hnone'
          exact hnone'.1
        · rfl
      rw [deleteChunks, hhead, if_neg Bool.false_ne_true, withoutChunks_of_holdsChunk hnone']
      rfl
    case otherHead =>
      have ht : deleteChunks (txBegin s) id.toNat
          = (txBegin s).setChunks (c :: rest.filter (fun k => decide (k.payload ≠ id.toNat))) := by
        simp only [deleteChunks, headIs, withoutChunks, txBegin_store, hcs, hc, decide_false, Bool.false_eq_true,
          false_and, if_false]
      refine exec_deletePayload_freed hdev h hp hst ht hcalm ?_
      have hany := any_withoutChunks (c :: rest) id.toNat
      rwa [withoutChunks, if_neg fun hp => hc hp.1] at hany
    case ownHead =>
      have hcol' : inColumn (txBegin s) .fill = false := by rw [inColumn, txBegin_mc]; exact hcol
      have ht : deleteChunks (txBegin s) id.toNat
          = placeFill ((giveUpRequest (txBegin s) .fill).setChunks
              (rest.filter (fun k => decide (k.payload ≠ id.toNat)))) := by
        have hhead : headIs (txBegin s) id.toNat = true := by simp [headIs, hcs, hc]
        rw [deleteChunks, if_pos hhead, hcol', if_neg Bool.false_ne_true, txBegin_store, hcs, withoutChunks,
          if_pos ⟨hc, rfl⟩]
      have hport := (PortOnly.giveUpRequest
        ((txBegin s).setChunks (rest.filter (fun k => decide (k.payload ≠ id.toNat)))) .fill).trans (.placeFill _)
      rw [← giveUpRequest_setChunks] at hport
      refine exec_deletePayload_freed hdev h hp hst ht ?_ ?_
      · refine Eq.trans (calm_congr hport.lanes hport.cues hport.core.time
          (congrArg Store.directory hport.store) fun l => ?_) hcalm
        rw [outstanding_placeFill]
        exact outstanding_giveUp_fill _ l
      · have hany := any_withoutChunks (c :: rest) id.toNat
        rw [withoutChunks, if_pos ⟨hc, rfl⟩] at hany
        rw [holdsChunk, hport.store]
        exact hany

/-! ### READ_BACK -/

/-- Settles O18: the tests of R90, and the first read. -/
theorem readBackBegins : Obligations.ReadBackBegins := by
  unfold Obligations.ReadBackBegins
  intro seq id off n s hdev h
  have hpay : ∀ {o}, s.payload? id.toNat = o → (txBegin s).payload? id.toNat = o := (txBegin_payload? s _).trans
  refine ⟨fun hn => ?count, fun h1 h2 => ?_⟩
  case count =>
    refine exec_request_says (r := .readBack id off n) h rfl (accepted_ready hdev) ?_ rfl
    rw [runRequest, runReadBack, if_pos hn]; rfl
  have hn : ¬(n.toNat = 0 ∨ 1024 < n.toNat) := by omega
  refine ⟨fun hp => ?free, fun p hp => ⟨fun hst => ?filling, fun hst hl => ?past, fun hst hl hcalm hout b hb => ?begins⟩⟩
  case free =>
    refine exec_request_says (r := .readBack id off n) h rfl (accepted_ready hdev) ?_ rfl
    rw [runRequest, runReadBack, if_neg hn, hpay hp]; rfl
  case filling =>
    refine exec_request_says (r := .readBack id off n) h rfl (accepted_ready hdev) ?_ rfl
    simp only [runRequest, runReadBack, if_neg hn, hpay hp, if_pos hst]; rfl
  case past =>
    refine exec_request_says (r := .readBack id off n) h rfl (accepted_ready hdev) ?_ rfl
    simp only [runRequest, runReadBack, if_neg hn, hpay hp, if_neg hst, if_pos (Or.inr hl)]; rfl
  case begins =>
    have hin : ¬(p.length ≤ off.toNat ∨ p.length < off.toNat + n.toNat) := by omega
    have hrun : runRequest (txBegin s) seq (.readBack id off n)
        = (txBegin s, .waits (.readBack p.blocks off.toNat n.toNat [])) := by
      simp only [runRequest, runReadBack, if_neg hn, hpay hp, if_neg hst, if_neg hin]
    refine (exec_request_waits_calm (r := .readBack id off n) h rfl (accepted_ready hdev) hrun rfl hcalm).trans ?_
    have hreq : requestAt p.blocks (off.toNat + ([] : List Byte).length) (n.toNat - ([] : List Byte).length)
        = some { block := b, pos := off.toNat % 2048, size := min 256 (min n.toNat (2048 - off.toNat % 2048)) } := by
      have hb' : p.blocks[(off.toNat + ([] : List Byte).length) / Config.blockBytes]? = some b := hb
      rw [requestAt, hb']
      rfl
    rw [resume_readBack _ _ _ _ _ _ _ h1, placeReadBack, hreq]
    exact congrArg (fun u => Host.Outcome.next (concluded u)) (if_neg (ne_true_of_eq_false hout))

end Sys2Proof.Machine
end

section
/-!
PROOFS. FILE_CUE (R4, R5): what the values of its body name, the record that it writes, and its tests in order, each
with the refusal that it gives (O19), or the record filed, and armed where ARM_NOW says so (O20).
-/

namespace Sys2Proof.Machine

/-! ### Named values of a body -/

/-- A late policy is named by the codes 0 and 1. -/
theorem latePolicyOf_isSome (b : Byte) : (latePolicyOf b).isSome = true ↔ b.toNat ≤ 1 := by
  unfold latePolicyOf
  match b.toNat with
  | 0 | 1 => simp
  | k + 2 => simp

/-- A report level is named by the codes 0 to 2. -/
theorem reportOf_isSome (b : Byte) : (reportOf b).isSome = true ↔ b.toNat ≤ 2 := by
  unfold reportOf
  match b.toNat with
  | 0 | 1 | 2 => simp
  | k + 3 => simp

/-- An edge is named by the codes 0 to 2. -/
theorem cueEdgeOf_isSome (b : Byte) : (cueEdgeOf b).isSome = true ↔ b.toNat ≤ 2 := by
  unfold cueEdgeOf
  match b.toNat with
  | 0 | 1 | 2 => simp
  | k + 3 => simp

/-- A lane or a trigger line is named by the numbers 0 to 3. -/
theorem fourOf_isSome (b : Byte) : (fourOf b).isSome = true ↔ b.toNat ≤ 3 := by
  rw [← not_iff_not, Bool.not_eq_true, Option.isSome_eq_false_iff, Option.isNone_iff_eq_none, fourOf_eq_none_iff]
  omega

theorem latePolicyCode_of {b : Byte} {l : LatePolicy} (h : latePolicyOf b = some l) : latePolicyCode l = b := by
  unfold latePolicyOf at h
  split at h
  all_goals cases h
  all_goals exact BitVec.eq_of_toNat_eq ‹b.toNat = _›.symm

theorem reportCode_of {b : Byte} {l : ReportLevel} (h : reportOf b = some l) : reportCode l = b := by
  unfold reportOf at h
  split at h
  all_goals cases h
  all_goals exact BitVec.eq_of_toNat_eq ‹b.toNat = _›.symm

theorem cueEdgeCode_of {b : Byte} {e : CueEdge} (h : cueEdgeOf b = some e) : cueEdgeCode e = b := by
  unfold cueEdgeOf at h
  split at h
  all_goals cases h
  all_goals exact BitVec.eq_of_toNat_eq ‹b.toNat = _›.symm

theorem fourOf_val {b : Byte} {l : Fin 4} (h : fourOf b = some l) : l.val = b.toNat := by
  unfold fourOf at h
  split at h
  all_goals cases h
  all_goals exact ‹b.toNat = _›.symm

/-! ### The record -/

/-- The record of a body in HELD, of the lane, start kind, late policy and report level that it names (R2, R3). -/
def cueFiled (b : CueBody) (lane : Fin 4) (start : CueStart) (late : LatePolicy) (report : ReportLevel) : Cue :=
  { lane := lane, payload := b.payload.toNat,
    range := b.range.map (fun r => { offset := r.1.toNat, count := r.2.toNat }), start := start,
    repeatCount := b.repeatCount.toNat, period := b.period.toNat, late := late, tolerance := b.tolerance.toNat,
    priority := b.priority.toNat, report := report, options := optionsOf b.options, state := .held, due := none,
    used := 0, skipped := 0, last := none, endReason := none, armMoment := none, cut := .none, started := none }

/-- A body gives a record exactly where its named values have a name. -/
theorem cueOf_eq_some (b : CueBody) (c : Cue) :
    cueOf b = some c ↔ ∃ lane start late report, fourOf b.lane = some lane ∧ startOf b.start = some start
      ∧ latePolicyOf b.latePolicy = some late ∧ reportOf b.report = some report ∧ b.priority.toNat ≤ 3
      ∧ c = cueFiled b lane start late report := by
  unfold cueOf
  constructor
  · intro h
    split at h
    next lane start late report h1 h2 h3 h4 =>
      split at h
      next hp =>
        cases h
        exact ⟨lane, start, late, report, h1, h2, h3, h4, hp, rfl⟩
      · cases h
    · cases h
  · rintro ⟨lane, start, late, report, h1, h2, h3, h4, hp, rfl⟩
    simp only [h1, h2, h3, h4, if_pos hp]
    rfl

/-- A start kind is named where it is a due, or a trigger line and an edge that have names. -/
theorem startOf_isSome (x : StartSpec) :
    (startOf x).isSome = true ↔
      ∀ line edge offset, x = .trigger line edge offset → line.toNat ≤ 3 ∧ edge.toNat ≤ 2 := by
  cases x with
  | time d => simp [startOf]
  | trigger line edge offset =>
    have hiff : (startOf (.trigger line edge offset)).isSome = true
        ↔ (fourOf line).isSome = true ∧ (cueEdgeOf edge).isSome = true := by
      cases hl : fourOf line <;> cases he : cueEdgeOf edge <;> simp [startOf, hl, he]
    rw [hiff, fourOf_isSome, cueEdgeOf_isSome]
    exact ⟨fun h l e o heq => by cases heq; exact h, fun h => h _ _ _ rfl⟩

/-- Where test 4 of R4 passes. -/
theorem cueOf_isSome (b : CueBody) :
    (cueOf b).isSome = true ↔
      b.lane.toNat ≤ 3 ∧ b.priority.toNat ≤ 3 ∧ b.latePolicy.toNat ≤ 1 ∧ b.report.toNat ≤ 2
        ∧ ∀ line edge offset, b.start = .trigger line edge offset → line.toNat ≤ 3 ∧ edge.toNat ≤ 2 := by
  rw [← fourOf_isSome, ← latePolicyOf_isSome, ← reportOf_isSome, ← startOf_isSome]
  simp only [Option.isSome_iff_exists, cueOf_eq_some]
  constructor
  · rintro ⟨c, lane, start, late, report, h1, h2, h3, h4, hp, -⟩
    exact ⟨⟨lane, h1⟩, hp, ⟨late, h3⟩, ⟨report, h4⟩, ⟨start, h2⟩⟩
  · rintro ⟨⟨lane, h1⟩, hp, ⟨late, h3⟩, ⟨report, h4⟩, ⟨start, h2⟩⟩
    exact ⟨_, lane, start, late, report, h1, h2, h3, h4, hp, rfl⟩

/-- A due is filed as it is sent. -/
theorem startOf_time {d : BitVec 48} {start : CueStart} (h : startOf (.time d) = some start) : start = .time d.toNat := by
  cases h; rfl

/-- A trigger is filed as it is sent. -/
theorem startOf_trigger {line edge : Byte} {offset : BitVec 32} {start : CueStart}
    (h : startOf (.trigger line edge offset) = some start) :
    ∃ l e, start = .trigger l e offset.toNat ∧ l.val = line.toNat ∧ cueEdgeCode e = edge := by
  unfold startOf at h
  split at h
  · next heq => cases heq
  · next heq =>
    cases heq
    split at h
    next l e hl he =>
      cases h
      exact ⟨l, e, rfl, fourOf_val hl, cueEdgeCode_of he⟩
    · cases h

/-! ### The tests -/

section
variable {s : State} {b : CueBody} {p : Payload} {c : Cue}

theorem fileTests_inUse (h : (s.cue? b.cue.toNat).isSome = true) : fileTests s b = .error .inUse := by
  obtain ⟨c, hc⟩ := Option.isSome_iff_exists.mp h
  simp only [fileTests, hc]

theorem fileTests_noSuch (hc : s.cue? b.cue.toNat = none) (hp : s.payload? b.payload.toNat = none) :
    fileTests s b = .error .noSuch := by
  simp only [fileTests, hc, hp]

theorem fileTests_wrongState (hc : s.cue? b.cue.toNat = none) (hp : s.payload? b.payload.toNat = some p)
    (hst : p.state ≠ .sealed) : fileTests s b = .error .wrongState := by
  simp only [fileTests, hc, hp, ne_eq, hst, not_false_eq_true, if_true]

variable (hc : s.cue? b.cue.toNat = none) (hp : s.payload? b.payload.toNat = some p) (hst : p.state = .sealed)
include hc hp hst

theorem fileTests_noName (hb : cueOf b = none) : fileTests s b = .error .badValue := by
  simp only [fileTests, hc, hp, hst, ne_eq, not_true_eq_false, if_false, hb]

theorem fileTests_badValue (hb : cueOf b = some c) (hv : fileValuesOk c p.length = false) :
    fileTests s b = .error .badValue := by
  simp only [fileTests, hc, hp, hst, ne_eq, not_true_eq_false, if_false, hb, hv, Bool.not_false, if_true]

/-- A record that passes tests 1 to 8 and is not to be armed is filed. -/
theorem fileTests_held (hb : cueOf b = some c) (hv : fileValuesOk c p.length = true) (ha : c.options.armNow = false) :
    fileTests s b = .ok c := by
  simp only [fileTests, hc, hp, hst, ne_eq, not_true_eq_false, if_false, hb, hv, Bool.not_true, Bool.false_eq_true, ha]

theorem fileTests_notArmed {st : Status} (hb : cueOf b = some c) (hv : fileValuesOk c p.length = true)
    (ha : c.options.armNow = true) (hr : armRefusal s c none = some st) : fileTests s b = .error st := by
  simp only [fileTests, hc, hp, hst, ne_eq, not_true_eq_false, if_false, hb, hv, Bool.not_true, Bool.false_eq_true, ha,
    if_true, hr]

/-- A record that passes every test is armed where ARM_NOW says so (R5). -/
theorem fileTests_armed (hb : cueOf b = some c) (hv : fileValuesOk c p.length = true) (ha : c.options.armNow = true)
    (hr : armRefusal s c none = none) : fileTests s b = .ok (armCueRecord s c none) := by
  simp only [fileTests, hc, hp, hst, ne_eq, not_true_eq_false, if_false, hb, hv, Bool.not_true, Bool.false_eq_true, ha,
    if_true, hr]

end

/-! ### Tests 5 to 8 -/

section
variable {c : Cue} {n : Nat}

theorem fileValuesOk_rangeOut {r : Range} (hr : c.range = some r)
    (h : n ≤ r.offset ∨ r.count = 0 ∨ n < r.offset + r.count) : fileValuesOk c n = false := by
  have hfit : r.fits n = false := by
    simp only [Range.fits, Bool.and_eq_false_iff, decide_eq_false_iff_not]
    omega
  simp only [fileValuesOk, hr, hfit, Bool.false_and]

theorem fileValuesOk_notWhole {r : Range} (hr : c.range = some r) (hv : c.options.verify = true)
    (h : r.offset ≠ 0 ∨ r.count ≠ n) : fileValuesOk c n = false := by
  have hwhole : r.whole n = false := by
    simp only [Range.whole, Bool.and_eq_false_iff, decide_eq_false_iff_not]
    exact h
  simp only [fileValuesOk, hr, hv, hwhole, Bool.not_true, Bool.or_false, Bool.and_false, Bool.false_and]

theorem fileValuesOk_trigger {l : Fin 4} {e : CueEdge} {o : Nat} (hs : c.start = .trigger l e o)
    (h : o < 2 ∨ c.period ≠ 0) : fileValuesOk c n = false := by
  rcases h with h | h
  · have ho : c.start.offsetOk = false := by rw [hs]; exact decide_eq_false (Nat.not_le.mpr h)
    rw [fileValuesOk, ho, Bool.and_false, Bool.false_and]
  · have hp : periodFits c.start c.repeatCount c.period = false := by rw [hs]; exact decide_eq_false h
    rw [fileValuesOk, hp, Bool.and_false]

theorem fileValuesOk_time {d : Nat} (hs : c.start = .time d) (h : c.period < 10)
    (h' : c.repeatCount = 1 → c.period ≠ 0) : fileValuesOk c n = false := by
  have hp : periodFits c.start c.repeatCount c.period = false := by
    rw [hs]
    have h10 : decide (10 ≤ c.period) = false := decide_eq_false (Nat.not_le.mpr h)
    simp only [periodFits, h10, Bool.or_false]
    split
    · exact decide_eq_false (h' ‹_›)
    · rfl
  rw [fileValuesOk, hp, Bool.and_false]

end

/-! ### Arming -/

theorem armRefusal_invalid {s : State} {c : Cue} {filed : Nat} {new : Option Nat} (hs : c.start = .time filed)
    (hv : s.time.valid = false) : armRefusal s c new = some .timeNotSet := by
  simp only [armRefusal, hs, hv, Bool.not_false, if_true]

theorem armRefusal_past {s : State} {c : Cue} {filed : Nat} {new : Option Nat} (hs : c.start = .time filed)
    (hv : s.time.valid = true) (hd : new.getD filed ≤ s.time.device) : armRefusal s c new = some .pastDue := by
  simp only [armRefusal, hs, hv, Bool.not_true, Bool.false_eq_true, if_false, if_pos hd]

theorem armRefusal_ahead {s : State} {c : Cue} {filed : Nat} {new : Option Nat} (hs : c.start = .time filed)
    (hv : s.time.valid = true) (hd : s.time.device < new.getD filed) : armRefusal s c new = none := by
  simp only [armRefusal, hs, hv, Bool.not_true, Bool.false_eq_true, if_false, if_neg (Nat.not_le.mpr hd)]

/-! ### The obligations -/

theorem fits_fileCue {b : CueBody} (hid : b.cue.toNat < 64) (hopt : b.options.toNat < 8) :
    (Req.fileCue b).fits = true :=
  (Bool.and_eq_true _ _).mpr ⟨decide_eq_true hid, decide_eq_true hopt⟩

/-- FILE_CUE that fails a test is refused with its status. -/
theorem exec_fileCue_refused {s : State} {seq : Byte} {b : CueBody} {st : Status} (hdev : s.device = .ready)
    (hid : b.cue.toNat < 64) (hopt : b.options.toNat < 8) (h : attends s seq 0x30 = true)
    (ht : fileTests (txBegin s) b = .error st) :
    exec (.fileCue seq b) s = .next (replied (txBegin s) seq 0x30 st []) := by
  refine exec_request_says (r := .fileCue b) h (fits_fileCue hid hopt) (accepted_ready hdev) ?_ rfl
  rw [runRequest, runFileCue, ht]
  rfl

/-- Settles O19: the record of a body, and the tests of R4 in order. -/
theorem fileCueRefusals : Obligations.FileCueRefusals := by
  unfold Obligations.FileCueRefusals
  refine ⟨fun b => ⟨cueOf_isSome b, fun c hc => ?record⟩, fun seq b s hdev hid hopt h => ?tests⟩
  case record =>
    obtain ⟨lane, start, late, report, h1, h2, h3, h4, -, rfl⟩ := (cueOf_eq_some b c).mp hc
    exact ⟨fourOf_val h1, rfl, rfl, fun due hd => startOf_time (hd ▸ h2),
      fun line edge offset hs => startOf_trigger (hs ▸ h2),
      rfl, rfl, latePolicyCode_of h3, rfl, rfl, reportCode_of h4, rfl, rfl, rfl, rfl, rfl, rfl, rfl, rfl, rfl, rfl⟩
  case tests =>
    have hcue : ∀ {o}, s.cue? b.cue.toNat = o → (txBegin s).cue? b.cue.toNat = o := (txBegin_cue? s _).trans
    have hpay : ∀ {o}, s.payload? b.payload.toNat = o → (txBegin s).payload? b.payload.toNat = o :=
      (txBegin_payload? s _).trans
    have refused : ∀ {st}, fileTests (txBegin s) b = .error st → _ := exec_fileCue_refused hdev hid hopt h
    refine ⟨fun hc => refused (fileTests_inUse (by rw [txBegin_cue?]; exact hc)),
      fun hc hp => refused (fileTests_noSuch (hcue hc) (hpay hp)), fun p hc hp =>
      ⟨fun hst => refused (fileTests_wrongState (hcue hc) (hpay hp) hst), fun hst =>
      ⟨fun hb => refused (fileTests_noName (hcue hc) (hpay hp) hst hb), fun c hb => ?_⟩⟩⟩
    have bad : fileValuesOk c p.length = false → _ :=
      fun hv => refused (fileTests_badValue (hcue hc) (hpay hp) hst hb hv)
    refine ⟨fun ⟨r, hr, hout⟩ => bad (fileValuesOk_rangeOut hr hout),
      fun ⟨r, hr, hv, hw⟩ => bad (fileValuesOk_notWhole hr hv hw),
      fun ⟨l, e, o, hs, ho⟩ => bad (fileValuesOk_trigger hs ho),
      fun ⟨d, hs, hp, hr⟩ => bad (fileValuesOk_time hs hp hr), fun hv ha d hs => ?_⟩
    have notArmed : ∀ {st}, armRefusal (txBegin s) c none = some st → _ :=
      fun hr => refused (fileTests_notArmed (hcue hc) (hpay hp) hst hb hv ha hr)
    exact ⟨fun hvalid => notArmed (armRefusal_invalid hs (by rw [txBegin_time]; exact hvalid)),
      fun hvalid hd => notArmed (armRefusal_past hs (by rw [txBegin_time]; exact hvalid)
        (by rw [txBegin_time]; exact hd))⟩

/-- FILE_CUE that passes its tests files the record and is answered. -/
theorem exec_fileCue_files {s : State} {seq : Byte} {b : CueBody} {c : Cue} {p : Payload} (hdev : s.device = .ready)
    (hid : b.cue.toNat < 64) (hopt : b.options.toNat < 8) (h : attends s seq 0x30 = true)
    (ht : fileTests (txBegin s) b = .ok c) (hpay : c.payload = b.payload.toNat)
    (hp : s.payload? b.payload.toNat = some p) :
    exec (.fileCue seq b) s
      = .next (answered (txBegin s)
          (((txBegin s).setPayload b.payload.toNat { p with refs := p.refs + 1 }).setCue b.cue.toNat c) seq 0x30 .ok
          (armedBytes c)) := by
  refine exec_request_answered (r := .fileCue b) h (fits_fileCue hid hopt) (accepted_ready hdev) ?_ rfl
  rw [runRequest, runFileCue, ht]
  dsimp only
  rw [hpay, State.addRef, txBegin_payload?, hp]

/-- Settles O20: the record filed, and armed as ARM_CUE would arm it. -/
theorem fileCueFiles : Obligations.FileCueFiles := by
  unfold Obligations.FileCueFiles
  intro seq b p c s hdev hid hopt h hc hp hst hb hv a
  have hcue := (txBegin_cue? s b.cue.toNat).trans hc
  have hpay := (txBegin_payload? s b.payload.toNat).trans hp
  obtain ⟨lane, start, late, report, -, -, -, -, -, rfl⟩ := (cueOf_eq_some b c).mp hb
  refine ⟨fun ha => ?held, fun d ha hs hvalid hd => ?armed, fun l e o ha hs => ?waits⟩
  case held =>
    exact exec_fileCue_files hdev hid hopt h (fileTests_held hcue hpay hst hb hv ha) rfl hp
  case armed =>
    have hr : armRefusal (txBegin s) (cueFiled b lane start late report) none = none :=
      armRefusal_ahead hs (by rw [txBegin_time]; exact hvalid) (by rw [txBegin_time]; exact hd)
    have ht := fileTests_armed hcue hpay hst hb hv ha hr
    cases (show start = .time d from hs)
    exact exec_fileCue_files hdev hid hopt h ht rfl hp
  case waits =>
    cases (show start = .trigger l e o from hs)
    have ht := fileTests_armed hcue hpay hst hb hv ha rfl
    simp only [armCueRecord, cueFiled, txBegin_triggers] at ht
    exact exec_fileCue_files hdev hid hopt h ht rfl hp

end Sys2Proof.Machine
end

section
/-!
PROOFS. ARM_CUE (R6, R7; O21) and DISCARD_CUE (R22, R89; O23): their refusals in order, and the record or the slot that
they leave, with the payload that goes with its last cue.
-/

namespace Sys2Proof.Machine

/-! ### ARM_CUE -/

/-- ARM_CUE of a HELD cue that fails a later test is refused (R6, R7). -/
theorem exec_armCue_refused {s : State} {seq id : Byte} {new : Option (BitVec 48)} {c : Cue} {st : Status}
    (hdev : s.device = .ready) (hid : id.toNat < 64) (h : attends s seq 0x31 = true) (hc : s.cue? id.toNat = some c)
    (hst : c.state = .held) (hr : armRefusal (txBegin s) c (new.map BitVec.toNat) = some st) :
    exec (.armCue seq id new) s = .next (replied (txBegin s) seq 0x31 st []) := by
  refine exec_request_says (r := .armCue id new) h (decide_eq_true hid) (accepted_ready hdev) ?_ rfl
  simp only [runRequest, runArmCue, txBegin_cue?, hc, hst, ne_eq, not_true_eq_false, if_false, hr]
  rfl

/-- ARM_CUE of a HELD cue that passes its tests arms it (R6, R7). -/
theorem exec_armCue_arms {s : State} {seq id : Byte} {new : Option (BitVec 48)} {c : Cue}
    (hdev : s.device = .ready) (hid : id.toNat < 64) (h : attends s seq 0x31 = true) (hc : s.cue? id.toNat = some c)
    (hst : c.state = .held) (hr : armRefusal (txBegin s) c (new.map BitVec.toNat) = none) :
    exec (.armCue seq id new) s
      = .next (answered (txBegin s)
          ((txBegin s).setCue id.toNat (armCueRecord (txBegin s) c (new.map BitVec.toNat))) seq 0x31 .ok
          (armedBytes (armCueRecord (txBegin s) c (new.map BitVec.toNat)))) := by
  refine exec_request_answered (r := .armCue id new) h (decide_eq_true hid) (accepted_ready hdev) ?_ rfl
  simp only [runRequest, runArmCue, txBegin_cue?, hc, hst, ne_eq, not_true_eq_false, if_false, hr]

/-- Settles O21: the tests of R6 and R7 in order, and the record armed. -/
theorem armCueArms : Obligations.ArmCueArms := by
  unfold Obligations.ArmCueArms
  intro seq id new s hdev hid h
  refine ⟨fun hc => ?empty, fun c hc => ⟨fun hst => ?notHeld, fun filed hst hs => ?time, fun l e o hst hs => ?trigger⟩⟩
  case empty =>
    refine exec_request_says (r := .armCue id new) h (decide_eq_true hid) (accepted_ready hdev) ?_ rfl
    simp only [runRequest, runArmCue, txBegin_cue?, hc]; rfl
  case notHeld =>
    refine exec_request_says (r := .armCue id new) h (decide_eq_true hid) (accepted_ready hdev) ?_ rfl
    simp only [runRequest, runArmCue, txBegin_cue?, hc, if_pos hst]; rfl
  case time =>
    have htime : (txBegin s).time = s.time := txBegin_time s
    refine ⟨fun hv => exec_armCue_refused hdev hid h hc hst (armRefusal_invalid hs (htime ▸ hv)),
      fun hv hd => exec_armCue_refused hdev hid h hc hst (armRefusal_past hs (htime ▸ hv) (htime ▸ hd)),
      fun hv hd => ?_⟩
    have harm := exec_armCue_arms hdev hid h hc hst (new := new) (armRefusal_ahead hs (htime ▸ hv) (htime ▸ hd))
    have hrec : armCueRecord (txBegin s) c (new.map BitVec.toNat)
        = { c.toArmed ((new.map BitVec.toNat).getD filed) with
            start := .time ((new.map BitVec.toNat).getD filed) } := by
      simp only [armCueRecord, hs]
    rw [hrec] at harm
    exact harm
  case trigger =>
    refine ⟨fun hn => exec_armCue_refused hdev hid h hc hst ?_, fun hn => ?_⟩
    · simp only [armRefusal, hs, Option.isSome_map, hn, if_true]
    · subst hn
      have harm := exec_armCue_arms hdev hid h hc hst (new := none) (by simp only [armRefusal, hs]; rfl)
      have hrec : armCueRecord (txBegin s) c ((none : Option (BitVec 48)).map BitVec.toNat)
          = c.toTriggerWait s.triggers.recorded := by
        simp only [armCueRecord, hs, txBegin_triggers]
      rw [hrec] at harm
      exact harm

/-! ### A DOOMED payload that loses its last cue -/

/-- A payload that is freed is FREE. -/
theorem payload?_freePayload_self (s : State) (id : Nat) : (s.freePayload id).payload? id = none := by
  unfold State.freePayload
  cases hp : s.payload? id with
  | none => exact hp
  | some p => exact tget_tdel_self _ _

/-- Freeing a payload once or several times is the same. -/
theorem foldl_freePayload_same {id : Nat} {l : List Nat} (h : ∀ k ∈ l, k = id) (hne : l ≠ []) (s : State) :
    l.foldl State.freePayload s = s.freePayload id := by
  have hagain : ∀ u : State, u.payload? id = none → u.freePayload id = u := fun u hu => by
    simp only [State.freePayload, hu]
  have hrest : ∀ (t : List Nat) (u : State), (∀ k ∈ t, k = id) → u.payload? id = none →
      t.foldl State.freePayload u = u := by
    intro t
    induction t with
    | nil => exact fun _ _ _ => rfl
    | cons k t ih =>
      intro u ht hu
      rw [List.foldl_cons, ht k List.mem_cons_self, hagain u hu]
      exact ih u (fun j hj => ht j (List.mem_cons_of_mem _ hj)) hu
  cases l with
  | nil => exact absurd rfl hne
  | cons k t =>
    rw [List.foldl_cons, h k List.mem_cons_self]
    exact hrest t _ (fun j hj => h j (List.mem_cons_of_mem _ hj)) (payload?_freePayload_self s id)

/-- Where a DOOMED payload without a cue is all that stands to be freed, it is freed alone (R89). -/
theorem freeDoomed_one {s : State} {id : Nat} {p : Payload} (hp : s.payload? id = some p) (hst : p.state = .doomed)
    (hr : p.refs = 0) (hnone : doomedUnused (s.freePayload id) = []) : s.freeDoomed = s.freePayload id := by
  refine foldl_freePayload_same (fun k hk => ?_) (List.ne_nil_of_mem (a := id) ?_) s
  · by_contra hne
    have hk' : k ∈ doomedUnused (s.freePayload id) := by
      simp only [doomedUnused, State.freePayload, hp]
      obtain ⟨e, he, rfl⟩ := List.mem_map.mp hk
      refine List.mem_map.mpr ⟨e, ?_, rfl⟩
      rw [List.mem_filter] at he ⊢
      exact ⟨mem_tdel.mpr ⟨he.1, hne⟩, he.2⟩
    rw [hnone] at hk'
    cases hk'
  · exact List.mem_map.mpr ⟨(id, p), List.mem_filter.mpr ⟨mem_of_tget hp, by simp [hst, hr]⟩, rfl⟩

/-- The directory is not seen by the lanes. -/
theorem laneRests_freePayload (s0 s : State) (id : Nat) (l : Fin 4) :
    laneRests s0 (s.freePayload id) l = laneRests s0 s l := by
  unfold State.freePayload
  cases s.payload? id <;> rfl

/-- The port sees neither the directory nor the link. -/
theorem freePayload_queueReply (s : State) (id : Nat) (seq code : Byte) (st : Status) (res : List Byte) :
    (queueReply s seq code st res).freePayload id = queueReply (s.freePayload id) seq code st res := by
  unfold State.freePayload
  rw [show (queueReply s seq code st res).payload? id = s.payload? id from rfl]
  cases s.payload? id <;> rfl

/-- A request after which one payload is freed and nothing else is left to do is replied to from there. -/
theorem answered_freed {s0 s : State} {id : Nat} {p : Payload} (seq code : Byte) (st : Status) (res : List Byte)
    (hp : s.payload? id = some p) (hst : p.state = .doomed) (hr : p.refs = 0)
    (h : settled s0 (s.freePayload id) = true) :
    answered s0 s seq code st res = replied (s.freePayload id) seq code st res := by
  simp only [settled, goesOn, calm, Bool.and_eq_true] at h
  obtain ⟨⟨⟨hlanes, hdoomed⟩, -⟩, hport⟩ := h
  have hlanes' : fours.all (laneRests s0 (queueReply s seq code st res)) = true := by
    rw [← hlanes]
    exact congrArg fours.all (funext fun l => (laneRests_freePayload s0 s id l).symm)
  have hfree : (queueReply s seq code st res).freeDoomed = queueReply (s.freePayload id) seq code st res := by
    rw [← freePayload_queueReply]
    refine freeDoomed_one hp hst hr ?_
    rw [freePayload_queueReply]
    exact List.isEmpty_iff.mp hdoomed
  rw [answered, finished, coreTail, settleLanes_rests _ _ hlanes', hfree, resume_waits _ rfl]
  exact congrArg ended (arbitrate_rests _ hport)

/-! ### DISCARD_CUE -/

/-- Settles O23: the state of the slot, and the payload of a HELD cue. -/
theorem discardCueEmpties : Obligations.DiscardCueEmpties := by
  unfold Obligations.DiscardCueEmpties
  intro seq id s hdev hid h
  have hcue : ∀ {o}, s.cue? id.toNat = o → (txBegin s).cue? id.toNat = o := (txBegin_cue? s _).trans
  refine ⟨fun hc => ?empty, fun c hc => ⟨fun hst p hp => ?held, fun hst => ?ended, fun h1 h2 => ?other⟩⟩
  case empty =>
    refine exec_request_says (r := .discardCue id) h (decide_eq_true hid) (accepted_ready hdev) ?_ rfl
    simp only [runRequest, runDiscardCue, hcue hc]; rfl
  case held =>
    have hans : exec (.discardCue seq id) s
        = .next (answered (txBegin s)
            (((txBegin s).setPayload c.payload { p with refs := p.refs - 1 }).dropCue id.toNat) seq 0x33 .ok []) := by
      refine exec_request_answered (r := .discardCue id) h (decide_eq_true hid) (accepted_ready hdev) ?_ rfl
      simp only [runRequest, runDiscardCue, hcue hc, hst, State.dropRef, txBegin_payload?, hp]
    refine ⟨hans, fun hd hr hset => hans.trans (congrArg Host.Outcome.next ?_)⟩
    exact answered_freed _ _ _ _ (tget_tput_self _ _ _) hd (by rw [hr]) hset
  case ended =>
    refine exec_request_answered (r := .discardCue id) h (decide_eq_true hid) (accepted_ready hdev) ?_ rfl
    simp only [runRequest, runDiscardCue, hcue hc, hst]
  case other =>
    refine exec_request_says (r := .discardCue id) h (decide_eq_true hid) (accepted_ready hdev) ?_ rfl
    simp only [runRequest, runDiscardCue, hcue hc]
    rfl

end Sys2Proof.Machine
end

section
/-!
PROOFS. CANCEL_CUE (R20, R21; O22): the cue that ends at once, its lane unstaged where it was STAGED, and the release
that is cut, whose lane flushes: where that flush ends in the same event, the reply carries the counts at the cue's end.
-/

namespace Sys2Proof.Machine

/-! ### What a lane sees of the cue table -/

/-- A cue that a lane can choose or be displaced by: ARMED or PENDING (R33, R34, R36). -/
def Cue.live (c : Cue) : Bool := decide (c.state = .armed) || decide (c.state = .pending)

/-- The ARMED and PENDING cues of the table. -/
def liveCues (s : State) : List (Nat × Cue) := s.cues.filter (fun e => e.2.live)

/-- Where a predicate holds of live cues alone, its part of the table is a part of the live cues. -/
theorem filter_liveCues (s : State) {p : Nat × Cue → Bool} (h : ∀ e, p e = true → e.2.live = true) :
    (liveCues s).filter p = s.cues.filter p := by
  rw [liveCues, List.filter_filter]
  refine List.filter_congr fun e _ => ?_
  cases hp : p e with
  | false => rfl
  | true => rw [h e hp]; rfl

/-- The same for the test whether any cue satisfies it. -/
theorem any_liveCues (s : State) {p : Nat × Cue → Bool} (h : ∀ e, p e = true → e.2.live = true) :
    (liveCues s).any p = s.cues.any p := by
  rw [liveCues, List.any_filter]
  refine List.any_congr rfl fun e => ?_
  cases hp : p e with
  | false => rw [Bool.and_false]
  | true => rw [h e hp]; rfl

/-- The first candidate of a lane rests on the live cues, its settings and device time. -/
theorem candidate_congr {s t : State} (l : Fin 4) (hlive : liveCues t = liveCues s) (htime : t.time = s.time)
    (hconfig : (t.lane l).config = (s.lane l).config) : candidate t l = candidate s l := by
  have hpend : pendingQueue t l = pendingQueue s l := by
    have hp : ∀ e : Nat × Cue, (decide (e.2.state = .pending) && decide (e.2.lane = l)) = true → e.2.live = true :=
      fun e he => by simp only [Bool.and_eq_true] at he; rw [Cue.live, he.1, Bool.or_true]
    rw [pendingQueue, pendingQueue, ← filter_liveCues t hp, ← filter_liveCues s hp, hlive]
  have hdue : dueList t = dueList s := by
    have hp : ∀ e : Nat × Cue, decide (e.2.state = .armed) = true → e.2.live = true :=
      fun e he => by rw [Cue.live, he, Bool.true_or]
    rw [dueList, dueList, ← filter_liveCues t hp, ← filter_liveCues s hp, hlive]
  simp only [candidate, hpend, hdue, withinWindow, htime, hconfig]

/-- Whether a lane has anything to do rests on the live cues, the lane, its request and device time. -/
theorem laneRests_congr {s0 s t : State} (l : Fin 4) (hlive : liveCues t = liveCues s) (htime : t.time = s.time)
    (hlane : t.lane l = s.lane l) (hout : outstanding t (.lane l) = outstanding s (.lane l)) :
    laneRests s0 t l = laneRests s0 s l := by
  have hcand := candidate_congr l hlive htime (by rw [hlane])
  have heval : evaluates s0 t l = evaluates s0 s l := by
    unfold evaluates cameWithin withinWindow
    rw [htime, hlane]
    have hp : ∀ (w : Nat) (e : Nat × Cue), (decide (e.2.lane = l)
        && ((decide (e.2.state = .pending) && enteredSince s0 e)
          || (decide (e.2.state = .armed)
            && (enteredSince s0 e || (decide (e.2.due.getD 0 ≤ s.time.device + w)
              && !decide (e.2.due.getD 0 ≤ s0.time.device + w)))))) = true → e.2.live = true := fun w e he => by
      simp only [Bool.and_eq_true, Bool.or_eq_true] at he
      rw [Cue.live, Bool.or_eq_true]
      exact he.2.elim (fun h => .inr h.1) (fun h => .inl h.1)
    rw [← any_liveCues t (hp _), ← any_liveCues s (hp _), hlive]
  simp only [laneRests, flushOver, hcand, heval, hlane, hout]

/-- The entries of a table other than `a` that a put of entry `a` leaves, where neither the old nor the new entry is
looked for. -/
theorem filter_tput {α : Type} {t : List (Nat × α)} {a : Nat} {x y : α} {p : Nat × α → Bool} (hs : sortedKeys t = true)
    (hy : tget t a = some y) (hpy : p (a, y) = false) (hpx : p (a, x) = false) :
    (tput t a x).filter p = t.filter p := by
  induction t with
  | nil => cases hy
  | cons e t ih =>
    obtain ⟨k, v⟩ := e
    obtain ⟨hfirst, hrest⟩ := (sortedKeys_cons k v t).mp hs
    by_cases hk : a = k
    · subst hk
      have hv : v = y := by simpa [tget] using hy
      simp only [tput, Nat.lt_irrefl, if_false, if_true, List.filter_cons, hv, hpx, hpy,
        Bool.false_eq_true]
    · have hy' : tget t a = some y := by simpa [tget, hk] using hy
      have hlt : ¬a < k := fun hlt => by
        have := hfirst _ (mem_of_tget hy')
        exact absurd this (Nat.not_lt.mpr (Nat.le_of_lt hlt))
      simp only [tput, if_neg hlt, if_neg hk, List.filter_cons, ih hrest hy']

/-- The same where the entry is removed. -/
theorem filter_tdel {α : Type} {t : List (Nat × α)} {a : Nat} {y : α} {p : Nat × α → Bool} (hs : sortedKeys t = true)
    (hy : tget t a = some y) (hpy : p (a, y) = false) : (tdel t a).filter p = t.filter p := by
  rw [tdel, List.filter_filter]
  refine List.filter_congr fun e he => ?_
  by_cases hk : e.1 = a
  · have hv : e = (a, y) := by
      have := tget_of_mem hs he
      rw [hk, hy] at this
      exact Prod.ext hk (Option.some.inj this).symm
    rw [hv, hpy, Bool.false_and]
  · simp [hk]

/-! ### A cue that ends at once -/

/-- The end of a lane's flush and its pick do not see the reply. -/
theorem flushPick_queueReply {s : State} (l : Fin 4) (seq code : Byte) (st : Status) (res : List Byte)
    (he : s.executing = none) :
    pickFor (endFlush (queueReply s seq code st res) l) l = queueReply (pickFor (endFlush s l) l) seq code st res := by
  have hq : ∀ u : State, u.executing = none → u.link = s.link →
      queueReply u seq code st res = u.withLink (queueReply s seq code st res).link := by
    intro u hu hlink
    unfold queueReply State.withLink
    rw [hu, hlink]
  have hcore := (CoreKept.endFlush s l).trans (CoreKept.pickFor (endFlush s l) l)
  have hexec : (pickFor (endFlush s l) l).executing = none := by
    have := hcore.executing
    rw [he] at this
    exact Option.isSome_eq_false_iff.mp this |> Option.isNone_iff_eq_none.mp
  rw [hq s he rfl, endFlush_withLink, pickFor_withLink, ← hq _ hexec hcore.link]

/-- A request that is answered in an event in which one lane ends its flush and picks. -/
theorem answered_flush_pick {s0 s : State} {l : Fin 4} (seq code : Byte) (st : Status) (res : List Byte)
    (he : s.executing = none) (h : laneLeads s0 s (pickFor (endFlush s l) l) l = true) :
    answered s0 s seq code st res = concluded (queueReply (pickFor (endFlush s l) l) seq code st res) := by
  have hexec : (pickFor (endFlush s l) l).executing = none := by
    have := ((CoreKept.endFlush s l).trans (CoreKept.pickFor (endFlush s l) l)).executing
    rw [he] at this
    exact Option.isSome_eq_false_iff.mp this |> Option.isNone_iff_eq_none.mp
  have hwait : waitGoesOn (pickFor (endFlush s l) l) = true := by simp only [waitGoesOn, hexec]
  have hlead : laneLeads s0 (queueReply s seq code st res)
      (pickFor (endFlush (queueReply s seq code st res) l) l) l = true := by
    rw [flushPick_queueReply l _ _ _ _ he, ← h]
    simp only [laneLeads, goesOn, goesOnStaged, hwait]
    rfl
  rw [answered, finished, coreTail_flush_pick _ _ l hlead, flushPick_queueReply l _ _ _ _ he, concluded]

/-! ### A release that is cut -/

/-- The lane of a release that is cut, with its cue and its release kept to be reported (R49). -/
def Lane.cutShown (x : Lane) (cause : CutCause) : Lane :=
  { x with
    state := .flushing, buffer := [], verify := none, holdTimer := none, slotWaiting := false, slotIn := 0,
    cutCause := some cause, abortDue := if x.pins.valid then true else x.abortDue,
    pins := if x.pins.valid then x.pins else { Pins.idle with abort := true } }

theorem Lane.afterCut_eq {x : Lane} {cause : CutCause} (h : x.state = .emitting) (hr : cause ≠ .reset) :
    x.afterCut cause = x.cutShown cause := by
  rw [Lane.afterCut, if_pos h, if_neg hr, if_neg hr]
  unfold Lane.toFlushing Lane.showAbort Lane.cutShown
  cases x.pins.valid <;> simp [abortPins]

/-- A cut but by soft reset reaches an EMITTING lane (R48, R49). -/
theorem cutLane_eq {s : State} {l : Fin 4} {cause : CutCause} (h : (s.lane l).state = .emitting) (hr : cause ≠ .reset) :
    cutLane s l cause = giveUpRequest (s.setLane l ((s.lane l).cutShown cause)) (.lane l) := by
  rw [← Lane.afterCut_eq h hr, Lane.afterCut, cutLane]
  dsimp only
  rw [if_pos h, if_pos h]

/-- It reaches no other lane. -/
theorem cutLane_rest {s : State} {l : Fin 4} {cause : CutCause} (h : (s.lane l).state ≠ .emitting) :
    cutLane s l cause = s := by
  rw [cutLane, if_neg h]

/-- A lane whose flush ends and that then rests settles so. -/
theorem settleLane_endFlush {s0 s : State} {l : Fin 4} (hf : flushOver s l = true)
    (hr : laneRests s0 (endFlush s l) l = true) : settleLane s0 s l = endFlush s l := by
  have hover : flushOver (endFlush s l) l = false := by
    simp only [flushOver, endFlush_lane s l hf, Lane.toIdle]
    rfl
  have hagain : endFlush (endFlush s l) l = endFlush s l := by
    rw [endFlush, hover, if_neg Bool.false_ne_true]
  have hset : settleLane s0 s l = settleLane s0 (endFlush s l) l := by rw [settleLane, settleLane, hagain]
  rw [hset, settleLane_rests s0 _ l hr]

/-- The other lanes keep their requests as a flush ends. -/
theorem endFlush_other {s : State} {l m : Fin 4} (hm : m ≠ l) : (endFlush s l).lane m = s.lane m := by
  unfold endFlush
  split
  · rw [State.lane, (CuesOnly.reportCut _ _).lanes]
    exact quad_get_set_ne _ _ _ _ hm
  · rfl

theorem endFlush_mc (s : State) (l : Fin 4) : (endFlush s l).mc = s.mc := by
  unfold endFlush
  split
  · exact (CuesOnly.reportCut _ _).mc
  · rfl

/-- A released occurrence whose cue is to be cancelled ends the cue (R15, R21). -/
theorem endReleased_cancel {s : State} {id : Nat} {c : Cue} (hcut : c.cut = .cancel) (r : OccResult) (late cf : Bool)
    (n : Nat) :
    let c1 := c.recordReleased r late cf n
    let s1 := if c1.reports then
        s.raise (.cueOccurrence id r late cf n ((c.started.map StartReport.lateness).getD 0) c1.used) else s
    endReleased s id c r late cf n = endCue (noteCancelled s1 id c1) id c1 .cancelled := by
  simp only [endReleased, hcut]

/-- The end of a cue leaves the executing request alone. -/
theorem endCue_executing (s : State) (id : Nat) (c : Cue) (r : EndReason) :
    (endCue s id c r).executing = s.executing := by
  unfold endCue State.dropRef
  dsimp only
  split <;> split <;> rfl

/-- The table after the end of a cue. -/
theorem endCue_cues (s : State) (id : Nat) (c : Cue) (r : EndReason) :
    (endCue s id c r).cues = if c.options.autoDiscard then tdel s.cues id else tput s.cues id (c.toEnded r) := by
  unfold endCue State.dropRef
  dsimp only
  split <;> split <;> rfl

/-- A request to cancel that waits for a cue takes its counts. -/
theorem noteCancelled_waits {s : State} {seq code : Byte} {id : Nat} (c : Cue)
    (he : s.executing = some { seq := seq, code := code, wait := .cancel id none }) :
    noteCancelled s id c
      = s.busy (some { seq := seq, code := code, wait := .cancel id (some (c.used, c.skipped)) }) := by
  simp only [noteCancelled, he, if_true]
  rfl

/-- The end of a flush whose cut is a CANCEL: the waiting request has its counts, and the table has lost no cue but
one that was RELEASING. -/
theorem endFlush_cancel {s : State} {l : Fin 4} {h : HeldCue} {c : Cue} {seq code : Byte} {r : OccResult}
    (hf : flushOver s l = true) (hh : (s.lane l).held = some h) (hc : s.cue? h.cue = some c) (hcut : c.cut = .cancel)
    (hcause : (s.lane l).cutCause.bind CutCause.result = some r)
    (he : s.executing = some { seq := seq, code := code, wait := .cancel h.cue none }) :
    (endFlush s l).executing
        = some { seq := seq, code := code, wait := .cancel h.cue (some (countUp c c.used 1, c.skipped)) }
      ∧ ∃ d : Cue, d.state = .ended
        ∧ ((endFlush s l).cues = tdel s.cues h.cue ∨ (endFlush s l).cues = tput s.cues h.cue d) := by
  have hc' : (s.setLane l (s.lane l).toIdle).cue? h.cue = some c := hc
  have hend : endFlush s l
      = endReleased (s.setLane l (s.lane l).toIdle) h.cue c r (s.lane l).lateKept false (s.lane l).emitted := by
    rw [endFlush, if_pos hf, reportCut]
    simp only [hh, hc', hcause]
  rw [hend, endReleased_cancel hcut]
  generalize hs1 : (if (c.recordReleased r (s.lane l).lateKept false (s.lane l).emitted).reports = true then
    State.raise (s.setLane l (s.lane l).toIdle) _ else s.setLane l (s.lane l).toIdle) = s1
  have he1 : s1.executing = some { seq := seq, code := code, wait := .cancel h.cue none } := by
    rw [← hs1]; split <;> exact he
  have hcues1 : s1.cues = s.cues := by rw [← hs1]; split <;> rfl
  rw [noteCancelled_waits _ he1]
  refine ⟨endCue_executing _ _ _ _, 
    (c.recordReleased r (s.lane l).lateKept false (s.lane l).emitted).toEnded .cancelled, rfl, ?_⟩
  rw [endCue_cues]
  split
  · exact .inl (congrArg (tdel · _) hcues1)
  · exact .inr (congrArg (fun t => tput t _ _) hcues1)

/-- A CANCEL_CUE whose cut ends its flush in the same event is answered with the counts at the cue's end (R21). -/
theorem finished_cancel {s0 s : State} {l : Fin 4} {h : HeldCue} {c : Cue} {seq code : Byte} {r : OccResult}
    (hf : flushOver s l = true) (hh : (s.lane l).held = some h) (hc : s.cue? h.cue = some c) (hcut : c.cut = .cancel)
    (hst : c.state = .releasing) (hcause : (s.lane l).cutCause.bind CutCause.result = some r)
    (he : s.executing = some { seq := seq, code := code, wait := .cancel h.cue none })
    (hs : sortedKeys s.cues = true) (hsync : s.link.pendingSync = none) (hcalm : calm s0 (endFlush s l) = true) :
    finished s0 s
      = concluded (queueReply (endFlush s l) seq code .ok (u16 (countUp c c.used 1) ++ u16 c.skipped)) := by
  obtain ⟨hexec, d, hd, hcues⟩ := endFlush_cancel hf hh hc hcut hcause he
  simp only [calm, Bool.and_eq_true, List.all_eq_true] at hcalm
  obtain ⟨hrests, hdoomed⟩ := hcalm
  have hrest : ∀ m, laneRests s0 (endFlush s l) m = true := fun m =>
    hrests m (by match m with | 0 | 1 | 2 | 3 => simp [fours])
  have hlive : liveCues (endFlush s l) = liveCues s := by
    have hcl : c.live = false := by rw [Cue.live, hst]; rfl
    have hdl : d.live = false := by rw [Cue.live, hd]; rfl
    unfold liveCues
    rcases hcues with hcues | hcues
    · rw [hcues]; exact filter_tdel hs hc hcl
    · rw [hcues]; exact filter_tput hs hc hcl hdl
  have hsettle := settleLane_endFlush (s0 := s0) hf (hrest l)
  have hothers : ∀ t, (∀ m, m ≠ l → laneRests s0 t m = true) → othersRest s0 t l = true := fun t ht => by
    rw [othersRest, List.all_eq_true]
    intro m _
    by_cases hm : m = l
    · rw [decide_eq_true hm]; rfl
    · rw [ht m hm, Bool.or_true]
  have hlanes : settleLanes s0 s = endFlush s l := by
    rw [settleLanes_one s0 s l (hothers s fun m hm => ?_) (by rw [hsettle]; exact hothers _ fun m _ => hrest m), hsettle]
    rw [← hrest m]
    refine (laneRests_congr m hlive (CoreKept.endFlush s l).time (endFlush_other hm) ?_).symm
    simp only [outstanding, inFlight, endFlush_mc]
  have hresume : resume (endFlush s l)
      = queueReply (endFlush s l) seq code .ok (u16 (countUp c c.used 1) ++ u16 c.skipped) := by
    rw [← endExecution_eq _ _ _ _ _ (by rw [(CoreKept.endFlush s l).link]; exact hsync)]
    simp only [resume, hexec]
  rw [finished, coreTail, hlanes, freeDoomed_none _ hdoomed, hresume, concluded]

/-! ### The obligation -/

/-- CANCEL_CUE of a cue that is not RELEASING ends it and is answered (R20). -/
theorem exec_cancelCue_ends {s t : State} {seq id : Byte} {c : Cue} (hdev : s.device = .ready) (hid : id.toNat < 64)
    (h : attends s seq 0x32 = true) (ht : CoreKept (txBegin s) t)
    (hrun : runCancelCue (txBegin s) id = (endCue t id.toNat c .cancelled, .did .ok (u16 c.used ++ u16 c.skipped))) :
    exec (.cancelCue seq id) s
      = .next (answered (txBegin s) (endCue t id.toNat c .cancelled) seq 0x32 .ok (u16 c.used ++ u16 c.skipped)) :=
  exec_request_answered (r := .cancelCue id) h (decide_eq_true hid) (accepted_ready hdev) hrun
    (ht.trans (CoreKept.endCue _ _ _ _)).link

/-- CANCEL_CUE of a RELEASING cue cuts its lane and waits (R21). -/
theorem exec_cancelCue_cuts {s : State} {seq id : Byte} {c : Cue} (hdev : s.device = .ready) (hid : id.toNat < 64)
    (h : attends s seq 0x32 = true) (hc : s.cue? id.toNat = some c) (hst : c.state = .releasing) :
    exec (.cancelCue seq id) s
      = .next (finished (txBegin s)
          ((cutLane ((txBegin s).setCue id.toNat { c with cut := .cancel }) c.lane .cancel).busy
            (some { seq := seq, code := 0x32, wait := .cancel id.toNat none }))) := by
  refine exec_request_waits (r := .cancelCue id) h (decide_eq_true hid) (accepted_ready hdev) ?_
    (CoreKept.cutLane ((txBegin s).setCue id.toNat { c with cut := .cancel }) _ _).link
  simp only [runRequest, runCancelCue, txBegin_cue?, hc, hst]

/-- Settles O22: the state of the cue, and the end of the flush where its release is cut. -/
theorem cancelCue : Obligations.CancelCue := by
  unfold Obligations.CancelCue
  refine ⟨fun seq id s hdev hid h => ⟨fun hc => ?empty, fun c hc =>
    ⟨fun hst => ?ended, fun hst => ?atOnce, fun hst => ?staged, fun hst _ hlead => ?stagedPick⟩⟩,
    fun seq id c s hdev hid h hc hst hem => ?_, fun seq id c s hdev hid h hc hst hem => ?flushing⟩
  case empty =>
    refine exec_request_says (r := .cancelCue id) h (decide_eq_true hid) (accepted_ready hdev) ?_ rfl
    simp only [runRequest, runCancelCue, txBegin_cue?, hc]; rfl
  case ended =>
    refine exec_request_says (r := .cancelCue id) h (decide_eq_true hid) (accepted_ready hdev) ?_ rfl
    simp only [runRequest, runCancelCue, txBegin_cue?, hc, hst]; rfl
  case atOnce =>
    refine exec_cancelCue_ends hdev hid h (.refl _) ?_
    simp only [runCancelCue, txBegin_cue?, hc]
    rcases hst with hst | hst | hst | hst <;> simp only [hst]
  case staged =>
    refine exec_cancelCue_ends hdev hid h (.unstage _ _) ?_
    simp only [runCancelCue, txBegin_cue?, hc, hst]
  case stagedPick =>
    obtain ⟨-, -, -, -, hexec, -⟩ := (attends_iff _ _ _).mp h
    have hans := exec_cancelCue_ends (c := c) hdev hid h (.unstage (txBegin s) c.lane)
      (by simp only [runCancelCue, txBegin_cue?, hc, hst])
    refine hans.trans (congrArg Host.Outcome.next (answered_flush_pick _ _ _ _ ?_ hlead))
    rw [endCue_executing, (PortOnly.executing (unstage_order _ _))]
    exact (txBegin_executing s).trans hexec
  have hlane : ((txBegin s).setCue id.toNat { c with cut := .cancel }).lane c.lane = s.lane c.lane := txBegin_lane s _
  have hcut := exec_cancelCue_cuts hdev hid h hc hst
  rw [cutLane_eq (by rw [hlane]; exact hem) (by decide : CutCause.cancel ≠ .reset), hlane] at hcut
  refine ⟨hcut, fun x hx hxid hs hout hcalm => hcut.trans (congrArg Host.Outcome.next ?flushed)⟩
  case flushed =>
    obtain ⟨-, -, -, -, -, hsync, -, -⟩ := (attends_iff _ _ _).mp h
    have hport := PortOnly.giveUpRequest (((txBegin s).setCue id.toNat { c with cut := .cancel }).setLane c.lane
      ((s.lane c.lane).cutShown .cancel)) (.lane c.lane)
    have htlane := (lane_congr hport.lanes c.lane).trans (quad_get_set_self _ _ _)
    refine finished_cancel (l := c.lane) (h := x) (c := { c with cut := .cancel }) (r := .cutCancel)
      ((Bool.and_eq_true _ _).mpr ⟨decide_eq_true (congrArg Lane.state htlane), congrArg Bool.not hout⟩)
      ((congrArg Lane.held htlane).trans hx) ?cue rfl hst
      (congrArg (fun y => y.cutCause.bind CutCause.result) htlane) (by rw [hxid]; rfl) ?sorted ?sync hcalm
    case cue =>
      rw [hxid]
      exact (cue_congr hport.cues _).trans (tget_tput_self _ _ _)
    case sorted =>
      refine (congrArg sortedKeys hport.cues).trans (sortedKeys_tput _ _ _ ?_)
      rw [txBegin_cues]
      exact hs
    case sync => exact (congrArg Link.pendingSync hport.core.link).trans ((txBegin_pendingSync s).trans hsync)
  case flushing =>
    refine (exec_cancelCue_cuts hdev hid h hc hst).trans ?_
    rw [cutLane_rest (s := (txBegin s).setCue id.toNat { c with cut := .cancel })
      (by show ((txBegin s).lane c.lane).state ≠ _; rw [txBegin_lane]; exact hem)]
    rfl

end Sys2Proof.Machine
end

section
/-!
PROOFS. STOP_ALL (R24; O24). After its orders no cue can be chosen and no lane holds a staged cue, so that the event
ends in the lanes with the ends of the flushes alone; each of those brings its cue to HELD or ends it, and is counted by
the request that waits.
-/

namespace Sys2Proof.Machine

/-! ### The orders -/

/-- A lane at rest is left by STOP_ALL's order as it is. -/
theorem stopLane_rest {s : State} {l : Fin 4} (h : (s.lane l).state.atRest = true) : stopLane s l = s := by
  have hu : unstage s l = s := unstage_rest (by
    cases hs : (s.lane l).state with
    | stopped | idle | emitting | flushing => rfl
    | staging | primed => rw [hs] at h; cases h)
  rw [stopLane, hu]
  exact cutLane_rest fun hs => by rw [hs] at h; cases h

/-- Where every lane is at rest, the orders change nothing. -/
theorem stopLanes_rest {s : State} (h : lanesAtRest s = true) : fours.foldl stopLane s = s := by
  have hrest : ∀ l : Fin 4, stopLane s l = s := fun l => by
    rw [lanesAtRest, List.all_eq_true] at h
    refine stopLane_rest (h _ ?_)
    rw [State.lane]
    match l with
    | 0 | 1 | 2 | 3 => simp [Quad.toList, Quad.get]
  simp only [fours, List.foldl_cons, List.foldl_nil, hrest]

/-- The part with every cue as STOP_ALL leaves it. -/
def stopCues (s : State) : State := { s with cues := s.cues.map (fun e => (e.1, e.2.stopped)) }

/-- The cues that STOP_ALL moves at once. -/
def stopCount (s : State) : Nat := s.cues.countP (fun e => e.2.stopsAtOnce)

/-- STOP_ALL gives its orders and waits (R24). -/
theorem exec_stopAll {s : State} {seq : Byte} (hdev : s.device = .ready) (h : attends s seq 0x36 = true) :
    exec (.stopAll seq) s
      = .next (finished (txBegin s)
          ((fours.foldl stopLane (stopCues (txBegin s))).busy
            (some { seq := seq, code := 0x36, wait := .stopAll (stopCount (txBegin s)) 0 }))) :=
  exec_request_waits (r := .stopAll) h rfl (accepted_ready hdev) rfl
    (CoreKept.foldl stopLane CoreKept.stopLane fours (stopCues (txBegin s))).link

/-- An execution that has come to its end in a calm event. -/
theorem finished_stopped {s0 s : State} {seq code : Byte} {held stopped : Nat} (hcalm : calm s0 s = true)
    (hrest : lanesAtRest s = true) (hsync : s.link.pendingSync = none)
    (he : s.executing = some { seq := seq, code := code, wait := .stopAll held stopped }) :
    finished s0 s = concluded (queueReply s seq code .ok (u8 held ++ u8 stopped)) := by
  rw [finished, coreTail_calm _ _ hcalm, concluded, ← endExecution_eq _ _ _ _ _ hsync]
  simp only [resume, he, hrest, if_true]

/-! ### The ends of the flushes -/

/-- A released occurrence whose cue is to be stopped brings the cue to HELD or ends it (R15, R24). -/
theorem endReleased_stop {s : State} {id : Nat} {c : Cue} (hcut : c.cut = .stop) (r : OccResult) (late cf : Bool)
    (n : Nat) :
    let c1 := c.recordReleased r late cf n
    let s1 := if c1.reports then
        s.raise (.cueOccurrence id r late cf n ((c.started.map StartReport.lateness).getD 0) c1.used) else s
    endReleased s id c r late cf n
      = if c1.spent then endCue (noteStopped s1 true) id c1 .stopped
        else (noteStopped s1 false).setCue id c1.toHeld := by
  simp only [endReleased, hcut]

/-- A STOP_ALL executes. -/
def stopExecutes (seq code : Byte) (s : State) : Prop :=
  ∃ held stopped, s.executing = some { seq := seq, code := code, wait := .stopAll held stopped }

theorem noteStopped_executes {s : State} {seq code : Byte} (b : Bool) (h : stopExecutes seq code s) :
    stopExecutes seq code (noteStopped s b) := by
  obtain ⟨held, stopped, he⟩ := h
  simp only [noteStopped, he]
  cases b
  · exact ⟨held + 1, stopped, rfl⟩
  · exact ⟨held, stopped + 1, rfl⟩

/-- What such an end leaves: STOP_ALL executes on, and of the table one cue has changed, which no lane can choose. -/
theorem endReleased_stop_leaves {s : State} {id : Nat} {c : Cue} {seq code : Byte} (hcut : c.cut = .stop)
    (h : stopExecutes seq code s) (r : OccResult) (late cf : Bool) (n : Nat) :
    stopExecutes seq code (endReleased s id c r late cf n)
      ∧ ∃ d : Cue, d.live = false ∧ ((endReleased s id c r late cf n).cues = tdel s.cues id
          ∨ (endReleased s id c r late cf n).cues = tput s.cues id d) := by
  rw [endReleased_stop hcut]
  generalize hs1 : (if (c.recordReleased r late cf n).reports = true then State.raise s _ else s) = s1
  have h1 : stopExecutes seq code s1 := by rw [← hs1]; split <;> exact h
  have hcues : ∀ b, (noteStopped s1 b).cues = s.cues := fun b => by
    rw [(NotesOnly.noteStopped s1 b).cues, ← hs1]; split <;> rfl
  split
  · obtain ⟨held, stopped, he⟩ := noteStopped_executes true h1
    refine ⟨⟨held, stopped, (endCue_executing _ _ _ _).trans he⟩, (c.recordReleased r late cf n).toEnded .stopped, rfl, ?_⟩
    rw [endCue_cues, hcues]
    split
    · exact .inl rfl
    · exact .inr rfl
  · refine ⟨noteStopped_executes false h1, (c.recordReleased r late cf n).toHeld, rfl, .inr ?_⟩
    rw [State.setCue_cues, hcues]

/-- A lane that ends its flush, or has none, and then has no cue to give back or to pick, settles so. -/
theorem settleLane_quiet (s0 : State) {s : State} {l : Fin 4} (hst : ((endFlush s l).lane l).state.holdsStaged = false)
    (hc : candidate (endFlush s l) l = none) : settleLane s0 s l = endFlush s l := by
  have hrestage : restage s0 (endFlush s l) l = endFlush s l := by
    rw [restage, hst, Bool.false_and, if_neg Bool.false_ne_true]
  have hagain : endFlush (endFlush s l) l = endFlush s l := by
    by_cases hf : flushOver s l = true
    · have hover : flushOver (endFlush s l) l = false := by
        simp only [flushOver, endFlush_lane s l hf, Lane.toIdle]
        rfl
      rw [endFlush.eq_def (endFlush s l), hover, if_neg Bool.false_ne_true]
    · have hsame : endFlush s l = s := by rw [endFlush, if_neg hf]
      rw [hsame, hsame]
  rw [settleLane, hrestage, hagain, pickFor, hc]
  split <;> rfl

/-- The part while its lanes come to rest for a STOP_ALL: no cue can be chosen, no lane holds a staged cue, and the cue
of each lane that flushes is to be stopped. -/
structure Stopping (seq code : Byte) (s : State) : Prop where
  executes : stopExecutes seq code s
  quiet : ∀ e ∈ s.cues, e.2.live = false
  unstaged : ∀ l, (s.lane l).state.holdsStaged = false
  held : ∀ l h, (s.lane l).held = some h → ∃ c, s.cue? h.cue = some c ∧ c.lane = l ∧ c.cut = .stop

namespace Stopping

variable {seq code : Byte} {s : State}

/-- No lane has a candidate. -/
theorem candidate_none (hs : Stopping seq code s) (l : Fin 4) : candidate s l = none := by
  cases hc : candidate s l with
  | none => rfl
  | some e =>
    obtain ⟨hmem, -, hst⟩ := candidate_spec hc
    have hq := hs.quiet e hmem
    rcases hst with hst | hst <;> simp [Cue.live, hst] at hq

/-- The lanes, the cue that left its lane aside, as a flush ends. -/
theorem ofLeaves {t : State} {l : Fin 4} {id : Nat} {c : Cue} (hs : Stopping seq code s)
    (hlanes : t.lanes = s.lanes.set l (s.lane l).toIdle) (he : stopExecutes seq code t)
    (hc : s.cue? id = some c) (hl : c.lane = l)
    (ht : t.cues = s.cues ∨ ∃ d : Cue, d.live = false ∧ (t.cues = tdel s.cues id ∨ t.cues = tput s.cues id d)) :
    Stopping seq code t := by
  have hself : t.lane l = (s.lane l).toIdle := by rw [State.lane, hlanes, quad_get_set_self]
  have hother : ∀ m, m ≠ l → t.lane m = s.lane m := fun m hm => by
    rw [State.lane, hlanes, quad_get_set_ne _ _ _ _ hm, State.lane]
  refine ⟨he, fun e hmem => ?quiet, fun m => ?unstaged, fun m h hh => ?held⟩
  case quiet =>
    rcases ht with ht | ⟨d, hd, ht | ht⟩ <;> rw [ht] at hmem
    · exact hs.quiet e hmem
    · exact hs.quiet e (mem_tdel.mp hmem).1
    · rcases mem_tput _ _ _ _ hmem with rfl | hmem
      · exact hd
      · exact hs.quiet e hmem
  case unstaged =>
    by_cases hm : m = l
    · rw [hm, hself]; rfl
    · rw [hother m hm]; exact hs.unstaged m
  case held =>
    by_cases hm : m = l
    · rw [hm, hself] at hh; cases hh
    · rw [hother m hm] at hh
      obtain ⟨x, hx, hxl, hcut⟩ := hs.held m h hh
      have hne : h.cue ≠ id := fun e => by
        rw [e, hc] at hx
        cases hx
        exact hm (hxl.symm.trans hl)
      refine ⟨x, ?_, hxl, hcut⟩
      rw [State.cue?] at hx ⊢
      rcases ht with ht | ⟨d, -, ht | ht⟩ <;> rw [ht]
      · exact hx
      · rw [tget_tdel_ne _ _ _ hne]; exact hx
      · rw [tget_tput_ne _ _ _ _ hne]; exact hx

/-- The lanes as a lane that holds no cue ends its flush. -/
theorem toIdle (hs : Stopping seq code s) (l : Fin 4) : Stopping seq code (s.setLane l (s.lane l).toIdle) := by
  have hlane : ∀ m, (s.setLane l (s.lane l).toIdle).lane m = if m = l then (s.lane l).toIdle else s.lane m := fun m => by
    by_cases hm : m = l
    · rw [if_pos hm, hm]; exact quad_get_set_self _ _ _
    · rw [if_neg hm]; exact quad_get_set_ne _ _ _ _ hm
  refine ⟨hs.executes, hs.quiet, fun m => ?_, fun m h hh => ?_⟩
  · rw [hlane]
    split
    · rfl
    · exact hs.unstaged m
  · rw [hlane] at hh
    split at hh
    · cases hh
    · exact hs.held m h hh

/-- The end of a flush keeps the part so. -/
theorem endFlush (hs : Stopping seq code s) (l : Fin 4) : Stopping seq code (endFlush s l) := by
  unfold Machine.endFlush
  split
  next hf =>
    unfold reportCut
    cases hh : (s.lane l).held with
    | none => exact hs.toIdle l
    | some h =>
      obtain ⟨c, hc, hl, hcut⟩ := hs.held l h hh
      have hc' : (s.setLane l (s.lane l).toIdle).cue? h.cue = some c := hc
      simp only [hc']
      cases (s.lane l).cutCause.bind CutCause.result with
      | none => exact hs.toIdle l
      | some r =>
        obtain ⟨hex, d, hd, ht⟩ := endReleased_stop_leaves (id := h.cue) hcut (hs.toIdle l).executes r
          (s.lane l).lateKept false (s.lane l).emitted
        exact hs.ofLeaves (CuesOnly.endReleased _ _ _ _ _ _ _).lanes hex hc hl (.inr ⟨d, hd, ht⟩)
  · exact hs

/-- The lane then has no more to do. -/
theorem settleLane_eq (hs : Stopping seq code s) (s0 : State) (l : Fin 4) : settleLane s0 s l = Machine.endFlush s l :=
  settleLane_quiet s0 ((hs.endFlush l).unstaged l) ((hs.endFlush l).candidate_none l)

/-- The lanes settle by the ends of the flushes alone. -/
theorem settleLanes_eq (hs : Stopping seq code s) (s0 : State) (ls : List (Fin 4)) :
    ls.foldl (settleLane s0) s = ls.foldl Machine.endFlush s ∧ Stopping seq code (ls.foldl Machine.endFlush s) := by
  induction ls generalizing s with
  | nil => exact ⟨rfl, hs⟩
  | cons l ls ih =>
    rw [List.foldl_cons, List.foldl_cons, hs.settleLane_eq s0 l]
    exact ih (hs.endFlush l)

end Stopping

/-! ### The orders reach every lane -/

/-- No cue can be chosen after STOP_ALL's orders. -/
theorem stopped_live (c : Cue) : c.stopped.live = false := by
  unfold Cue.stopped
  split
  · rfl
  next h =>
    have hlive : c.live = false := by
      simp only [Cue.stopsAtOnce, Bool.or_eq_true, decide_eq_true_eq, not_or] at h
      obtain ⟨⟨⟨ha, -⟩, hp⟩, -⟩ := h
      simp [Cue.live, ha, hp]
    split <;> exact hlive

/-- A lane holds no staged cue after them. -/
theorem afterStop_unstaged (x : Lane) : x.afterStop.state.holdsStaged = false := by
  have hcut : ∀ y : Lane, y.state.holdsStaged = false → (y.afterCut .stop).state.holdsStaged = false := fun y hy => by
    unfold Lane.afterCut
    split
    · rfl
    · exact hy
  refine hcut _ ?_
  unfold Lane.afterUnstage
  split
  · rfl
  next h => simpa using h

/-- A lane that holds a cue after them held it as EMITTING or FLUSHING, or at rest. -/
theorem afterStop_held {x : Lane} {h : HeldCue} (hh : x.afterStop.held = some h) :
    x.held = some h ∧ x.state.holdsStaged = false := by
  by_cases hst : x.state.holdsStaged = true
  · have : x.afterStop = x.toFlushing none := by
      rw [Lane.afterStop, Lane.afterUnstage, if_pos hst, Lane.afterCut, if_neg (by simp [Lane.toFlushing])]
    rw [this] at hh
    cases hh
  · refine ⟨?_, by simpa using hst⟩
    rw [Lane.afterStop, Lane.afterUnstage, if_neg hst] at hh
    unfold Lane.afterCut at hh
    split at hh
    · exact hh
    · exact hh

/-- The part as STOP_ALL's orders leave it, where the lanes hold what their states say. -/
theorem stopping_of_laneInvariant {s t : State} {seq code : Byte} {held : Nat} (hs : laneInvariant s)
    (hcues : t.cues = s.cues.map (fun e => (e.1, e.2.stopped))) (hlanes : t.lanes = s.lanes.map Lane.afterStop)
    (he : t.executing = some { seq := seq, code := code, wait := .stopAll held 0 }) : Stopping seq code t := by
  have hlane : ∀ l, t.lane l = (s.lane l).afterStop := fun l => by
    rw [State.lane, hlanes, quad_get_map, State.lane]
  refine ⟨⟨held, 0, he⟩, fun e hmem => ?quiet, fun l => by rw [hlane]; exact afterStop_unstaged _, fun l h hh => ?held⟩
  case quiet =>
    rw [hcues] at hmem
    obtain ⟨f, -, rfl⟩ := List.mem_map.mp hmem
    exact stopped_live f.2
  case held =>
    rw [hlane] at hh
    obtain ⟨hh, hst⟩ := afterStop_held hh
    obtain ⟨-, hrest, -, hem, hfl, -⟩ := hs.1 l
    have hcue : holdsCue s l h .releasing := by
      cases hstate : (s.lane l).state with
      | emitting =>
        obtain ⟨k, hk, hcue⟩ := hem hstate
        rw [hh] at hk
        cases hk
        exact hcue
      | flushing => exact (hfl hstate h hh).1
      | idle | stopped => rw [hrest (by rw [hstate]; rfl)] at hh; cases hh
      | staging | primed => rw [hstate] at hst; cases hst
    obtain ⟨c, hc, hcl, hcst⟩ := hcue
    refine ⟨c.stopped, ?_, ?_, ?_⟩
    · rw [State.cue?, hcues, tget_map _ (fun e : Nat × Cue => (e.1, e.2.stopped)) (fun _ => rfl)]
      rw [State.cue?] at hc
      rw [hc]
      rfl
    all_goals
      have hstopped : c.stopped = { c with cut := .stop } := by
        rw [Cue.stopped, if_neg (by simp [Cue.stopsAtOnce, hcst]), if_pos hcst]
      rw [hstopped]
    exact hcl

/-- The event after STOP_ALL's orders ends the flushes that have nothing outstanding, frees the DOOMED payloads, and
then ends the request where every lane is at rest (R24). -/
theorem finished_stopping {s0 t : State} {seq code : Byte} (ht : Stopping seq code t)
    (hsync : t.link.pendingSync = none) :
    ∃ held stopped,
      (fours.foldl endFlush t).freeDoomed.executing
          = some { seq := seq, code := code, wait := .stopAll held stopped }
        ∧ (lanesAtRest (fours.foldl endFlush t).freeDoomed = true →
            finished s0 t = concluded (queueReply (fours.foldl endFlush t).freeDoomed seq code .ok
              (u8 held ++ u8 stopped)))
        ∧ (lanesAtRest (fours.foldl endFlush t).freeDoomed = false →
            finished s0 t = concluded (fours.foldl endFlush t).freeDoomed) := by
  obtain ⟨hfold, hstop⟩ := ht.settleLanes_eq s0 fours
  obtain ⟨held, stopped, he⟩ := hstop.executes
  have he' := (StoreOnly.freeDoomed (fours.foldl endFlush t)).executing.trans he
  have hlink : (fours.foldl endFlush t).freeDoomed.link.pendingSync = none := by
    rw [freeDoomed_link, (CoreKept.foldl endFlush CoreKept.endFlush fours t).link]
    exact hsync
  refine ⟨held, stopped, he', fun hrest => ?_, fun hrest => ?_⟩
  · rw [finished, coreTail, settleLanes, hfold, concluded, ← endExecution_eq _ _ _ _ _ hlink]
    simp only [resume, he', hrest, if_true]
  · rw [finished, coreTail, settleLanes, hfold, concluded]
    simp only [resume, he', hrest, Bool.false_eq_true, if_false]

/-! ### The obligation -/

/-- The cues that STOP_ALL moves at once, named one by one. -/
theorem stopsAtOnce_iff (c : Cue) :
    c.stopsAtOnce = true ↔ c.state = .armed ∨ c.state = .triggerWait ∨ c.state = .pending ∨ c.state = .staged := by
  simp only [Cue.stopsAtOnce, Bool.or_eq_true, decide_eq_true_eq]
  tauto

/-- Settles O24: the orders, and the ends of the flushes after them. -/
theorem stopAllStops : Obligations.StopAllStops := by
  unfold Obligations.StopAllStops
  intro seq s hdev h a atOnce b n
  obtain ⟨-, -, -, -, -, hsync, -, -⟩ := (attends_iff _ _ _).mp h
  have hsync' : (txBegin s).link.pendingSync = none := (txBegin_pendingSync s).trans hsync
  have hb : b = stopCues (txBegin s) := by
    rw [stopCues, txBegin_cues]
    refine congrArg (fun cs => ({ txBegin s with cues := cs } : State)) (List.map_congr_left fun e _ => ?_)
    refine congrArg (Prod.mk e.1) ?_
    rw [Cue.stopped]
    by_cases hat : atOnce e.2
    · exact (if_pos hat).trans (if_pos ((stopsAtOnce_iff e.2).mpr hat)).symm
    · exact (if_neg hat).trans (if_neg (fun hx => hat ((stopsAtOnce_iff e.2).mp hx))).symm
  have hn : n = stopCount (txBegin s) := by
    rw [stopCount, txBegin_cues]
    refine List.countP_congr fun e _ => ?_
    rw [decide_eq_true_iff]
    exact (stopsAtOnce_iff e.2).symm
  have hexec := exec_stopAll hdev h
  rw [← hn, ← hb] at hexec
  have horder := fours_order stopLane_order b
  have hsame : lanesAtRest b = true → fours.foldl stopLane b = b := stopLanes_rest
  clear_value b n
  generalize fours.foldl stopLane b = t at hexec horder hsame ⊢
  refine ⟨fun hrest hcalm => hexec.trans (congrArg Host.Outcome.next ?atRest), hexec,
    fun hcalm hrest => hexec.trans (congrArg Host.Outcome.next ?goesOn), fun hlanes => ?ends⟩
  case atRest =>
    have hrestb : lanesAtRest b = true := by
      rw [hb]
      show lanesAtRest (txBegin s) = true
      rw [lanesAtRest, txBegin_lanes]
      exact hrest
    rw [hsame hrestb]
    exact finished_stopped hcalm hrestb (by rw [hb]; exact hsync') rfl
  case goesOn =>
    have hwaits : waitGoesOn (t.busy (some { seq := seq, code := 0x36, wait := .stopAll n 0 })) = true :=
      congrArg Bool.not hrest
    rw [finished, coreTail_calm _ (t.busy _) hcalm, resume_waits _ hwaits]
    rfl
  case ends =>
    have hstopping : Stopping seq 0x36 (t.busy
        (some { seq := seq, code := 0x36, wait := .stopAll n 0 })) := by
      refine stopping_of_laneInvariant (s := s) hlanes ?_ ?_ rfl
      · exact horder.cues.trans (by rw [hb, stopCues, txBegin_cues])
      · exact horder.lanes.trans (by rw [hb]; exact congrArg (Quad.map Lane.afterStop) (txBegin_lanes s))
    obtain ⟨held, stopped, he, hrest, hwait⟩ := finished_stopping (s0 := txBegin s) hstopping
      ((congrArg Link.pendingSync horder.core.link).trans (by rw [hb]; exact hsync'))
    exact ⟨held, stopped, he, fun hr => hexec.trans (congrArg Host.Outcome.next (hrest hr)),
      fun hr => hexec.trans (congrArg Host.Outcome.next (hwait hr))⟩

end Sys2Proof.Machine
end

section
/-!
PROOFS. The requests that set device time (R60 to R64; O25, O26) and the settings of a lane (R30; O28).
-/

namespace Sys2Proof.Machine

/-! ### SET_TIME and SLEW_TIME -/

/-- The cues that hold SET_TIME back, named one by one. -/
theorem holdsTime_iff (c : Cue) :
    c.holdsTime = true ↔ c.state = .armed ∨ c.state = .staged ∨ c.state = .pending ∨ c.state = .releasing := by
  simp only [Cue.holdsTime, Bool.or_eq_true, decide_eq_true_eq, or_assoc]

/-- Device time set, with the notices of the event (R60). -/
theorem setTimeTo_eq {s : State} (v : Nat) (h : s.raised = []) :
    setTimeTo s v
      = { s with
          time := { s.time with device := v, valid := true, atEnd := decide (v = Config.maxTime), slew := none },
          raised := if v = Config.maxTime then [.timeEnd] else [] } := by
  unfold setTimeTo
  dsimp only
  split
  · rw [State.raise, h]; rfl
  · rw [← h]

section
variable {s : State} {k : BitVec 32} {sp : BitVec 16}

/-- SLEW_TIME with an offset or a spacing out of range is refused (R64). -/
theorem runSlewTime_outOfRange (h : k.toInt = 0 ∨ 1000000 < k.toInt.natAbs ∨ sp.toNat < 100) :
    runSlewTime s k sp = refuse s .badValue := by
  unfold runSlewTime
  dsimp only
  by_cases h1 : k.toInt = 0 ∨ 1000000 < k.toInt.natAbs
  · rw [if_pos h1]
  · rw [if_neg h1, if_pos (by tauto)]

variable (h0 : k.toInt ≠ 0) (h1 : k.toInt.natAbs ≤ 1000000) (h2 : 100 ≤ sp.toNat)
include h0 h1 h2

/-- One in range is refused without a valid device time (R64). -/
theorem runSlewTime_notSet (hv : s.time.valid = false) : runSlewTime s k sp = refuse s .timeNotSet := by
  unfold runSlewTime
  dsimp only
  rw [if_neg (by omega), if_neg (by omega), hv, if_pos (show (!false) = true from rfl)]

/-- It is refused during the time end (R64). -/
theorem runSlewTime_atEnd (hv : s.time.valid = true) (he : s.time.atEnd = true) :
    runSlewTime s k sp = refuse s .badValue := by
  unfold runSlewTime
  dsimp only
  rw [if_neg (by omega), if_neg (by omega), hv, if_neg (by decide), if_pos he]

/-- It starts a slew otherwise (R64). -/
theorem runSlewTime_ok (hv : s.time.valid = true) (he : s.time.atEnd = false) :
    runSlewTime s k sp
      = (s.setSlew (some { remaining := k.toInt, spacing := sp.toNat, next := elapsedIn s sp.toNat }),
          .says .ok (remainderBytes s.time.slew)) := by
  unfold runSlewTime
  dsimp only
  rw [if_neg (by omega), if_neg (by omega), hv, if_neg (by decide), he, if_neg (by decide)]

end

/-- Settles O25: the cues that hold SET_TIME back, and the tests of SLEW_TIME. -/
theorem setAndSlewTime : Obligations.SetAndSlewTime := by
  unfold Obligations.SetAndSlewTime
  refine ⟨fun seq v s h => ⟨fun ⟨e, he, hh⟩ => ?inUse, fun hnone => ?set⟩,
    fun seq k sp s h => ⟨fun hbad => ?range, fun h0 h1 h2 =>
      ⟨fun hv => ?notSet, fun hv he => ?atEnd, fun hv he => ?slews⟩⟩⟩
  case inUse =>
    refine exec_request_says (r := .setTime v) h rfl (accepted_of_ge_0x40 (Nat.le_of_ble_eq_true rfl) _) ?_ rfl
    have hany : s.cues.any (fun e => e.2.holdsTime) = true :=
      List.any_eq_true.mpr ⟨e, he, (holdsTime_iff e.2).mpr hh⟩
    rw [runRequest, runSetTime, txBegin_cues, if_pos hany]
    rfl
  case set =>
    obtain ⟨-, hraised, -⟩ := (attends_iff _ _ _).mp h
    have hany : s.cues.any (fun e => e.2.holdsTime) = false :=
      List.any_eq_false.mpr fun e he => fun hh => hnone e he ((holdsTime_iff e.2).mp hh)
    have hrun : runRequest (txBegin s) seq (.setTime v)
        = (setTimeTo (txBegin s) v.toNat, .says .ok (u48 v.toNat)) := by
      rw [runRequest, runSetTime, txBegin_cues, hany, if_neg Bool.false_ne_true]
    rw [setTimeTo_eq _ ((txBegin_raised s).trans hraised), txBegin_time] at hrun
    exact exec_request_says (r := .setTime v) h rfl (accepted_of_ge_0x40 (Nat.le_of_ble_eq_true rfl) _) hrun rfl
  case range =>
    exact exec_request_says (r := .slewTime k sp) h rfl (accepted_of_ge_0x40 (Nat.le_of_ble_eq_true rfl) _)
      (runSlewTime_outOfRange hbad) rfl
  case notSet =>
    exact exec_request_says (r := .slewTime k sp) h rfl (accepted_of_ge_0x40 (Nat.le_of_ble_eq_true rfl) _)
      (runSlewTime_notSet h0 h1 h2 (by rw [txBegin_time]; exact hv)) rfl
  case atEnd =>
    exact exec_request_says (r := .slewTime k sp) h rfl (accepted_of_ge_0x40 (Nat.le_of_ble_eq_true rfl) _)
      (runSlewTime_atEnd h0 h1 h2 (by rw [txBegin_time]; exact hv) (by rw [txBegin_time]; exact he)) rfl
  case slews =>
    have hrun := runSlewTime_ok (s := txBegin s) h0 h1 h2 (by rw [txBegin_time]; exact hv) (by rw [txBegin_time]; exact he)
    simp only [State.setSlew, elapsedIn, txBegin_time] at hrun
    refine (exec_request_says (r := .slewTime k sp) h rfl (accepted_of_ge_0x40 (Nat.le_of_ble_eq_true rfl) _) hrun
      rfl).trans ?_
    cases s.time.slew <;> rfl

/-! ### STEP_TIME -/

/-- A forward step meets the time end first (R59, R62). -/
theorem testEnd_eq {s : State} (h : s.raised = []) :
    testEnd s
      = if s.time.device = Config.maxTime ∧ s.time.atEnd = false then
          { s with time := { s.time with atEnd := true, slew := none }, raised := [.timeEnd] }
        else s := by
  unfold testEnd
  by_cases hm : s.time.device = Config.maxTime ∧ s.time.atEnd = false
  · rw [if_pos hm, if_pos (show atMaximum s = true by simp [atMaximum, hm]), reachEnd, State.raise]
    rw [h]
    rfl
  · rw [if_neg hm, if_neg (show ¬atMaximum s = true by simpa [atMaximum] using hm)]

/-- Settles O26: the tests of R61, and the step backward or forward. -/
theorem stepTimeSteps : Obligations.StepTimeSteps := by
  unfold Obligations.StepTimeSteps
  intro seq k s h a v refused moved b
  have hacc : ∀ d, accepted (Req.stepTime k).code d = true := accepted_of_ge_0x40 (Nat.le_of_ble_eq_true rfl)
  have htime : (txBegin s).time = s.time := txBegin_time s
  refine ⟨fun hbad => ?range, fun h0 h1 => ⟨fun hv => ?notSet, fun hv hout => ?outside, fun hv hlo hhi =>
    ⟨fun hneg => ?backward, fun hpos => ?forward⟩⟩⟩
  case range =>
    refine exec_request_says (r := .stepTime k) h rfl (hacc _) ?_ rfl
    rw [runRequest, runStepTime]
    exact if_pos hbad
  all_goals have hr : ¬(k.toInt = 0 ∨ 2147483647 < k.toInt.natAbs) := by omega
  case notSet =>
    refine exec_request_says (r := .stepTime k) h rfl (hacc _) ?_ rfl
    simp only [runRequest, runStepTime, if_neg hr, htime, hv, Bool.not_false, if_true]
    rfl
  case outside =>
    refine exec_request_says (r := .stepTime k) h rfl (hacc _) ?_ rfl
    simp only [runRequest, runStepTime, if_neg hr, htime, hv, Bool.not_true, Bool.false_eq_true, if_false, if_pos hout]
    rfl
  all_goals have hin : ¬((s.time.device : Int) + k.toInt < 0 ∨ (Config.maxTime : Int) < s.time.device + k.toInt) :=
    not_or.mpr ⟨Int.not_lt.mpr hlo, Int.not_lt.mpr hhi⟩
  case backward =>
    refine exec_request_answered (r := .stepTime k) h rfl (hacc _) ?_ rfl
    simp only [runRequest, runStepTime, if_neg hr, htime, hv, Bool.not_true, Bool.false_eq_true, if_false, if_neg hin,
      if_neg (Int.not_lt.mpr (Int.le_of_lt hneg)), State.setSlew]
    rfl
  case forward =>
    obtain ⟨-, hraised, -⟩ := (attends_iff _ _ _).mp h
    have hb : testEnd (((txBegin s).setSlew none).setDevice v) = b := by
      rw [testEnd_eq (s := ((txBegin s).setSlew none).setDevice v) ((txBegin_raised s).trans hraised)]
      simp only [State.setDevice, State.setSlew, htime]
      rfl
    have hlt : ((txBegin s).setSlew none).time.device < v := by
      show (txBegin s).time.device < _
      rw [htime]
      omega
    refine exec_request_answered (r := .stepTime k) h rfl (hacc _) ?_ ?_
    · simp only [runRequest, runStepTime, if_neg hr, htime, hv, Bool.not_true, Bool.false_eq_true, if_false,
        if_neg hin, if_pos hpos]
      rw [advanceTo, if_pos hlt]
      show (forwardChange (testEnd (((txBegin s).setSlew none).setDevice v)), _) = _
      rw [hb]
      rfl
    · rw [(CoreKept.forwardChange b).link, ← hb]
      unfold testEnd
      split <;> rfl

/-! ### SET_LANE -/

/-- The five settings within their values (R29, R30). -/
theorem laneConfigOf_eq (b : LaneBody) :
    laneConfigOf b
      = if 2 ≤ b.enabled.toNat ∨ b.pace.toNat = 0 ∨ b.leadWindow.toNat < 20 ∨ b.startThreshold.toNat < 32
          ∨ 2048 < b.startThreshold.toNat then none
        else some
          { enabled := decide (b.enabled.toNat = 1), pace := b.pace.toNat, leadWindow := b.leadWindow.toNat,
            startThreshold := b.startThreshold.toNat, holdLimit := b.holdLimit.toNat } := by
  unfold laneConfigOf
  cases hf : flagOf b.enabled with
  | none => exact (if_pos (.inl ((flagOf_eq_none_iff _).mp hf))).symm
  | some e =>
    have hen : b.enabled.toNat < 2 := by
      by_contra hge
      rw [(flagOf_eq_none_iff _).mpr (Nat.not_lt.mp hge)] at hf
      cases hf
    have hval : e = decide (b.enabled.toNat = 1) := by
      have hcases : b.enabled.toNat = 0 ∨ b.enabled.toNat = 1 := by omega
      rcases hcases with h | h <;> simp [flagOf, h] at hf <;> simp [h, ← hf]
    dsimp only
    by_cases hr : 1 ≤ b.pace.toNat ∧ 20 ≤ b.leadWindow.toNat ∧ 32 ≤ b.startThreshold.toNat ∧ b.startThreshold.toNat ≤ 2048
    · rw [if_pos hr, if_neg (by omega), hval]
    · rw [if_neg hr, if_pos (by omega)]

/-- A lane is at rest in IDLE and in STOPPED alone. -/
theorem atRest_iff (x : LaneState) : x.atRest = true ↔ x = .idle ∨ x = .stopped := by
  cases x <;> simp [LaneState.atRest]

/-- Settles O28: the tests of R30, and the settings replaced. -/
theorem setLaneConfigures : Obligations.SetLaneConfigures := by
  unfold Obligations.SetLaneConfigures
  intro seq lane b s h a refused outOfRange
  have hacc : ∀ d, accepted (Req.setLane lane b).code d = true := accepted_of_ge_0x40 (Nat.le_of_ble_eq_true rfl)
  refine ⟨fun hbad => ?refused, fun l hl hin => ⟨fun hi hs => ?busy, fun hrest => ⟨fun hq => ?queued, fun hq => ?sets⟩⟩⟩
  case refused =>
    refine exec_request_says (r := .setLane lane b) h rfl (hacc _) ?_ rfl
    rw [runRequest, runSetLane]
    rcases hbad with hbad | hbad
    · rw [(fourOf_eq_none_iff lane).mpr hbad]; rfl
    · rw [(laneConfigOf_eq b).trans (if_pos hbad)]
      cases fourOf lane <;> rfl
  all_goals have hcfg := (laneConfigOf_eq b).trans (if_neg hin)
  case busy =>
    refine exec_request_says (r := .setLane lane b) h rfl (hacc _) ?_ rfl
    have hst : (s.lane l).state.atRest = false := by
      rw [← Bool.not_eq_true, atRest_iff]
      exact fun hx => hx.elim hi hs
    simp only [runRequest, runSetLane, fourOf_eq_some hl, hcfg, txBegin_lane, hst, Bool.not_false, if_true]
    rfl
  all_goals have hst := (atRest_iff _).mpr hrest
  case queued =>
    refine exec_request_says (r := .setLane lane b) h rfl (hacc _) ?_ rfl
    simp only [runRequest, runSetLane, fourOf_eq_some hl, hcfg, txBegin_lane, hst, Bool.not_true, Bool.false_eq_true,
      if_false, pendingQueue_txBegin, if_pos hq]
    rfl
  case sets =>
    intro set t
    have hlane : set.lane l = _ := quad_get_set_self _ _ _
    refine ⟨fun hen => ?disabled, fun hc => ?none, ?answered⟩
    case disabled =>
      refine if_neg ?_
      rw [hlane]
      simp [hen]
    case none =>
      show pickFor set l = set
      rw [pickFor, hc]
      split <;> rfl
    case answered =>
      refine exec_request_answered (r := .setLane lane b) h rfl (hacc _) ?_ (CoreKept.pickFor set l).link
      simp only [runRequest, runSetLane, fourOf_eq_some hl, hcfg, txBegin_lane, hst, Bool.not_true, Bool.false_eq_true,
        if_false, pendingQueue_txBegin, hq, ne_eq, not_true_eq_false, decide_eq_true_eq]
      rfl

end Sys2Proof.Machine
end

section
/-!
PROOFS. Requests given up, several at once (R40, R88, R94, R111): the memory controller after one requester, or a set of
them, has given up, in closed form; and the payloads freed together.
-/

namespace Sys2Proof.Machine

/-! ### The memory controller -/

/-- The transaction, withdrawn where it is in its row phase and its requester is one of `g`. -/
def Transaction.withdrawIf (g : Requester → Bool) (t : Transaction) : Transaction :=
  match t.phase with
  | .row _ => if g t.requester then { t with withdrawn := true } else t
  | _ => t

/-- The operation on the port after the requesters of `g` have given up. -/
def PortOp.withdrawIf (g : Requester → Bool) : PortOp → PortOp
  | .transaction t => .transaction (t.withdrawIf g)
  | op => op

/-- The memory controller after the requesters of `g` have given up. -/
def MemControl.giveUp (g : Requester → Bool) (m : MemControl) : MemControl :=
  { m with
    laneReq :=
      ⟨if g (.lane 0) then none else m.laneReq.e0, if g (.lane 1) then none else m.laneReq.e1,
        if g (.lane 2) then none else m.laneReq.e2, if g (.lane 3) then none else m.laneReq.e3⟩,
    fillReq := if g .fill then none else m.fillReq,
    readReq := if g .readBack then none else m.readReq,
    port := m.port.map (PortOp.withdrawIf g) }

theorem MemControl.giveUp_laneReq (g : Requester → Bool) (m : MemControl) (l : Fin 4) :
    (m.giveUp g).laneReq.get l = if g (.lane l) then none else m.laneReq.get l := by
  match l with
  | 0 | 1 | 2 | 3 => rfl

theorem Transaction.withdrawIf_eq (g : Requester → Bool) (t : Transaction) :
    t.withdrawIf g = t
      ∨ (∃ c, t.phase = .row c) ∧ g t.requester = true ∧ t.withdrawIf g = { t with withdrawn := true } := by
  unfold Transaction.withdrawIf
  split
  next c hc =>
    split
    next hg => exact .inr ⟨⟨c, hc⟩, hg, rfl⟩
    · exact .inl rfl
  · exact .inl rfl

theorem Transaction.withdrawIf_row {g : Requester → Bool} {t : Transaction} {c : RowCommand} (hc : t.phase = .row c)
    (hg : g t.requester = true) : t.withdrawIf g = { t with withdrawn := true } := by
  simp only [Transaction.withdrawIf, hc, hg, if_true]

/-- Giving up keeps who asked, and the phase. -/
theorem Transaction.withdrawIf_keeps (g : Requester → Bool) (t : Transaction) :
    (t.withdrawIf g).requester = t.requester ∧ (t.withdrawIf g).phase = t.phase := by
  rcases t.withdrawIf_eq g with h | ⟨-, -, h⟩ <;> rw [h] <;> exact ⟨rfl, rfl⟩

theorem Transaction.withdrawIf_withdrawIf (g g' : Requester → Bool) (t : Transaction) :
    (t.withdrawIf g).withdrawIf g' = t.withdrawIf (fun r => g r || g' r) := by
  obtain ⟨r, b, row, pos, size, phase, w⟩ := t
  cases phase with
  | row c => cases hg : g r <;> cases hg' : g' r <;> simp [Transaction.withdrawIf, hg, hg']
  | column | closing => rfl

theorem PortOp.withdrawIf_withdrawIf (g g' : Requester → Bool) (op : PortOp) :
    (op.withdrawIf g).withdrawIf g' = op.withdrawIf (fun r => g r || g' r) := by
  cases op with
  | transaction t => exact congrArg PortOp.transaction (t.withdrawIf_withdrawIf g g')
  | refresh | bringUp => rfl

theorem MemControl.giveUp_giveUp (g g' : Requester → Bool) (m : MemControl) :
    (m.giveUp g).giveUp g' = m.giveUp (fun r => g r || g' r) := by
  have hreq : ∀ (r : Requester) (q : Option MemRequest),
      (if g' r then none else if g r then none else q) = if g r || g' r then none else q := fun r q => by
    cases g r <;> cases g' r <;> rfl
  simp only [MemControl.giveUp, Option.map_map, hreq]
  congr 1
  exact congrArg (fun f => m.port.map f) (funext fun op => PortOp.withdrawIf_withdrawIf g g' op)

/-- With no requester that gives up, nothing changes. -/
theorem MemControl.giveUp_false (m : MemControl) : m.giveUp (fun _ => false) = m := by
  have hop : ∀ op : PortOp, op.withdrawIf (fun _ => false) = op := fun op => by
    cases op with
    | transaction t =>
      refine congrArg PortOp.transaction ?_
      rcases t.withdrawIf_eq (fun _ => false) with h | ⟨-, h, -⟩
      · exact h
      · cases h
    | refresh | bringUp => rfl
  have hport : m.port.map (PortOp.withdrawIf fun _ => false) = m.port := by
    rw [show (PortOp.withdrawIf fun _ => false) = id from funext hop, Option.map_id_fun, id]
  show { m with port := m.port.map (PortOp.withdrawIf fun _ => false) } = m
  rw [hport]

/-- One requester gives up. -/
theorem giveUpRequest_giveUp (s : State) (r : Requester) :
    giveUpRequest s r = { s with mc := s.mc.giveUp (fun q => decide (q = r)) } := by
  have hop : ∀ t : Transaction, t.withdrawFor r = t.withdrawIf (fun q => decide (q = r)) := fun t => by
    unfold Transaction.withdrawFor Transaction.withdrawIf
    cases t.phase <;> simp only [decide_eq_true_eq]
  have hdrop : dropRequest s r = { s with mc := { s.mc.giveUp (fun q => decide (q = r)) with port := s.mc.port } } := by
    cases r with
    | lane l => match l with
      | 0 | 1 | 2 | 3 => rfl
    | fill | readBack => rfl
  have hport : (dropRequest s r).mc.port = s.mc.port := by rw [hdrop]
  unfold giveUpRequest
  simp only [hport]
  cases hp : s.mc.port with
  | none => simp only [hdrop, MemControl.giveUp, hp, Option.map_none]
  | some op =>
    cases op with
    | transaction t => simp only [hdrop, MemControl.giveUp, hp, Option.map_some, PortOp.withdrawIf, hop]
    | refresh | bringUp => simp only [hdrop, MemControl.giveUp, hp, Option.map_some, PortOp.withdrawIf]

/-- Which request is in its column phase does not change as requests are given up. -/
theorem inColumn_giveUp {s t : State} {g : Requester → Bool} (h : t.mc = s.mc.giveUp g) (r : Requester) :
    inColumn t r = inColumn s r := by
  unfold inColumn
  rw [h]
  cases hp : s.mc.port with
  | none => simp only [MemControl.giveUp, hp, Option.map_none]
  | some op =>
    cases op with
    | transaction t =>
      obtain ⟨h1, h2⟩ := t.withdrawIf_keeps g
      simp only [MemControl.giveUp, hp, Option.map_some, PortOp.withdrawIf, h1, h2]
    | refresh | bringUp => simp only [MemControl.giveUp, hp, Option.map_some, PortOp.withdrawIf]

/-! ### Payloads freed together -/

/-- What is left of the directory. -/
theorem mem_foldl_freePayload (ids : List Nat) (s : State) (e : Nat × Payload) :
    e ∈ (ids.foldl State.freePayload s).store.directory ↔ e ∈ s.store.directory ∧ e.1 ∉ ids := by
  induction ids generalizing s with
  | nil => simp
  | cons id ids ih =>
    rw [List.foldl_cons, ih, freePayload_directory, mem_tdel, List.mem_cons, not_or, and_assoc]

theorem foldl_freePayload_chunks (ids : List Nat) (s : State) :
    (ids.foldl State.freePayload s).store.chunks = s.store.chunks := by
  induction ids generalizing s with
  | nil => rfl
  | cons id ids ih => rw [List.foldl_cons, ih, freePayload_chunks]

/-- An entry found behind entries of other ids. -/
theorem tget_append_of_notMem {α : Type} {a b : List (Nat × α)} {k : Nat} (h : k ∉ a.map Prod.fst) :
    tget (a ++ b) k = tget b k := by
  induction a with
  | nil => rfl
  | cons e a ih =>
    rw [List.map_cons, List.mem_cons, not_or] at h
    rw [List.cons_append, tget, if_neg h.1, ih h.2]

/-- A table without an id that it does not hold. -/
theorem tdel_of_notMem {α : Type} {a : List (Nat × α)} {k : Nat} (h : k ∉ a.map Prod.fst) : tdel a k = a := by
  refine List.filter_eq_self.mpr fun e he => ?_
  exact decide_eq_true fun hk => h (hk ▸ List.mem_map_of_mem he)

/-- Freeing the payloads that `p` names leaves the others, and gives the blocks back in the order of the directory. -/
theorem foldl_freePayload_behind (p : Nat × Payload → Bool) (d : List (Nat × Payload)) :
    ∀ (a : List (Nat × Payload)) (s : State), s.store.directory = a ++ d → ((a ++ d).map Prod.fst).Nodup →
      (((d.filter p).map Prod.fst).foldl State.freePayload s).store.directory = a ++ d.filter (fun e => !p e)
        ∧ (((d.filter p).map Prod.fst).foldl State.freePayload s).store.pool
            = s.store.pool ++ ((d.filter p).map (fun e => e.2.blocks)).flatten := by
  induction d with
  | nil => exact fun a s hd _ => ⟨hd, (List.append_nil _).symm⟩
  | cons e d ih =>
    intro a s hd hnd
    have hna : e.1 ∉ a.map Prod.fst ∧ e.1 ∉ d.map Prod.fst := by
      rw [List.map_append, List.map_cons, List.nodup_middle] at hnd
      have := (List.nodup_cons.mp hnd).1
      rw [List.mem_append, not_or] at this
      exact this
    cases hp : p e with
    | true =>
      have hget : s.payload? e.1 = some e.2 := by
        rw [State.payload?, hd, tget_append_of_notMem hna.1, tget, if_pos rfl]
      have hdir : (s.freePayload e.1).store.directory = a ++ d := by
        rw [freePayload_directory, hd, tdel, List.filter_append, List.filter_cons_of_neg (by simp)]
        exact congrArg₂ (· ++ ·) (tdel_of_notMem hna.1) (tdel_of_notMem hna.2)
      have hpool : (s.freePayload e.1).store.pool = s.store.pool ++ e.2.blocks := by
        rw [State.freePayload, hget]
      have hnd' : ((a ++ d).map Prod.fst).Nodup := by
        rw [List.map_append, List.map_cons, List.nodup_middle] at hnd
        rw [List.map_append]
        exact (List.nodup_cons.mp hnd).2
      obtain ⟨h1, h2⟩ := ih a (s.freePayload e.1) hdir hnd'
      rw [List.filter_cons_of_pos hp, List.map_cons, List.foldl_cons, List.filter_cons_of_neg (by simp [hp]), List.map_cons,
        List.flatten_cons]
      exact ⟨h1, h2.trans (by rw [hpool, List.append_assoc])⟩
    | false =>
      have hassoc : a ++ e :: d = (a ++ [e]) ++ d := by rw [List.append_assoc]; rfl
      obtain ⟨h1, h2⟩ := ih (a ++ [e]) s (hd.trans hassoc) (hassoc ▸ hnd)
      rw [List.filter_cons_of_neg (by simp [hp]), List.filter_cons_of_pos (by simp [hp])]
      exact ⟨h1.trans (by rw [List.append_assoc]; rfl), h2⟩

/-- The same for a whole directory in order. -/
theorem foldl_freePayload_filter {s : State} (p : Nat × Payload → Bool) (hs : sortedKeys s.store.directory = true) :
    (((s.store.directory.filter p).map Prod.fst).foldl State.freePayload s).store.directory
        = s.store.directory.filter (fun e => !p e)
      ∧ (((s.store.directory.filter p).map Prod.fst).foldl State.freePayload s).store.pool
          = s.store.pool ++ ((s.store.directory.filter p).map (fun e => e.2.blocks)).flatten := by
  refine foldl_freePayload_behind p s.store.directory [] s rfl ?_
  have := sortedKeys_filter_pairwise s.store.directory (fun _ => true) hs
  rw [List.filter_eq_self.mpr fun _ _ => rfl] at this
  exact this.imp Nat.ne_of_lt

end Sys2Proof.Machine
end

section
/-!
PROOFS. The soft reset (R134; O13), block by block: the lanes and the cue table, the payload store, the memory
controller; and RESET, whose event then ends the flushes that have nothing outstanding.
-/

namespace Sys2Proof.Machine

/-! ### The lanes and the cue table -/

/-- A lane that gives up its cue at a soft reset, and its request with it. -/
def Lane.givesUp (x : Lane) : Bool :=
  decide (x.state = .emitting) || decide (x.state = .staging) || decide (x.state = .primed)

theorem Lane.givesUp_iff (x : Lane) : x.givesUp = true ↔ x.state = .emitting ∨ x.state = .staging ∨ x.state = .primed := by
  simp only [Lane.givesUp, Bool.or_eq_true, decide_eq_true_eq, or_assoc]

/-- The requesters that give up as the lane is reset. -/
def laneGivesUp (x : Lane) (l : Fin 4) : Requester → Bool := fun q => decide (q = .lane l) && x.givesUp

/-- The soft reset of one lane: the lane itself, and its request. -/
theorem resetLane_eq (s : State) (l : Fin 4) :
    resetLane s l
      = { s.setLane l (s.lane l).afterReset with mc := s.mc.giveUp (laneGivesUp (s.lane l) l) } := by
  have gives : (s.lane l).givesUp = true → laneGivesUp (s.lane l) l = fun q => decide (q = .lane l) := fun h => by
    unfold laneGivesUp; simp only [h, Bool.and_true]
  have keeps : (s.lane l).givesUp = false → s.mc.giveUp (laneGivesUp (s.lane l) l) = s.mc := fun h => by
    unfold laneGivesUp; simp only [h, Bool.and_false]; exact s.mc.giveUp_false
  cases hst : (s.lane l).state with
  | emitting =>
    rw [gives (by rw [Lane.givesUp, hst]; rfl), Lane.afterReset, if_neg (by rw [hst]; exact nofun), if_pos hst,
      Lane.afterCut, if_pos hst, resetLane, hst]
    simp only [cutLane, if_pos hst]
    rw [giveUpRequest_giveUp]
    rfl
  | staging | primed =>
    rw [gives (by rw [Lane.givesUp, hst]; rfl), Lane.afterReset, if_neg (by rw [hst]; exact nofun),
      if_neg (by rw [hst]; exact nofun), Lane.afterUnstage, if_pos (by rw [hst]; rfl), resetLane, hst]
    simp only []
    rw [unstage_eq (by rw [hst]; rfl), giveUpRequest_giveUp]
    rfl
  | flushing =>
    have hreset : resetLane s l = s.setLane l { s.lane l with held := none, release := none } := by
      simp only [resetLane, hst]
    rw [keeps (by rw [Lane.givesUp, hst]; rfl), Lane.afterReset, if_pos hst, hreset]
    rfl
  | idle | stopped =>
    rw [keeps (by rw [Lane.givesUp, hst]; rfl), Lane.afterReset, if_neg (by rw [hst]; exact nofun),
      if_neg (by rw [hst]; exact nofun), Lane.afterUnstage, if_neg (by rw [hst]; exact nofun), setLane_lane, resetLane, hst]

theorem resetLane_mc (s : State) (l : Fin 4) : (resetLane s l).mc = s.mc.giveUp (laneGivesUp (s.lane l) l) := by
  rw [resetLane_eq]

theorem resetLane_lane (s : State) {l m : Fin 4} (h : m ≠ l) : (resetLane s l).lane m = s.lane m := by
  rw [resetLane_eq]
  exact lane_setLane_ne s l m _ h

theorem resetLane_lane_self (s : State) (l : Fin 4) : (resetLane s l).lane l = (s.lane l).afterReset := by
  rw [resetLane_eq]
  exact lane_setLane_self s l _

/-- The requesters that give up as all four lanes are reset. -/
def lanesGiveUp (s : State) : Requester → Bool
  | .lane l => (s.lane l).givesUp
  | _ => false

theorem resetCues_mc (s : State) : (resetCues s).mc = s.mc.giveUp (lanesGiveUp s) := by
  have hg : (fun q => laneGivesUp (s.lane 0) 0 q || (laneGivesUp (s.lane 1) 1 q || (laneGivesUp (s.lane 2) 2 q
      || laneGivesUp (s.lane 3) 3 q))) = lanesGiveUp s := by
    funext q
    cases q with
    | lane l => match l with
      | 0 | 1 | 2 | 3 => simp [laneGivesUp, lanesGiveUp]
    | fill | readBack => rfl
  have h1 : (resetLane s 0).lane 1 = s.lane 1 := resetLane_lane _ (by decide)
  have h2 : (resetLane (resetLane s 0) 1).lane 2 = s.lane 2 :=
    (resetLane_lane _ (by decide)).trans (resetLane_lane _ (by decide))
  have h3 : (resetLane (resetLane (resetLane s 0) 1) 2).lane 3 = s.lane 3 :=
    (resetLane_lane _ (by decide)).trans ((resetLane_lane _ (by decide)).trans (resetLane_lane _ (by decide)))
  show (resetLane (resetLane (resetLane (resetLane s 0) 1) 2) 3).mc = _
  rw [resetLane_mc, h3, resetLane_mc, h2, resetLane_mc, h1, resetLane_mc, MemControl.giveUp_giveUp,
    MemControl.giveUp_giveUp, MemControl.giveUp_giveUp, hg]

/-- Orders to the lanes change the lanes and the memory controller. -/
theorem foldl_resetLane_only (ls : List (Fin 4)) (s : State) :
    ls.foldl resetLane s
      = { s with lanes := (ls.foldl resetLane s).lanes, mc := (ls.foldl resetLane s).mc } := by
  induction ls generalizing s with
  | nil => rfl
  | cons l ls ih =>
    rw [List.foldl_cons, ih, resetLane_eq]
    rfl

/-- Steps 2 and 3 of the soft reset. -/
theorem resetCues_eq (s : State) :
    resetCues s
      = { s with lanes := s.lanes.map Lane.afterReset, cues := [], mc := s.mc.giveUp (lanesGiveUp s) } := by
  have hl := (fours_order resetLane_order s).lanes
  have hm : (fours.foldl resetLane s).mc = _ := resetCues_mc s
  rw [resetCues, foldl_resetLane_only, hl, hm]

/-! ### The payload store -/

theorem foldl_freePayload_only (ids : List Nat) (s : State) :
    ids.foldl State.freePayload s = { s with store := (ids.foldl State.freePayload s).store } := by
  induction ids generalizing s with
  | nil => rfl
  | cons id ids ih =>
    rw [List.foldl_cons, ih]
    unfold State.freePayload
    split <;> rfl

/-- The requesters that give up as the fill buffer is reset. -/
def fillGivesUp (s : State) : Requester → Bool
  | .fill => !inColumn s .fill
  | _ => false

/-- Step 4 of the soft reset: the store, and the write request. -/
theorem resetStore_eq (s : State) :
    resetStore s = { s with store := (resetStore s).store, mc := s.mc.giveUp (fillGivesUp s) } := by
  have hclear : (clearRefs s).freeDoomed = { s with store := (clearRefs s).freeDoomed.store } :=
    foldl_freePayload_only _ _
  have hcol : inColumn (clearRefs s).freeDoomed .fill = inColumn s .fill := by
    rw [hclear]; rfl
  cases hc : inColumn s .fill with
  | true =>
    have hg : fillGivesUp s = fun _ => false := by
      funext q; cases q <;> simp [fillGivesUp, hc]
    rw [hg, MemControl.giveUp_false, resetStore, resetFill, if_pos (hcol.trans hc), hclear]
    rfl
  | false =>
    have hg : fillGivesUp s = fun q => decide (q = .fill) := by
      funext q; cases q <;> simp [fillGivesUp, hc]
    rw [hg, resetStore, resetFill, if_neg (by rw [hcol, hc]; exact nofun), giveUpRequest_giveUp, hclear]
    rw [foldl_freePayload_only]
    rfl

/-- The directory, as its entries that `p` picks, each with count 0. -/
def cleared (d : List (Nat × Payload)) (p : PayloadState → Bool) : List (Nat × Payload) :=
  (d.filter (fun e => p e.2.state)).map (fun e => (e.1, { e.2 with refs := 0 }))

/-- The blocks of the payloads that `p` picks. -/
def blocksOf (d : List (Nat × Payload)) (p : PayloadState → Bool) : List Nat :=
  ((d.filter (fun e => p e.2.state)).map (fun e => e.2.blocks)).flatten

theorem filter_cleared (d : List (Nat × Payload)) (p q : PayloadState → Bool) :
    (cleared d p).filter (fun e => q e.2.state) = cleared d (fun st => p st && q st) := by
  rw [cleared, List.filter_map, List.filter_filter, cleared]
  exact congrArg (List.map _) (List.filter_congr fun e _ => Bool.and_comm _ _)

theorem blocksOf_cleared (d : List (Nat × Payload)) (p q : PayloadState → Bool) :
    blocksOf (cleared d p) q = blocksOf d (fun st => p st && q st) := by
  rw [blocksOf, filter_cleared, cleared, List.map_map]
  rfl

theorem keys_cleared (d : List (Nat × Payload)) (p : PayloadState → Bool) :
    (cleared d p).map Prod.fst = (d.filter (fun e => p e.2.state)).map Prod.fst := by
  rw [cleared, List.map_map]
  rfl

theorem sortedKeys_of_pairwise {α : Type} {t : List (Nat × α)} (h : (t.map Prod.fst).Pairwise (· < ·)) :
    sortedKeys t = true := by
  induction t with
  | nil => rfl
  | cons e t ih =>
    rw [List.map_cons, List.pairwise_cons] at h
    exact (sortedKeys_cons e.1 e.2 t).mpr ⟨fun f hf => h.1 _ (List.mem_map_of_mem hf), ih h.2⟩

theorem sortedKeys_cleared {d : List (Nat × Payload)} (p : PayloadState → Bool) (h : sortedKeys d = true) :
    sortedKeys (cleared d p) = true :=
  sortedKeys_of_pairwise ((keys_cleared d p).symm ▸ sortedKeys_filter_pairwise d _ h)

/-- Freeing the payloads in a state, in a directory in order. -/
theorem foldl_freePayload_cleared {s : State} {d : List (Nat × Payload)} {p : PayloadState → Bool}
    (hd : s.store.directory = cleared d p) (hs : sortedKeys d = true) (q : PayloadState → Bool) :
    let t := ((s.store.directory.filter (fun e => q e.2.state)).map Prod.fst).foldl State.freePayload s
    t.store.directory = cleared d (fun st => p st && !q st)
      ∧ t.store.pool = s.store.pool ++ blocksOf d (fun st => p st && q st) := by
  obtain ⟨h1, h2⟩ := foldl_freePayload_filter (s := s) (fun e => q e.2.state) (hd ▸ sortedKeys_cleared p hs)
  refine ⟨h1.trans ?_, h2.trans ?_⟩
  · rw [hd]; exact filter_cleared d p (fun st => !q st)
  · rw [hd]; exact congrArg (s.store.pool ++ ·) (blocksOf_cleared d p q)

/-- Every count cleared, and the DOOMED payloads freed. -/
theorem clearRefs_freeDoomed {s : State} (hs : sortedKeys s.store.directory = true) :
    (clearRefs s).freeDoomed.store.directory = cleared s.store.directory (fun st => decide (st ≠ .doomed))
      ∧ (clearRefs s).freeDoomed.store.pool
          = s.store.pool ++ blocksOf s.store.directory (fun st => decide (st = .doomed)) := by
  have hd : (clearRefs s).store.directory = cleared s.store.directory (fun _ => true) := by
    rw [cleared, List.filter_eq_self.mpr fun _ _ => rfl]; rfl
  have hdoomed : doomedUnused (clearRefs s)
      = ((clearRefs s).store.directory.filter (fun e => decide (e.2.state = .doomed))).map Prod.fst := by
    unfold doomedUnused
    refine congrArg (List.map Prod.fst) (List.filter_congr fun e he => ?_)
    have h0 : e.2.refs = 0 := by
      obtain ⟨f, -, rfl⟩ := List.mem_map.mp he
      rfl
    rw [h0, decide_eq_true rfl, Bool.and_true]
  obtain ⟨h1, h2⟩ := foldl_freePayload_cleared hd hs (fun st => decide (st = .doomed))
  rw [State.freeDoomed, hdoomed]
  refine ⟨h1.trans (congrArg _ (funext fun st => ?_)),
    h2.trans (congrArg _ (congrArg _ (funext fun st => Bool.true_and _)))⟩
  rw [Bool.true_and, decide_not]

/-- The store after the soft reset, while a write is in column phase and else. -/
theorem resetStore_store {s : State} (hs : sortedKeys s.store.directory = true) :
    (inColumn s .fill = false →
        (resetStore s).store =
          { directory := cleared s.store.directory (fun st => decide (st = .sealed)),
            pool := s.store.pool ++ blocksOf s.store.directory (fun st => decide (st = .doomed))
              ++ blocksOf s.store.directory (fun st => decide (st = .filling)),
            chunks := [], leaving := [] })
      ∧ (inColumn s .fill = true →
          (resetStore s).store =
            { directory := cleared s.store.directory (fun st => decide (st ≠ .doomed)),
              pool := s.store.pool ++ blocksOf s.store.directory (fun st => decide (st = .doomed)),
              chunks := s.store.chunks.take 1,
              leaving := (s.store.directory.filter (fun e => decide (e.2.state = .filling))).map Prod.fst }) := by
  obtain ⟨hdir, hpool⟩ := clearRefs_freeDoomed hs
  have honly : (clearRefs s).freeDoomed = { s with store := (clearRefs s).freeDoomed.store } :=
    foldl_freePayload_only _ _
  have hcol : inColumn (clearRefs s).freeDoomed .fill = inColumn s .fill := by rw [honly]; rfl
  have hchunks : (clearRefs s).freeDoomed.store.chunks = s.store.chunks := foldl_freePayload_chunks _ _
  rw [resetStore, resetFill, hcol]
  generalize (clearRefs s).freeDoomed = u at hdir hpool hchunks ⊢
  refine ⟨fun hc => ?_, fun hc => ?_⟩
  · rw [hc, if_neg Bool.false_ne_true, giveUpRequest_giveUp, fillingIds]
    generalize hv : State.setChunks _ [] = v
    have hvd : v.store.directory = u.store.directory := by rw [← hv]; rfl
    have hvp : v.store.pool = u.store.pool := by rw [← hv]; rfl
    have hvc : v.store.chunks = [] := by rw [← hv]; rfl
    obtain ⟨h1, h2⟩ := foldl_freePayload_cleared (hvd.trans hdir) hs (fun st => decide (st = .filling))
    rw [hvd] at h1 h2
    have h3 := foldl_freePayload_chunks ((u.store.directory.filter (fun e => decide (e.2.state = .filling))).map Prod.fst) v
    generalize List.foldl State.freePayload v _ = t at h1 h2 h3
    show Store.mk t.store.directory t.store.pool t.store.chunks [] = _
    rw [h1, h2, h3, hvc, hvp, hpool]
    congr 1
    · refine congrArg _ (funext fun st => ?_)
      cases st <;> rfl
    · refine congrArg (List.append _) (congrArg (blocksOf _) (funext fun st => ?_))
      cases st <;> rfl
  · rw [hc, if_pos rfl]
    show Store.mk u.store.directory u.store.pool (u.store.chunks.take 1) (fillingIds u) = _
    rw [hchunks, hpool, fillingIds, hdir]
    refine congrArg (Store.mk _ _ _) ?_
    rw [filter_cleared _ _ (fun st => decide (st = .filling)), keys_cleared]
    refine congrArg (List.map Prod.fst) (List.filter_congr fun e _ => ?_)
    cases e.2.state <;> rfl

/-- No DOOMED payload is left, in whatever order the directory stood. -/
theorem resetStore_doomedUnused (s : State) : doomedUnused (resetStore s) = [] := by
  have hclear : ∀ e ∈ (clearRefs s).freeDoomed.store.directory, e.2.state ≠ .doomed := fun e he hst => by
    obtain ⟨hmem, hnot⟩ := (mem_foldl_freePayload _ _ _).mp he
    refine hnot (List.mem_map_of_mem (List.mem_filter.mpr ⟨hmem, ?_⟩))
    obtain ⟨f, -, rfl⟩ := List.mem_map.mp hmem
    simpa using hst
  have hfill : ∀ e ∈ (resetStore s).store.directory, e ∈ (clearRefs s).freeDoomed.store.directory := fun e he => by
    rw [resetStore, resetFill] at he
    generalize (clearRefs s).freeDoomed = u at he ⊢
    split at he
    · exact he
    · have := ((mem_foldl_freePayload (fillingIds u) ((giveUpRequest u .fill).setChunks []) e).mp he).1
      rw [giveUpRequest_giveUp] at this
      exact this
  rw [doomedUnused, List.map_eq_nil_iff, List.filter_eq_nil_iff]
  intro e he
  simp [hclear e (hfill e he)]

/-! ### The soft reset as a whole -/

/-- The requesters that give up at a soft reset. -/
def resetGivesUp (s : State) : Requester → Bool
  | .lane l => (s.lane l).givesUp
  | .fill => !inColumn s .fill
  | .readBack => false

/-- The part before step 5. -/
theorem resetStore_resetCues (s : State) :
    resetStore (resetCues (resetLink s))
      = { resetLink s with
          lanes := s.lanes.map Lane.afterReset, cues := [], mc := s.mc.giveUp (resetGivesUp s),
          store := (resetStore (resetCues (resetLink s))).store } := by
  have hcol : inColumn (resetCues (resetLink s)) .fill = inColumn s .fill :=
    inColumn_giveUp (s := s) (resetCues_mc (resetLink s)) .fill
  have hg : (fun q => lanesGiveUp (resetLink s) q || fillGivesUp (resetCues (resetLink s)) q) = resetGivesUp s := by
    funext q
    cases q with
    | lane l => exact Bool.or_false _
    | fill => exact congrArg Bool.not hcol
    | readBack => rfl
  have hm : (resetCues (resetLink s)).mc.giveUp (fillGivesUp (resetCues (resetLink s))) = s.mc.giveUp (resetGivesUp s) := by
    rw [resetCues_mc, MemControl.giveUp_giveUp, hg]
    rfl
  rw [resetStore_eq, hm, resetCues_eq]
  rfl

/-- What the soft reset leaves, but for the memory controller, the refresh scheduler and the device state. -/
theorem softReset_parts (s : State) :
    (softReset s).cues = [] ∧ (softReset s).executing = s.executing ∧ (softReset s).raised = []
      ∧ (softReset s).link = { s.link with inbox := [], replies := [] }
      ∧ (softReset s).lanes = s.lanes.map Lane.afterReset
      ∧ (softReset s).store = (resetStore (resetCues (resetLink s))).store := by
  have hm : ∀ u : State, (resetMemory u).cues = u.cues ∧ (resetMemory u).executing = u.executing
      ∧ (resetMemory u).raised = u.raised ∧ (resetMemory u).link = u.link ∧ (resetMemory u).lanes = u.lanes
      ∧ (resetMemory u).store = u.store := fun u => by
    unfold resetMemory
    split <;> exact ⟨rfl, rfl, rfl, rfl, rfl, rfl⟩
  obtain ⟨h1, h2, h3, h4, h5, h6⟩ := hm (resetStore (resetCues (resetLink s)))
  have he := resetStore_resetCues s
  rw [softReset]
  generalize resetStore (resetCues (resetLink s)) = u at he h1 h2 h3 h4 h5 h6 ⊢
  have parts : u.cues = [] ∧ u.executing = s.executing ∧ u.raised = []
      ∧ u.link = { s.link with inbox := [], replies := [] } ∧ u.lanes = s.lanes.map Lane.afterReset := by
    rw [he]; exact ⟨rfl, rfl, rfl, rfl, rfl⟩
  obtain ⟨p1, p2, p3, p4, p5⟩ := parts
  exact ⟨h1.trans p1, h2.trans p2, h3.trans p3, h4.trans p4, h5.trans p5, h6⟩

/-- The memory controller, the refresh scheduler and the device state after the soft reset of a part whose bring-up is
abandoned (R101, R129). -/
theorem softReset_initializing {s : State} (h : s.device = .initializing) :
    (softReset s).device = .unconfigured
      ∧ (softReset s).mc = { s.mc.giveUp (resetGivesUp s) with
          profile := none, bringUp := none, port := (s.mc.giveUp (resetGivesUp s)).port.map PortOp.abandon }
      ∧ (softReset s).refresh = { debt := 0, timer := .stopped, request := .absent } := by
  have hd : (resetStore (resetCues (resetLink s))).device = .initializing := by
    rw [resetStore_resetCues]; exact h
  have hm : (resetStore (resetCues (resetLink s))).mc = s.mc.giveUp (resetGivesUp s) := by
    rw [resetStore_resetCues]
  rw [softReset, resetMemory, hd]
  exact ⟨rfl, by rw [← hm]; rfl, rfl⟩

/-- The same in the other device states. -/
theorem softReset_other {s : State} (h : s.device ≠ .initializing) :
    (softReset s).device = s.device ∧ (softReset s).mc = s.mc.giveUp (resetGivesUp s)
      ∧ (softReset s).refresh = s.refresh := by
  have hd : (resetStore (resetCues (resetLink s))).device = s.device := by
    rw [resetStore_resetCues]; rfl
  have hm : (resetStore (resetCues (resetLink s))).mc = s.mc.giveUp (resetGivesUp s)
      ∧ (resetStore (resetCues (resetLink s))).refresh = s.refresh := by
    rw [resetStore_resetCues]; exact ⟨rfl, rfl⟩
  have hrest : resetMemory (resetStore (resetCues (resetLink s))) = resetStore (resetCues (resetLink s)) := by
    rw [resetMemory]
    split
    next hi => exact absurd (hd.symm.trans hi) h
    · rfl
  rw [softReset, hrest]
  generalize resetStore (resetCues (resetLink s)) = u at hd hm ⊢
  exact ⟨hd, hm⟩

/-! ### The event of a RESET -/

/-- Without a cue, the end of a flush frees the lane and reports nothing. -/
theorem endFlush_noCue {s : State} (h : s.cues = []) (l : Fin 4) :
    endFlush s l = if flushOver s l then s.setLane l (s.lane l).toIdle else s := by
  unfold endFlush
  split
  · unfold reportCut
    cases (s.lane l).held with
    | none => rfl
    | some k =>
      have hc : (s.setLane l (s.lane l).toIdle).cue? k.cue = none := by
        show tget s.cues k.cue = none
        rw [h]; rfl
      simp only [hc]
  · rfl

/-- Without a cue, lanes that hold none that is staged settle by the ends of their flushes alone. -/
theorem settleLanes_noCue (s0 : State) (ls : List (Fin 4)) {s : State} (h : s.cues = [])
    (hst : ∀ l, (s.lane l).state.holdsStaged = false) :
    ls.foldl (settleLane s0) s = ls.foldl endFlush s
      ∧ ls.foldl endFlush s = { s with lanes := (ls.foldl endFlush s).lanes } := by
  induction ls generalizing s with
  | nil => exact ⟨rfl, rfl⟩
  | cons l ls ih =>
    have he := endFlush_noCue h l
    have hcues : (endFlush s l).cues = [] := by rw [he]; split <;> exact h
    have hunstaged : ∀ m, ((endFlush s l).lane m).state.holdsStaged = false := fun m => by
      rw [he]
      split
      · by_cases hm : m = l
        · rw [hm, lane_setLane_self]; rfl
        · rw [lane_setLane_ne s l m _ hm]; exact hst m
      · exact hst m
    have hnone : candidate (endFlush s l) l = none := by
      cases hc : candidate (endFlush s l) l with
      | none => rfl
      | some e =>
        have := (candidate_spec hc).1
        rw [hcues] at this
        cases this
    obtain ⟨h1, h2⟩ := ih hcues hunstaged
    rw [List.foldl_cons, List.foldl_cons, settleLane_quiet s0 (hunstaged l) hnone]
    refine ⟨h1, h2.trans ?_⟩
    have honly : endFlush s l = { s with lanes := (endFlush s l).lanes } := by rw [he]; split <;> rfl
    rw [honly]

/-- A lane after the soft reset holds no staged cue. -/
theorem afterReset_unstaged (x : Lane) : x.afterReset.state.holdsStaged = false := by
  unfold Lane.afterReset
  split
  next h => show x.state.holdsStaged = false; rw [h]; rfl
  · split
    next h => rw [Lane.afterCut, if_pos h]; rfl
    · unfold Lane.afterUnstage
      split
      · rfl
      next h => simpa using h

/-- What the event of a RESET ends with. -/
theorem coreTail_softReset (s0 : State) {s : State} (he : s.executing = none) :
    coreTail s0 (softReset s) = arbitrate (fours.foldl endFlush (softReset s)) := by
  obtain ⟨hcues, hexec, -, -, hlanes, hstore⟩ := softReset_parts s
  have hst : ∀ l, ((softReset s).lane l).state.holdsStaged = false := fun l => by
    rw [State.lane, hlanes, quad_get_map]; exact afterReset_unstaged _
  obtain ⟨h1, h2⟩ := settleLanes_noCue s0 fours hcues hst
  have hstore' := (congrArg State.store h2).trans hstore
  have hexec' := (congrArg State.executing h2).trans (hexec.trans he)
  clear h2
  rw [coreTail, settleLanes, h1]
  generalize fours.foldl endFlush (softReset s) = u at hstore' hexec' ⊢
  have hdoomed : doomedUnused u = [] := by
    rw [doomedUnused, hstore']
    exact resetStore_doomedUnused _
  rw [freeDoomed_none _ (by rw [hdoomed]; rfl), resume, hexec']

/-- RESET, from the part that replies to it (R133). -/
theorem exec_reset {s : State} {seq : Byte} (h : attends s seq 0x03 = true) :
    exec (.reset seq) s
      = .next (concluded (fours.foldl endFlush (softReset
          (queueReply (txBegin s) seq 0x03 .ok [deviceStateCode (deviceAfterReset s.device)])))) := by
  obtain ⟨-, -, -, -, hexec, -, -, -⟩ := (attends_iff _ _ _).mp h
  have hrun : runRequest (txBegin s) seq .reset
      = (softReset (queueReply (txBegin s) seq 0x03 .ok [deviceStateCode (deviceAfterReset s.device)]), .sent) := by
    show runReset (txBegin s) seq = _
    rw [runReset, txBegin_device]
  have hidle : (queueReply (txBegin s) seq 0x03 .ok [deviceStateCode (deviceAfterReset s.device)]).executing = none := by
    rfl
  have hd : decodeBody (encodeBody .reset) = .ok .reset := rfl
  have hx : execute (txBegin s) seq (encodeBody .reset)
      = arbitrate (fours.foldl endFlush (softReset
          (queueReply (txBegin s) seq 0x03 .ok [deviceStateCode (deviceAfterReset s.device)]))) := by
    rw [execute_run _ _ _ .reset hd (accepted_of_lt_0x20 (by decide) (by decide) _), hrun]
    exact coreTail_softReset _ hidle
  obtain ⟨-, -, -, hlink, -, -⟩ := softReset_parts
    (queueReply (txBegin s) seq 0x03 .ok [deviceStateCode (deviceAfterReset s.device)])
  generalize softReset _ = t at hx hlink ⊢
  have hempty : (arbitrate (fours.foldl endFlush t)).link.inbox = [] := by
    rw [arbitrate_link, (CoreKept.foldl endFlush CoreKept.endFlush fours t).link, hlink]
  refine (exec_command seq .reset s).trans (congrArg Host.Outcome.next ?_)
  rw [hostRequest, requestEvent_eq s seq (encodeBody .reset) (byteAt_encodeBody .reset ▸ h) (encodeBody_ne _) (by decide)
    (by rw [hx]; exact hempty), hx, concluded, ended_of_empty _ hempty]

/-! ### The obligation -/

/-- What the soft reset does to one lane (R54). -/
theorem resetLane_cases (s : State) (l : Fin 4) :
    let x := s.lane l
    let emptied : Lane :=
      { x with
        state := .flushing, held := none, buffer := [], verify := none, holdTimer := none, slotWaiting := false,
        slotIn := 0 }
    (x.state = .emitting →
        (resetLane s l).lane l
          = { emptied with
              release := none, cutCause := some .reset, abortDue := x.pins.valid || x.abortDue,
              pins := if x.pins.valid then x.pins else { Pins.idle with abort := true } })
      ∧ ((x.state = .staging ∨ x.state = .primed) → (resetLane s l).lane l = emptied)
      ∧ (x.state = .flushing → (resetLane s l).lane l = { x with held := none, release := none })
      ∧ ((x.state = .idle ∨ x.state = .stopped) → resetLane s l = s)
      ∧ (∀ m, m ≠ l → (resetLane s l).lane m = s.lane m) := by
  intro x emptied
  refine ⟨fun h => ?emitting, fun h => ?staged, fun h => ?flushing, fun h => ?rest, fun m hm => resetLane_lane s hm⟩
  case emitting =>
    have hx : x.afterReset = x.afterCut .reset := by
      rw [Lane.afterReset, if_neg (by rw [h]; exact nofun), if_pos h]
    rw [resetLane_lane_self]
    refine hx.trans ?_
    rw [Lane.afterCut, if_pos h]
    cases hv : x.pins.valid <;> simp only [Lane.showAbort, hv, Lane.toFlushing, emptied] <;> rfl
  case staged =>
    have hst : x.state.holdsStaged = true := by rcases h with h | h <;> rw [h] <;> rfl
    rw [resetLane_lane_self]
    show x.afterReset = emptied
    rw [Lane.afterReset, if_neg (by rcases h with h | h <;> rw [h] <;> exact nofun),
      if_neg (by rcases h with h | h <;> rw [h] <;> exact nofun), Lane.afterUnstage, if_pos hst]
    rfl
  case flushing =>
    rw [resetLane_lane_self]
    exact if_pos h
  case rest =>
    rcases h with h | h <;> exact (by simp only [resetLane, show (s.lane l).state = _ from h])

/-- What the soft reset leaves of the memory controller's banks, requests and port (R94, R101, R111). -/
theorem softReset_controller (s : State) :
    (softReset s).mc.banks = s.mc.banks ∧ (softReset s).mc.portLeft = s.mc.portLeft
      ∧ (softReset s).mc.readReq = s.mc.readReq
      ∧ (∀ l, (softReset s).mc.laneReq.get l = if (s.lane l).givesUp then none else s.mc.laneReq.get l)
      ∧ (softReset s).mc.fillReq = (if inColumn s .fill then s.mc.fillReq else none)
      ∧ (softReset s).mc.port
          = s.mc.port.map (fun op =>
              let given := op.withdrawIf (resetGivesUp s)
              if s.device = .initializing then given.abandon else given) := by
  have hfill : (s.mc.giveUp (resetGivesUp s)).fillReq = if inColumn s .fill then s.mc.fillReq else none := by
    cases hc : inColumn s .fill <;> simp [MemControl.giveUp, resetGivesUp, hc]
  by_cases h : s.device = .initializing
  · obtain ⟨-, hmc, -⟩ := softReset_initializing h
    rw [hmc]
    refine ⟨rfl, rfl, rfl, MemControl.giveUp_laneReq _ _, hfill, ?_⟩
    simp only [MemControl.giveUp, Option.map_map, h, if_true]
    rfl
  · obtain ⟨-, hmc, -⟩ := softReset_other h
    rw [hmc]
    refine ⟨rfl, rfl, rfl, MemControl.giveUp_laneReq _ _, hfill, ?_⟩
    simp only [MemControl.giveUp, h, if_false]

/-- The store after the soft reset, where the directory is in order (R94). -/
theorem softReset_store {s : State} (hs : sortedKeys s.store.directory = true) :
    (inColumn s .fill = false →
        (softReset s).store =
          { directory := cleared s.store.directory (fun st => decide (st = .sealed)),
            pool := s.store.pool ++ blocksOf s.store.directory (fun st => decide (st = .doomed))
              ++ blocksOf s.store.directory (fun st => decide (st = .filling)),
            chunks := [], leaving := [] })
      ∧ (inColumn s .fill = true →
          (softReset s).store =
            { directory := cleared s.store.directory (fun st => decide (st ≠ .doomed)),
              pool := s.store.pool ++ blocksOf s.store.directory (fun st => decide (st = .doomed)),
              chunks := s.store.chunks.take 1,
              leaving := (s.store.directory.filter (fun e => decide (e.2.state = .filling))).map Prod.fst }) := by
  obtain ⟨-, -, -, -, -, hstore⟩ := softReset_parts s
  have hcol : inColumn (resetCues (resetLink s)) .fill = inColumn s .fill :=
    inColumn_giveUp (s := s) (resetCues_mc (resetLink s)) .fill
  have hsame : (resetCues (resetLink s)).store = s.store := by rw [resetCues_eq]; rfl
  have := resetStore_store (s := resetCues (resetLink s)) (hsame ▸ hs)
  rw [hcol, hsame] at this
  rw [hstore]
  exact this

/-- The part that has queued the reply to RESET, but for its link. -/
structure RepliesAs (s b : State) : Prop where
  device : b.device = s.device
  time : b.time = s.time
  triggers : b.triggers = s.triggers
  mem : b.mem = s.mem
  inReset : b.inReset = s.inReset
  lanes : b.lanes = s.lanes
  mc : b.mc = s.mc
  refresh : b.refresh = s.refresh
  store : b.store = s.store

theorem repliesAs_queueReply (s : State) (seq code : Byte) (st : Status) (res : List Byte) :
    RepliesAs s (queueReply (txBegin s) seq code st res) :=
  ⟨txBegin_device s, txBegin_time s, txBegin_triggers s, txBegin_mem s, txBegin_inReset s, txBegin_lanes s,
    txBegin_mc s, txBegin_refresh s, txBegin_store s⟩

/-- A lane's soft reset is that of the same lane in a part with another link. -/
theorem softReset_lane {s b : State} (h : RepliesAs s b) (l : Fin 4) :
    (softReset b).lane l = (resetLane s l).lane l := by
  obtain ⟨-, -, -, -, hlanes, -⟩ := softReset_parts b
  rw [resetLane_lane_self, State.lane, hlanes, quad_get_map, h.lanes, State.lane]

theorem deviceAfterReset_eq (d : DeviceState) :
    deviceAfterReset d = if d = .initializing then .unconfigured else d := by
  cases d <;> rfl

/-- Settles O13: the soft reset block by block, and the event that it falls in. -/
theorem softResetAsStated : Obligations.SoftReset := by
  unfold Obligations.SoftReset
  refine ⟨fun seq s h => ?_, resetLane_cases⟩
  intro a after t active
  have hexec := exec_reset h
  rw [deviceAfterReset_eq] at hexec
  have hb := repliesAs_queueReply s seq 0x03 .ok [deviceStateCode after]
  have hreset : s.inReset = false := by
    obtain ⟨hr, -⟩ := (attends_iff _ _ _).mp h; exact hr
  have hbe : (queueReply a seq 0x03 .ok [deviceStateCode after]).executing = none := rfl
  have hactive : ∀ l, (s.lane l).givesUp = true ↔ active l := fun l => Lane.givesUp_iff _
  have hafter : after = if s.device = .initializing then .unconfigured else s.device := rfl
  have ht : t = softReset (queueReply a seq 0x03 .ok [deviceStateCode after]) := rfl
  change exec (.reset seq) s = .next (concluded (fours.foldl endFlush t)) at hexec
  clear_value t after active
  generalize queueReply a seq 0x03 .ok [deviceStateCode after] = b at ht hb hbe ⊢
  obtain ⟨hcues, hidle, hnone, hlink, -, -⟩ := softReset_parts b
  obtain ⟨hbanks, hleft, hread, hlane, hfill, hport⟩ := softReset_controller b
  obtain ⟨hmem, htime, htriggers⟩ := softReset_world b
  obtain ⟨-, hinReset, -⟩ := softReset_pending b
  have hnotices := softReset_notices b
  have hother := softReset_other (s := b)
  have hinit := softReset_initializing (s := b)
  have hstore := softReset_store (s := b)
  have hsoft := softReset_lane hb
  have hcol : inColumn b .fill = inColumn s .fill := by unfold inColumn; rw [hb.mc]
  have hlanes : ∀ l, b.lane l = s.lane l := lane_congr hb.lanes
  rw [hb.mc] at hbanks hleft hread hlane hfill hport
  rw [hb.store] at hstore
  rw [hb.device] at hport hother hinit
  rw [← ht] at *
  clear ht
  refine ⟨hexec, hcues, hidle.trans hbe, hnone, hlink, hnotices, ?device, htime.trans (by rw [hb.time]), fun l => ?line,
    hmem.trans hb.mem, hinReset.trans (hb.inReset.trans hreset), hsoft, fun hd => ?abandoned, fun hd => ?goesOn,
    hbanks, hleft, hread, fun l => ?request, fun hp => ?free, fun x hp => ?refresh, fun c d hp => ?bringUp,
    fun x hp => ?transaction, fun hsorted => ?payloads⟩
  case device =>
    rw [hafter]
    by_cases hd : s.device = .initializing
    · rw [if_pos hd]; exact (hinit hd).1
    · rw [if_neg hd]; exact (hother hd).1
  case line =>
    rw [htriggers, hb.triggers]
    exact quad_get_map _ _ _
  case abandoned =>
    obtain ⟨-, hmc, hrefresh⟩ := hinit hd
    exact ⟨congrArg MemControl.profile hmc, congrArg MemControl.bringUp hmc, hrefresh⟩
  case goesOn =>
    obtain ⟨-, hmc, hrefresh⟩ := hother hd
    exact ⟨(congrArg MemControl.profile hmc).trans (by rw [hb.mc]; rfl), hrefresh.trans hb.refresh⟩
  case request =>
    rw [hlane, hlanes]
    exact ⟨fun ha => if_pos ((hactive l).mpr ha), fun ha => if_neg (fun hx => ha ((hactive l).mp hx))⟩
  case free => rw [hport, hp]; rfl
  case refresh =>
    rw [hport, hp]
    exact congrArg some (ite_self _)
  case bringUp =>
    rw [hport, hp]
    by_cases hd : s.device = .initializing <;> simp [hd, PortOp.withdrawIf, PortOp.abandon]
  case transaction =>
    have hport' : t.mc.port = some (.transaction (x.withdrawIf (resetGivesUp b))) := by
      rw [hport, hp]
      exact congrArg some (ite_self _)
    intro givenUp
    refine ⟨fun hg => hport'.trans ?_, fun hg => hport'.trans ?_⟩
    · obtain ⟨⟨c, hc⟩, hr⟩ := hg
      refine congrArg (some ∘ PortOp.transaction) (Transaction.withdrawIf_row hc ?_)
      rcases hr with hr | ⟨l, hr, hl⟩
      · have : inColumn s .fill = false := by
          simp only [inColumn, hp, hc, Bool.and_eq_false_iff, decide_eq_false_iff_not]
          exact .inr nofun
        rw [hr, resetGivesUp, hcol, this]
        rfl
      · rw [hr, resetGivesUp, hlanes]
        exact (hactive l).mpr hl
    · refine congrArg (some ∘ PortOp.transaction) ?_
      rcases x.withdrawIf_eq (resetGivesUp b) with hx | ⟨hrow, hgiven, -⟩
      · exact hx
      · refine absurd ⟨hrow, ?_⟩ hg
        cases hr : x.requester with
        | lane l =>
          rw [hr, resetGivesUp, hlanes] at hgiven
          exact .inr ⟨l, rfl, (hactive l).mp hgiven⟩
        | fill => exact .inl rfl
        | readBack => rw [hr] at hgiven; cases hgiven
  case payloads =>
    obtain ⟨hwait, hcolumn⟩ := hstore hsorted
    rw [hcol] at hfill hwait hcolumn
    exact ⟨fun hc => ⟨hfill.trans (if_neg (by rw [hc]; exact nofun)), hwait hc⟩,
      fun hc => ⟨hfill.trans (if_pos hc), hcolumn hc⟩⟩

end Sys2Proof.Machine
end

section
/-!
PROOFS. What arrives on the receive line (R140 to R148, R152): requests (O29), SYNCs (O30), what is discarded (O31), and
the byte that moves the framer (O35); and the resend timer (O33).
-/

namespace Sys2Proof.Machine

/-! ### The end of an event whose interpreter is not free -/

/-- While a request executes, or a frame leaves and an executed reply waits behind it, the interpreter takes nothing at
the end of an event (R149). -/
theorem ended_of_busy {s : State} (h : s.executing.isSome = true ∨ (s.link.tx.isSome = true ∧ replyWaits s = true)) :
    ended s = heard s := by
  rcases h with h | ⟨htx, hw⟩
  · exact linkSettle_of_executing _ (by simpa using h)
  · have htx' : s.offerRaised.link.tx.isSome = true := by simpa using htx
    have hw' : replyWaits s.offerRaised = true := by simpa [replyWaits] using hw
    have hturn : linkTurn s.offerRaised = s.offerRaised := by
      rw [linkTurn, txBegin_of_busy _ htx', takeNext_of_busy _ (.inr hw')]
    rw [ended, linkSettle, hturn, hturn, heard, txBegin_of_busy _ htx']

/-- Where an executed reply waits, the transmitter is not free. -/
theorem txBegin_isSome_of_waits {s : State} (h : replyWaits (txBegin s) = true) : (txBegin s).link.tx.isSome = true := by
  rcases txBegin_after s with htx | ⟨hs, -, hq, -⟩
  · exact htx
  · rw [hs, replyWaits, hq] at h
    cases h

/-! ### Requests that arrive -/

/-- A request is in progress: it waits, executes, or its executed reply waits (R146). -/
theorem inProgress_iff (s : State) (seq : Byte) :
    inProgress s seq = true ↔ (∃ e ∈ s.link.inbox, e.seq = seq) ∨ (∃ e, s.executing = some e ∧ e.seq = seq)
      ∨ (∃ f, QueuedReply.executed f ∈ s.link.replyQueue ∧ f.seq = seq) := by
  have hq : s.link.replyQueue.any (fun q => q.answers seq) = true
      ↔ ∃ f, QueuedReply.executed f ∈ s.link.replyQueue ∧ f.seq = seq := by
    rw [List.any_eq_true]
    constructor
    · rintro ⟨q, hmem, hq⟩
      cases q with
      | executed f => exact ⟨f, hmem, of_decide_eq_true hq⟩
      | syncDone => cases hq
    · rintro ⟨f, hmem, hf⟩
      exact ⟨_, hmem, decide_eq_true hf⟩
  have hinbox : s.link.inbox.any (fun e => decide (e.seq = seq)) = true ↔ ∃ e ∈ s.link.inbox, e.seq = seq := by
    simp only [List.any_eq_true, decide_eq_true_eq]
  unfold inProgress
  cases s.executing with
  | none =>
    rw [Bool.or_eq_true, Bool.or_eq_true, hinbox, hq, or_assoc]
    simp
  | some e =>
    rw [Bool.or_eq_true, Bool.or_eq_true, hinbox, hq, or_assoc]
    simp

/-- The first stored reply of this seq and code. -/
theorem storedFor_append {s : State} {seq code : Byte} {older newer : List StoredReply} {e : StoredReply}
    (h : s.link.replies = older ++ e :: newer) (hold : ∀ x ∈ older, ¬ (x ∈ s.link.replies ∧ x.seq = seq ∧ x.code = code))
    (he : e.seq = seq ∧ e.code = code) : storedFor s seq code = some e := by
  have hnone : older.find? (fun x => decide (x.seq = seq) && decide (x.code = code)) = none := by
    rw [List.find?_eq_none]
    intro x hx hp
    simp only [Bool.and_eq_true, decide_eq_true_eq] at hp
    exact hold x hx ⟨by rw [h]; exact List.mem_append_left _ hx, hp⟩
  rw [storedFor, h, List.find?_append, hnone, Option.none_or, List.find?_cons_of_pos (by simp [he])]

theorem storedFor_none {s : State} {seq code : Byte}
    (h : ∀ e, ¬ (e ∈ s.link.replies ∧ e.seq = seq ∧ e.code = code)) : storedFor s seq code = none := by
  rw [storedFor, List.find?_eq_none]
  intro x hx hp
  simp only [Bool.and_eq_true, decide_eq_true_eq] at hp
  exact h x ⟨hx, hp⟩

theorem joinPrompt_room {s : State} {f : Frame} (h : s.link.prompt.length < 4) :
    joinPrompt s f = { s with link := { s.link with prompt := s.link.prompt ++ [f] } } := if_pos h

theorem joinPrompt_full {s : State} {f : Frame} (h : 4 ≤ s.link.prompt.length) : joinPrompt s f = s :=
  if_neg (Nat.not_lt.mpr h)

theorem resendStored_waits {s : State} {f : Frame} (h : f ∈ s.link.prompt ∨ 4 ≤ s.link.prompt.length) :
    resendStored s f = s := by
  unfold resendStored
  split
  · rfl
  next hnot => exact joinPrompt_full (h.resolve_left hnot)

/-- A request that is not in progress and has a stored reply is answered with it (R146). -/
theorem sortRequest_stored {s : State} {seq : Byte} {body : List Byte} {e : StoredReply} (hp : inProgress s seq = false)
    (h : storedFor s seq (byteAt body 0) = some e) : sortRequest s seq body = resendStored s e.frame := by
  rw [sortRequest, hp, if_neg Bool.false_ne_true, h]

/-- Without a stored reply it joins the inbox, or is told that the inbox is full (R147, R148). -/
theorem sortRequest_new {s : State} {seq : Byte} {body : List Byte} (hp : inProgress s seq = false)
    (h : storedFor s seq (byteAt body 0) = none) :
    sortRequest s seq body
      = if 4 ≤ s.link.inbox.length then joinPrompt s (replyFrame seq (byteAt body 0) .inboxFull [])
        else { s with link := { s.link with inbox := s.link.inbox ++ [{ seq := seq, body := body }] } } := by
  rw [sortRequest, hp, if_neg Bool.false_ne_true, h]
  rfl

/-- A REQUEST that arrives is sorted at the end of its frame. -/
theorem exec_requestArrival {s : State} {seq : Byte} {body : List Byte} (hr : s.inReset = false)
    (hl : s.link.line = .on) (hb : body ≠ []) (hlen : body.length ≤ 1040) :
    exec (.requestArrival seq body) s = .next (ended (sortRequest (setFramer (txBegin s) .hunt) seq body)) := by
  show Host.Outcome.next (frameEvent (fun a => requestFrame (frameEnds a) seq body) s) = _
  rw [frameEvent_eq _ _ hl, event_ended _ _ hr, requestFrame, if_neg]
  · rfl
  · rintro (h | h)
    · exact hb (List.isEmpty_iff.mp h)
    · exact absurd hlen (Nat.not_le.mpr h)

/-- Settles O29: the sorting of R146 to R148. -/
theorem requestArrivalIsSorted : Obligations.RequestArrivalIsSorted := by
  unfold Obligations.RequestArrivalIsSorted
  intro seq body s hr hb hlen a code full waits arrives prompted busy stored
  have harrives : ∀ u : State, s.link.line = .on → sortRequest a seq body = u → u.executing = s.executing →
      u.link.tx = a.link.tx → u.link.replyQueue = a.link.replyQueue → arrives u := by
    intro u hl hu hx htx hq
    have hexec := exec_requestArrival (seq := seq) hr hl hb hlen
    change exec _ s = .next (ended (sortRequest a seq body)) at hexec
    rw [hu] at hexec
    refine ⟨hexec, fun hbusy => hexec.trans (congrArg Host.Outcome.next (ended_of_busy ?_))⟩
    rcases hbusy with h | h
    · exact .inl (hx ▸ h)
    · have hw : replyWaits a = true := (replyWaits_iff a).mpr h
      refine .inr ⟨htx ▸ txBegin_isSome_of_waits (s := s) hw, ?_⟩
      rw [replyWaits, hq]
      exact hw
  have hax : a.executing = s.executing := txBegin_executing s
  refine ⟨fun hl => congrArg Host.Outcome.next (frameEvent_arming _ _ hl),
    fun hl hbusy => harrives a hl (if_pos ((inProgress_iff a seq).mpr hbusy)) hax rfl rfl,
    fun hl hfree => ⟨fun older e newer hre hold he => ⟨fun hcopy => ?copied, fun hnew hroom => ?resent⟩,
      fun hnone hfull => ⟨fun hroom => ?told, fun hno => ?dropped⟩, fun hnone hroom => ?admitted⟩⟩
  all_goals
    have hp : inProgress a seq = false := Bool.eq_false_iff.mpr fun h => hfree ((inProgress_iff a seq).mp h)
  case copied =>
    exact harrives a hl ((sortRequest_stored hp (storedFor_append hre hold he.2)).trans (resendStored_waits hcopy))
      hax rfl rfl
  case resent =>
    exact harrives (prompted e.frame) hl ((sortRequest_stored hp (storedFor_append hre hold he.2)).trans
      ((if_neg hnew).trans (joinPrompt_room hroom))) hax rfl rfl
  case told =>
    exact harrives (prompted full) hl ((sortRequest_new hp (storedFor_none hnone)).trans
      ((if_pos hfull).trans (joinPrompt_room hroom))) hax rfl rfl
  case dropped =>
    exact harrives a hl ((sortRequest_new hp (storedFor_none hnone)).trans
      ((if_pos hfull).trans (joinPrompt_full hno))) hax rfl rfl
  case admitted =>
    exact harrives _ hl ((sortRequest_new hp (storedFor_none hnone)).trans (if_neg (Nat.not_le.mpr hroom))) hax rfl rfl

/-! ### SYNCs -/

/-- Settles O30: a SYNC as it arrives, and one that is pending. -/
theorem syncIsAnswered : Obligations.SyncIsAnswered := by
  unfold Obligations.SyncIsAnswered
  refine ⟨fun seq s hr => ?arrives, fun s hr => ?pending⟩
  case arrives =>
    intro a
    have hax : a.executing = s.executing := txBegin_executing s
    have hexec : s.link.line = .on → exec (.syncArrival seq) s = .next (ended (handleSync a seq)) := fun hl => by
      show Host.Outcome.next (frameEvent _ s) = _
      rw [frameEvent_eq _ _ hl, event_ended _ _ hr]
      rfl
    refine ⟨fun hl => congrArg Host.Outcome.next (frameEvent_arming _ _ hl), fun hl he => ?idle, fun hl he => ?executing⟩
    case idle =>
      refine (hexec hl).trans (congrArg Host.Outcome.next ?_)
      simp only [handleSync, show a.executing = none from hax.trans he]
      exact ended_of_empty _ rfl
    case executing =>
      obtain ⟨e, he⟩ := Option.isSome_iff_exists.mp he
      refine (hexec hl).trans (congrArg Host.Outcome.next ?_)
      simp only [handleSync, show a.executing = some e from hax.trans he]
      exact ended_of_empty _ rfl
  case pending =>
    intro a
    refine ⟨fun q he hq => ?answered, fun h => congrArg Host.Outcome.next (if_neg ?nothing)⟩
    case answered =>
      refine congrArg Host.Outcome.next ((eventIf_ended _ _ s ?_ hr).trans ?_)
      · simp only [he, hq]; rfl
      · have hq' : a.link.pendingSync = some q := (txBegin_pendingSync s).trans hq
        show ended (syncDeferred a) = _
        simp only [syncDeferred, hq']
        rfl
    case nothing =>
      rcases h with h | h
      · obtain ⟨e, he⟩ := Option.isSome_iff_exists.mp h
        simp [he]
      · simp [h]

/-! ### What is discarded -/

/-- A frame that fails a test of R145 is discarded. -/
theorem judge_discarded {type seq : Byte} {body : List Byte} {check : BitVec 16}
    (h : check ≠ crc16 (type :: seq :: toLE 2 body.length ++ body) ∨ (type ≠ 0x01 ∧ type ≠ 0x02)
      ∨ (type = 0x01 ∧ body = []) ∨ (type = 0x02 ∧ body ≠ [])) :
    judge { frameType := type, seq := seq, body := body, check := check } = .discarded := by
  unfold judge
  dsimp only
  split
  · rfl
  next hcheck =>
    rcases h with h | ⟨h1, h2⟩ | ⟨h1, h2⟩ | ⟨h1, h2⟩
    · exact absurd h hcheck
    · rw [if_neg h1, if_neg h2]
    · rw [if_pos h1, h2]; rfl
    · rw [h1, if_neg (by decide), if_pos rfl, if_neg]
      simpa using h2

/-- Settles O31: bad and partial frames. -/
theorem framesDiscarded : Obligations.FramesDiscarded := by
  unfold Obligations.FramesDiscarded
  refine ⟨fun type seq body check s hr hbad => ⟨fun hl => congrArg Host.Outcome.next (frameEvent_arming _ _ hl),
    fun hl => congrArg Host.Outcome.next ?bad⟩, fun s hr => ?partial_⟩
  case bad =>
    rw [frameEvent_eq _ _ hl, event_ended _ _ hr]
    refine congrArg ended ?_
    split
    · rfl
    · rw [arriveFrame, judge_discarded hbad]
      rfl
  case partial_ =>
    intro t
    refine ⟨fun t0 h0 => ⟨fun hgap => congrArg Host.Outcome.next ?expired, fun hgap => congrArg Host.Outcome.next
        (if_neg ?early)⟩, fun h0 => congrArg Host.Outcome.next (if_neg ?stopped), fun hl => congrArg Host.Outcome.next
        ((frameEvent_eq _ _ hl).trans (event_ended _ _ hr)), fun hl => congrArg Host.Outcome.next
        (frameEvent_arming _ _ hl), congrArg Host.Outcome.next (event_ended _ _ hr)⟩
    case expired =>
      refine eventIf_ended _ _ s ?_ hr
      simp only [gapExpired, h0]
      exact decide_eq_true hgap
    case early =>
      simp only [gapExpired, h0, decide_eq_true_eq]
      exact Nat.not_le.mpr hgap
    case stopped => simp [gapExpired, h0]

/-! ### The resend timer -/

/-- Settles O33: the timer of R165. -/
theorem resendTimer : Obligations.ResendTimer := by
  unfold Obligations.ResendTimer
  intro s hr
  refine ⟨fun n rest t0 hh hn h0 => ⟨fun hlong => ?expired, fun hshort => congrArg Host.Outcome.next (if_neg ?early)⟩,
    fun n rest hh hn => congrArg Host.Outcome.next (if_neg ?unsent),
    fun hh => congrArg Host.Outcome.next (if_neg ?none_)⟩
  case expired =>
    refine congrArg Host.Outcome.next (eventIf_ended _ _ s ?_ hr)
    simp only [resendDue, hh, h0, hn, decide_true, Bool.true_and]
    exact decide_eq_true hlong
  case early =>
    simp only [resendDue, hh, h0, hn, decide_true, Bool.true_and, decide_eq_true_eq]
    exact Nat.not_le.mpr hshort
  case unsent =>
    simp only [resendDue, hh]
    cases n.lastSent <;> simp [hn]
  case none_ => simp [resendDue, hh]

/-! ### Bytes -/

/-- A byte that completes no frame. -/
theorem takeByte_noFrame {s : State} {b : Byte} {f : Framer} (hl : s.link.line = .on)
    (h : s.link.framer.take b = (f, none)) : takeByte s b = setFramer s f := by
  simp only [takeByte, hl, h]

/-- Settles O35: the transition of R143. -/
theorem byteMovesTheFramer : Obligations.ByteMovesTheFramer := by
  unfold Obligations.ByteMovesTheFramer
  intro b s hr a goes
  have hexec : exec (.byteReceived b) s = .next (ended (takeByte a b)) :=
    congrArg Host.Outcome.next (event_ended _ s hr)
  refine ⟨fun hl => ?arming, fun hl => ?on⟩
  case arming =>
    have hla : a.link.line = .arming := (txBegin_line s).trans hl
    rw [hexec, takeByte, hla]
  case on =>
    have hgoes : ∀ f, a.link.framer.take b = (f, none) → goes f := fun f hf => by
      refine hexec.trans ?_
      rw [takeByte_noFrame ((txBegin_line s).trans hl) hf]
      show Host.Outcome.next (ended (setFramer a f)) = _
      rw [setFramer, show a.time = s.time from txBegin_time s]
    have hf : ∀ f, s.link.framer = f → a.link.framer = f := fun f h => (txBegin_framer s).trans h
    refine ⟨fun h => hgoes _ ?_, fun h => hgoes _ ?_, fun t h => hgoes _ ?_, fun t q h => hgoes _ ?_,
      fun t q low h => ?_, fun t q n bytes h => hgoes _ ?_, fun t q bytes h => hgoes _ ?_⟩
    · rw [hf _ h]; rfl
    · rw [hf _ h]; rfl
    · rw [hf _ h]; rfl
    · rw [hf _ h]; rfl
    · refine hgoes _ ?_
      rw [hf _ h]; rfl
    · rw [hf _ h]
      simp only [Framer.take, List.length_append, List.length_cons, List.length_nil, Nat.zero_add]
      by_cases hn : bytes.length + 1 < n
      · rw [if_pos hn, if_neg (Nat.not_le.mpr hn)]
      · rw [if_neg hn, if_pos (Nat.not_lt.mp hn)]
    · rw [hf _ h]; rfl

end Sys2Proof.Machine
end

section
/-!
PROOFS. A frame received byte by byte is its arrival, and a request made by name is its frame (O36). On a link that has
nothing to do a byte moves the framer alone, so that the bytes of a frame run the framer from HUNT to its check, and the
last one brings the frame.
-/

namespace Sys2Proof.Machine

/-- A part whose link has nothing to do at the end of an event but what the event itself brings. -/
structure LinkQuiet (s : State) : Prop where
  inReset : s.inReset = false
  raised : s.raised = []
  line : s.link.line = .on
  begins : txBegin s = s
  takes : takesNothing s = true ∨ replyWaits s = true

/-- The framer is written over. -/
theorem setFramer_setFramer (s : State) (f g : Framer) : setFramer (setFramer s f) g = setFramer s g := rfl

/-- A framer in HUNT with its gap timer stopped is as `setFramer` leaves it. -/
theorem setFramer_hunt {s : State} (hf : s.link.framer = .hunt) (hg : s.link.gapTimer = none) :
    setFramer s .hunt = s := by
  unfold setFramer
  rw [if_pos rfl, ← hf, ← hg]

/-- The framer is no work for the link. -/
theorem LinkQuiet.setFramer {s : State} (hs : LinkQuiet s) (f : Framer) : ended (setFramer s f) = setFramer s f := by
  have hbegin : txBegin (Machine.setFramer s f) = Machine.setFramer s f := by rw [txBegin_setFramer, hs.begins]
  have htake : takeNext (Machine.setFramer s f) = Machine.setFramer s f := by
    rcases hs.takes with h | h
    · rw [takesNothing, Bool.or_eq_true] at h
      rcases h with h | h
      · exact takeNext_of_empty _ (List.isEmpty_iff.mp h)
      · exact takeNext_of_busy _ (.inl h)
    · exact takeNext_of_busy _ (.inr h)
  have hturn : linkTurn (Machine.setFramer s f) = Machine.setFramer s f := by rw [linkTurn, hbegin, htake]
  rw [ended, offerRaised_of_nil (show (Machine.setFramer s f).raised = [] from hs.raised), linkSettle, hturn, hturn]

/-- A byte that completes no frame. -/
theorem LinkQuiet.byte {s : State} (hs : LinkQuiet s) {f g : Framer} {b : Byte} (h : f.take b = (g, none)) :
    exec (.byteReceived b) (Machine.setFramer s f) = .next (Machine.setFramer s g) := by
  refine congrArg Host.Outcome.next ((event_ended (fun a => takeByte a b) (Machine.setFramer s f) hs.inReset).trans ?_)
  rw [txBegin_setFramer, hs.begins, takeByte_noFrame (s := Machine.setFramer s f) hs.line h, setFramer_setFramer]
  exact hs.setFramer g

/-- The byte that completes a frame. -/
theorem LinkQuiet.lastByte {s : State} (hs : LinkQuiet s) {f : Framer} {b : Byte} {r : Received}
    (h : f.take b = (.hunt, some r)) :
    exec (.byteReceived b) (Machine.setFramer s f) = .next (ended (arriveFrame (Machine.setFramer s .hunt) r)) := by
  refine congrArg Host.Outcome.next ((event_ended (fun a => takeByte a b) (Machine.setFramer s f) hs.inReset).trans ?_)
  have hl : (Machine.setFramer s f).link.line = .on := hs.line
  have hf : (Machine.setFramer s f).link.framer.take b = (.hunt, some r) := h
  rw [txBegin_setFramer, hs.begins, takeByte, hl]
  simp only [hf]
  rfl

theorem receiveAll_cons {s t : State} {b : Byte} (bytes : List Byte) (h : exec (.byteReceived b) s = .next t) :
    receiveAll (b :: bytes) s = receiveAll bytes t := by
  rw [receiveAll, List.map_cons, execAll, h]
  rfl

theorem receiveAll_one {s t : State} {b : Byte} (h : exec (.byteReceived b) s = .next t) :
    receiveAll [b] s = .next t := receiveAll_cons [] h

/-- The bytes of a body. -/
theorem LinkQuiet.body {s : State} (hs : LinkQuiet s) (t q : Byte) (n : Nat) (more : List Byte) (rest : List Byte) :
    ∀ got : List Byte, rest ≠ [] → got.length + rest.length = n →
      receiveAll (rest ++ more) (Machine.setFramer s (.body t q n got))
        = receiveAll more (Machine.setFramer s (.checkLow t q (got ++ rest))) := by
  induction rest with
  | nil => exact fun got h => absurd rfl h
  | cons b rest ih =>
    intro got _ hn
    rw [List.length_cons] at hn
    cases rest with
    | nil =>
      refine receiveAll_cons _ (hs.byte ?_)
      simp only [Framer.take, List.length_append, List.length_cons, List.length_nil]
      rw [if_pos (by simp only [List.length_nil] at hn; omega)]
    | cons c rest =>
      have hmove : (Framer.body t q n got).take b = (.body t q n (got ++ [b]), none) := by
        simp only [Framer.take, List.length_append, List.length_cons, List.length_nil]
        rw [if_neg (by rw [List.length_cons] at hn; omega)]
      rw [List.cons_append, receiveAll_cons _ (hs.byte hmove), ih (got ++ [b]) nofun (by
        rw [List.length_append, List.length_cons, List.length_nil]; omega), List.append_assoc]
      rfl

/-- The two bytes of a number below 65,536. -/
theorem twoBytes {n : Nat} (h : n < 65536) :
    (BitVec.ofNat 8 n).toNat + 256 * (BitVec.ofNat 8 (n / 256)).toNat = n := by
  rw [BitVec.toNat_ofNat, BitVec.toNat_ofNat]
  omega

/-- A whole frame, from a framer in HUNT. -/
theorem LinkQuiet.frame {s : State} (hs : LinkQuiet s) (t q : Byte) {body : List Byte} (hlen : body.length ≤ 1040) :
    receiveAll (frameBytes { frameType := t, seq := q, body := body }) (Machine.setFramer s .hunt)
      = .next (ended (arriveFrame (Machine.setFramer s .hunt)
          { frameType := t, seq := q, body := body, check := crc16 (coveredBytes t q body) })) := by
  generalize hcheck : crc16 (coveredBytes t q body) = check
  have hbytes : frameBytes { frameType := t, seq := q, body := body }
      = 0xC5 :: t :: q :: BitVec.ofNat 8 body.length :: BitVec.ofNat 8 (body.length / 256)
          :: (body ++ [BitVec.ofNat 8 check.toNat, BitVec.ofNat 8 (check.toNat / 256)]) := by
    simp only [frameBytes, hcheck]
    rfl
  have hlast : (Framer.checkHigh t q body (BitVec.ofNat 8 check.toNat)).take (BitVec.ofNat 8 (check.toNat / 256))
      = (.hunt, some { frameType := t, seq := q, body := body, check := check }) := by
    simp only [Framer.take]
    rw [twoBytes (show check.toNat < 65536 from check.isLt), BitVec.ofNat_toNat, BitVec.setWidth_eq]
  have hend : receiveAll [BitVec.ofNat 8 check.toNat, BitVec.ofNat 8 (check.toNat / 256)]
      (Machine.setFramer s (.checkLow t q body)) = .next (ended (arriveFrame (Machine.setFramer s .hunt)
        { frameType := t, seq := q, body := body, check := check })) := by
    rw [receiveAll_cons _ (hs.byte (g := .checkHigh t q body (BitVec.ofNat 8 check.toNat)) rfl)]
    exact receiveAll_one (hs.lastByte hlast)
  have hlength : (Framer.lengthHigh t q (BitVec.ofNat 8 body.length)).take (BitVec.ofNat 8 (body.length / 256))
      = (framerLength t q body.length, none) := by
    simp only [Framer.take, twoBytes (show body.length < 65536 by omega)]
  rw [hbytes, receiveAll_cons _ (hs.byte (g := .type) rfl), receiveAll_cons _ (hs.byte (g := .seq t) rfl),
    receiveAll_cons _ (hs.byte (g := .lengthLow t q) rfl),
    receiveAll_cons _ (hs.byte (g := .lengthHigh t q (BitVec.ofNat 8 body.length)) rfl),
    receiveAll_cons _ (hs.byte hlength), framerLength,
    if_neg (show ¬ Config.maxBody < body.length from Nat.not_lt.mpr hlen)]
  cases body with
  | nil => exact hend
  | cons b body =>
    rw [if_neg (show ¬ (b :: body).length = 0 from Nat.succ_ne_zero _),
      hs.body t q _ _ (b :: body) [] (List.cons_ne_nil b body) (Nat.zero_add _)]
    exact hend

/-- Settles O36: the bytes of a frame, and the frame of a request by name. -/
theorem framesAndNames : Obligations.FramesAndNames := by
  unfold Obligations.FramesAndNames
  refine ⟨fun seq body s hr hq hl hf hg hb ht => ?bytes, fun r seq s hf hg => ?names⟩
  case bytes =>
    have hs : LinkQuiet s := ⟨hr, hq, hl, hb, ht⟩
    have hhunt : setFramer s .hunt = s := setFramer_hunt hf hg
    refine ⟨fun hne hlen => ?_, ?_⟩
    · have hframe := hs.frame 0x01 seq hlen
      have hjudge : judge { frameType := 0x01, seq := seq, body := body, check := crc16 (coveredBytes 0x01 seq body) }
          = .request := by
        rw [judge, if_neg (not_not_intro rfl), if_pos rfl, if_neg]
        simpa using hne
      rw [hhunt, arriveFrame, hjudge] at hframe
      rw [hframe, exec_requestArrival hr hl hne hlen, hb, hhunt]
    · have hframe := hs.frame 0x02 seq (body := []) (Nat.zero_le _)
      have hjudge : judge { frameType := 0x02, seq := seq, body := [], check := crc16 (coveredBytes 0x02 seq []) }
          = .sync := by
        rw [judge, if_neg (not_not_intro rfl), if_neg (by decide : ¬ (0x02 : Byte) = 0x01)]
        rfl
      rw [hhunt, arriveFrame, hjudge] at hframe
      refine hframe.trans (congrArg Host.Outcome.next ?_)
      rw [frameEvent_eq _ _ hl, event_ended _ _ hr, hb]
      show _ = ended (handleSync (setFramer s .hunt) seq)
      rw [hhunt]
  case names =>
    rw [exec_command]
    refine congrArg Host.Outcome.next ?_
    cases hr : s.inReset with
    | true => rw [hostRequest_inReset hr, frameEvent_inReset hr]
    | false =>
      cases hl : s.link.line with
      | arming => rw [frameEvent_arming _ _ hl]; exact frameEvent_arming _ _ hl
      | on =>
        rw [frameEvent_frameEnds (fun a => requestFrame a seq (encodeBody r)) hr hl,
          show frameEnds s = s from setFramer_hunt hf hg]
        rfl

end Sys2Proof.Machine
end

section
/-!
PROOFS. The transmitter and the interpreter (R149, R154, R155, R164; O32): what a free transmitter begins, what the
end of an event takes from the inbox, and that the requests that wait behind a request do not change what it does.
-/

namespace Sys2Proof.Machine

/-! ### The transmitter -/

/-- The oldest DUE notice among the held ones, and how it begins (R164). -/
theorem firstDue_append {q : NoticeQueue} {n : Notice} {before after : List Notice} (h : q.held = before ++ n :: after)
    (hb : ∀ x ∈ before, x.send ≠ .due) (hn : n.send = .due) :
    nextDueNotice q = some n
      ∧ beginFirstDue q.held = before ++ { n with send := .sending, again := false } :: after := by
  have hnone : before.find? (fun n => decide (n.send = .due)) = none := by
    rw [List.find?_eq_none]
    intro x hx hp
    exact hb x hx (of_decide_eq_true hp)
  refine ⟨?_, ?_⟩
  · rw [nextDueNotice, h, List.find?_append, hnone, Option.none_or, List.find?_cons_of_pos (by simp [hn])]
  · rw [h]
    clear hnone h
    induction before with
    | nil => exact if_pos hn
    | cons x before ih =>
      rw [List.cons_append, beginFirstDue, if_neg (hb x List.mem_cons_self),
        ih (fun y hy => hb y (List.mem_cons_of_mem _ hy))]
      rfl

theorem nextDueNotice_none {q : NoticeQueue} (h : ∀ x ∈ q.held, x.send ≠ .due) : nextDueNotice q = none := by
  rw [nextDueNotice, List.find?_eq_none]
  intro x hx hp
  exact h x hx (of_decide_eq_true hp)

/-- The event in which a free transmitter begins. -/
theorem exec_frameTransmitStart {s u : State} (hr : s.inReset = false) (htx : s.link.tx = none) (hu : txBegin s = u) :
    exec .frameTransmitStart s = .next (ended u)
      ∧ (s.raised = [] → takesNothing s = true → exec .frameTransmitStart s = .next u) := by
  have hexec : exec .frameTransmitStart s = .next (ended u) := by
    refine congrArg Host.Outcome.next ((eventIf_ended _ _ s (by rw [htx]; rfl) hr).trans ?_)
    rw [txBegin_idem, hu]
  refine ⟨hexec, fun hq ht => hexec.trans (congrArg Host.Outcome.next ?_)⟩
  subst hu
  have ht' : takesNothing (txBegin s) = true := by simpa [takesNothing] using ht
  rw [ended_eq_heard _ ht', heard, offerRaised_of_nil (by simpa using hq), txBegin_idem]

/-! ### The interpreter at the end of an event -/

/-- A link that has just executed a request settles in one more turn: either its reply waits, or the request executes
on, or the reply has begun to leave and the next request is executed, after which the same holds with a busy
transmitter. -/
theorem linkTurn_linkTurn {s : State} (hb : interpreterBusy s) : linkTurn (linkTurn s) = linkTurn s := by
  have stays : ∀ x : State, txBegin x = x → takeNext x = x → linkTurn x = x := fun x h1 h2 => by rw [linkTurn, h1, h2]
  rcases txBegin_after s with htx | ⟨hs, -, hq, -⟩
  · have hbegin : txBegin (txBegin s) = txBegin s := txBegin_idem s
    have hcases : takeNext (txBegin s) = txBegin s
        ∨ ∃ (v : State) (seq : Byte) (body : List Byte), v.link.tx = (txBegin s).link.tx
            ∧ takeNext (txBegin s) = (execute v seq body).offerRaised := by
      unfold takeNext
      split
      · split
        · exact .inl rfl
        · refine .inr ⟨_, _, _, ?_, rfl⟩
          rfl
      · exact .inl rfl
    rcases hcases with hrest | ⟨v, seq, body, hv, htake⟩
    · rw [show linkTurn s = txBegin s from hrest]
      exact stays _ hbegin hrest
    · rw [show linkTurn s = (execute v seq body).offerRaised from htake]
      refine stays _ (txBegin_of_busy _ ?_) (takeNext_of_busy _ ?_)
      · rw [State.offerRaised_link, execute_tx, hv]; exact htx
      · have := execute_busy v seq body
        unfold interpreterBusy at this
        simpa [replyWaits] using this
  · have hno : replyWaits s = false := by rw [replyWaits, hq]; rfl
    have hx : s.executing.isSome = true := by
      rcases hb with h | h
      · exact h
      · rw [hno] at h; cases h
    have hself := stays s hs (takeNext_of_busy s (.inl hx))
    rw [hself, hself]

/-- A free interpreter takes the inbox head. -/
theorem takeNext_takes {s : State} {e : InboxEntry} {rest : List InboxEntry} (hx : s.executing = none)
    (hi : s.link.inbox = e :: rest) (hw : replyWaits s = false) :
    takeNext s = (execute { s with link := { s.link with inbox := rest } } e.seq e.body).offerRaised := by
  unfold takeNext
  split
  next _ _ _ hi' =>
    cases hi.symm.trans hi'
    rw [hw, if_neg Bool.false_ne_true]
  next h => exact absurd hi (h _ _ hx)

/-- The end of an event in which a free interpreter takes the inbox head. -/
theorem ended_takes {u : State} {e : InboxEntry} {rest : List InboxEntry} (hx : u.executing = none)
    (hi : u.link.inbox = e :: rest) (hw : replyWaits (heard u) = false) :
    let t := (execute { heard u with link := { (heard u).link with inbox := rest } } e.seq e.body).offerRaised
    ended u = ended t ∧ ((heard u).link.tx.isSome = true → ended u = t) := by
  intro t
  have hturn : linkTurn u.offerRaised = t :=
    takeNext_takes ((heard_executing u).trans hx) ((heard_inbox u).trans hi) hw
  have hbusy : interpreterBusy t := by
    have := execute_busy { heard u with link := { (heard u).link with inbox := rest } } e.seq e.body
    unfold interpreterBusy at this ⊢
    simpa [t, replyWaits] using this
  have ht : t.raised = [] := by simp [t]
  have hu : ended u = linkTurn t := by rw [ended, linkSettle, hturn]
  refine ⟨hu.trans ?_, fun htx => hu.trans ?_⟩
  · rw [ended, offerRaised_of_nil ht, linkSettle, linkTurn_linkTurn hbusy]
  · rw [linkTurn, txBegin_of_busy t (by rw [State.offerRaised_link, execute_tx]; exact htx), takeNext_of_busy t hbusy]

/-! ### The requests that wait behind -/

/-- RESET of a part beside any inbox is the same: it removes it (R133). -/
theorem execute_reset_withInbox (s : State) (q : List InboxEntry) (seq : Byte) :
    execute (s.withInbox q) seq [0x03] = execute (s.withInbox []) seq [0x03] := by
  have hd : decodeBody [0x03] = .ok .reset := rfl
  have hacc : ∀ u : State, accepted (byteAt [0x03] 0) u.device = true := fun u =>
    accepted_of_lt_0x20 (by decide) (by decide) _
  rw [execute_run _ _ _ .reset hd (hacc _), execute_run _ _ _ .reset hd (hacc _)]
  have hrun : runRequest (s.withInbox q) seq .reset = runRequest (s.withInbox []) seq .reset := rfl
  rw [hrun]
  have hkeep : answerWithInbox [] (runRequest (s.withInbox []) seq .reset) = runRequest (s.withInbox []) seq .reset := by
    have hinbox : (runReset (s.withInbox []) seq).1.link.inbox = [] := by rw [runReset_link]
    show (((runReset (s.withInbox []) seq).1).withInbox [], Answer.sent) = _
    generalize hu : (runReset (s.withInbox []) seq).1 = u at hinbox ⊢
    have hsame : u.withInbox [] = u := by
      rw [← hinbox]; rfl
    rw [hsame, ← hu]
    rfl
  have h1 := conclude_withInbox [] q s seq (byteAt [0x03] 0) (runRequest (s.withInbox []) seq .reset)
  have h2 := conclude_withInbox [] [] s seq (byteAt [0x03] 0) (runRequest (s.withInbox []) seq .reset)
  rw [hkeep] at h1 h2
  exact h1.trans h2.symm

/-- Any other request but GET_STATE does not see the inbox. -/
theorem execute_withInbox (s : State) (q : List InboxEntry) (seq : Byte) {body : List Byte} (h2 : body ≠ [0x02])
    (h3 : body ≠ [0x03]) : execute (s.withInbox q) seq body = (execute s seq body).withInbox q := by
  unfold execute
  dsimp only
  split
  · exact endExecution_withInbox _ _ _ _ _ _
  next r hr =>
    rw [withInbox_device]
    split
    · split
      · exact endExecution_withInbox _ _ _ _ _ _
      next hf =>
        obtain ⟨hbody, -⟩ := encodeBody_readBody hr hf
        rw [runRequest_withInbox q s seq r (fun h => h2 (by rw [← hbody, h]; rfl))
          (fun h => h3 (by rw [← hbody, h]; rfl))]
        exact conclude_withInbox q q s seq _ _
    · exact endExecution_withInbox _ _ _ _ _ _

/-- GET_STATE reports the number of requests that wait (R138). -/
theorem execute_getState (s : State) (seq : Byte) (h : s.link.pendingSync = none) :
    execute s seq [0x02] = queueReply s seq 0x02 .ok (stateBytes s) := by
  have hacc : accepted (byteAt [0x02] 0) s.device = true := accepted_of_lt_0x20 (by decide) (by decide) _
  rw [execute_run _ _ _ .getState (show decodeBody [0x02] = .ok .getState from rfl) hacc]
  exact endExecution_eq _ _ _ _ _ h

/-- An execution leaves an empty inbox empty. -/
theorem execute_inbox_empty {s : State} (h : s.link.inbox = []) (seq : Byte) (body : List Byte) :
    (execute s seq body).link.inbox = [] := by
  have hs : s.withInbox [] = s := by rw [← h]; rfl
  by_cases h2 : body = [0x02]
  · subst h2
    have hacc : accepted (byteAt [0x02] 0) s.device = true := accepted_of_lt_0x20 (by decide) (by decide) _
    rw [execute_run _ _ _ .getState (show decodeBody [0x02] = .ok .getState from rfl) hacc, conclude_inbox]
    exact h
  · by_cases h3 : body = [0x03]
    · subst h3
      have hacc : accepted (byteAt [0x03] 0) s.device = true := accepted_of_lt_0x20 (by decide) (by decide) _
      rw [execute_run _ _ _ .reset (show decodeBody [0x03] = .ok .reset from rfl) hacc, conclude_inbox]
      show (runReset s seq).1.link.inbox = []
      rw [runReset_link]
    · have := execute_withInbox s [] seq h2 h3
      rw [hs] at this
      rw [this]
      rfl

/-- A request that is attended to as it arrives is executed at once (R149). -/
theorem exec_command_attended {r : Req} {seq : Byte} {s : State} (hl : (encodeBody r).length ≤ 1040)
    (h : attends s seq r.code = true) :
    exec (r.command seq) s = .next (heard (execute (txBegin s) seq (encodeBody r))) := by
  obtain ⟨-, -, hinbox, -⟩ := (attends_iff _ _ _).mp h
  rw [exec_command]
  exact congrArg Host.Outcome.next (requestEvent_eq s seq (encodeBody r) (by rw [byteAt_encodeBody]; exact h)
    (encodeBody_ne r) hl (execute_inbox_empty (by simpa using hinbox) _ _))

/-! ### The level of TXD -/

/-- Bit `i` of characters sent one after another. -/
theorem characterBits_getElem? (bytes : List Byte) (i : Nat) :
    (bytes.flatMap characterBits)[i]? = (bytes[i / 10]?).bind (fun b => (characterBits b)[i % 10]?) := by
  induction bytes generalizing i with
  | nil => rfl
  | cons b bytes ih =>
    have hlen : (characterBits b).length = 10 := by simp [characterBits]
    rw [List.flatMap_cons]
    by_cases hi : i < 10
    · rw [List.getElem?_append_left (by omega), Nat.div_eq_of_lt hi, Nat.mod_eq_of_lt hi]
      rfl
    · have hdiv : i / 10 = (i - 10) / 10 + 1 := by omega
      have hmod : i % 10 = (i - 10) % 10 := by omega
      rw [List.getElem?_append_right (by omega), hlen, ih, hdiv, List.getElem?_cons_succ, hmod]

/-- The ten levels of a character: start bit, eight data bits from the least significant one, stop bit (R140). -/
theorem characterBits_levels (b : Byte) :
    (characterBits b)[0]? = some false ∧ (characterBits b)[9]? = some true
      ∧ ∀ k, 1 ≤ k → k ≤ 8 → (characterBits b)[k]? = some (b.getLsbD (k - 1)) := by
  refine ⟨rfl, rfl, fun k h1 h8 => ?_⟩
  have hk : k = (k - 1) + 1 := by omega
  rw [characterBits, hk, List.append_assoc, List.singleton_append, List.getElem?_cons_succ,
    List.getElem?_append_left (by simp; omega), List.getElem?_map, List.getElem?_range (by omega)]
  rfl

/-- The level of TXD while a frame leaves (R140, R154). -/
theorem txd_levels {s : State} {t : TxFrame} (ht : s.link.tx = some t) :
    txd s = (((frameBytes t.frame)[bitsSent t / 10]?).bind (fun b => (characterBits b)[bitsSent t % 10]?)).getD true := by
  simp only [txd, ht]
  rw [frameBits, characterBits_getElem?]

/-! ### The obligation -/

/-- Settles O32: the transmitter, the interpreter at the end of an event, the requests behind, the notices in bytes, and
the level of TXD. -/
theorem transmitterOrder : Obligations.TransmitterOrder := by
  unfold Obligations.TransmitterOrder
  refine ⟨fun s hr => ?start, fun s hr => ?ends, fun u => ?taken, fun s f replies e rest hr hq htx hp hqueue hno hx hi =>
    ?begun, fun r seq s hl h => exec_command_attended hl h, fun s q seq body => ?behind, fun b => ?bodies,
    fun s => ?level⟩
  case start =>
    intro sending begins
    have hbegins : s.link.tx = none → ∀ u, txBegin s = u → begins u := fun htx u hu => exec_frameTransmitStart hr htx hu
    refine ⟨fun htx => ⟨fun f rest hp => hbegins htx _ ?_, fun f rest hp hq => hbegins htx _ ?_,
      fun q rest hp hq => hbegins htx _ ?_, fun n before after hp hq hh hb hn => hbegins htx _ ?_,
      fun hp hq hh => hbegins htx _ (txBegin_of_empty s hp hq (nextDueNotice_none hh))⟩,
      fun htx => congrArg Host.Outcome.next (if_neg ?_)⟩
    · simp only [txBegin, htx, hp]; rfl
    · simp only [txBegin, htx, hp, hq]; rfl
    · simp only [txBegin, htx, hp, hq]; rfl
    · obtain ⟨h1, h2⟩ := firstDue_append hh hb hn
      simp only [txBegin, htx, hp, hq, h1, h2]
      rfl
    · rw [Option.isNone_iff_eq_none]
      intro h
      rw [h] at htx
      cases htx
  case ends =>
    refine ⟨fun t ht => ?_, fun ht => congrArg Host.Outcome.next (if_neg (by simp [ht]))⟩
    have hexec : exec .frameTransmitEnd s = .next (ended (txEnd s)) := by
      refine congrArg Host.Outcome.next ((eventIf_ended _ _ s (by rw [ht]; rfl) hr).trans ?_)
      rw [txBegin_of_busy s (by rw [ht]; rfl)]
    refine ⟨fun h => hexec.trans ?_, fun h => hexec.trans ?_⟩
    · simp only [txEnd, ht, if_neg h]
    · simp only [txEnd, ht, if_pos h]
  case taken =>
    intro v waits
    refine ⟨fun h => ended_eq_heard u h, fun h => ?_, fun e rest hx hi hw => ?_⟩
    · have hw : replyWaits (txBegin u.offerRaised) = true := (replyWaits_iff v).mpr h
      have hturn : linkTurn u.offerRaised = txBegin u.offerRaised := takeNext_of_busy _ (.inr hw)
      have hagain : linkTurn (txBegin u.offerRaised) = txBegin u.offerRaised := by
        rw [linkTurn, txBegin_idem, takeNext_of_busy _ (.inr hw)]
      rw [ended, linkSettle, hturn, hagain]
      rfl
    · exact ended_takes hx hi (Bool.eq_false_iff.mpr fun h => hw ((replyWaits_iff v).mp h))
  case begun =>
    intro v
    have hbegin : txBegin s = { s with link := { s.link with tx := some ⟨f, 0⟩, replyQueue := replies } } := by
      simp only [txBegin, htx, hp, hqueue]; rfl
    obtain ⟨hexec, -⟩ := exec_frameTransmitStart hr htx hbegin
    have hheard : ∀ u : State, u.raised = [] → u.link.tx.isSome = true → heard u = u := fun u h1 h2 => by
      rw [heard, offerRaised_of_nil h1, txBegin_of_busy u h2]
    have hwaits : ∀ u : State, u.link.replyQueue = replies → replyWaits u = false := fun u hu =>
      Bool.eq_false_iff.mpr fun h => by
        obtain ⟨g, hg⟩ := (replyWaits_iff u).mp h
        exact hno g (hu ▸ hg)
    have hstart : exec .frameTransmitStart s = .next (execute v e.seq e.body).offerRaised := by
      refine hexec.trans (congrArg Host.Outcome.next ?_)
      have hself := hheard { s with link := { s.link with tx := some ⟨f, 0⟩, replyQueue := replies } } hq rfl
      have := (ended_takes (u := { s with link := { s.link with tx := some ⟨f, 0⟩, replyQueue := replies } }) hx hi
        (hself ▸ hwaits _ rfl)).2 (by rw [hself]; rfl)
      rw [hself] at this
      exact this
    refine ⟨hstart, fun r hrest hbody hl h => hstart.trans ?_⟩
    rw [exec_command_attended (hbody ▸ hl) h, txBegin_of_busy v rfl, ← hbody, heard, txBegin_of_busy]
    rw [State.offerRaised_link, execute_tx]
    rfl
  case behind =>
    intro behind alone
    refine ⟨fun h2 h3 => execute_withInbox alone q seq h2 h3, execute_reset_withInbox s q seq, fun hsync => ?_⟩
    exact execute_getState (behind s) seq hsync
  case bodies =>
    cases b with
    | restarted kind => cases kind <;> rfl
    | cueOccurrence id r late fault n lateness used => cases late <;> cases fault <;> rfl
    | cueSkipped id n next => cases next <;> simp [noticeKindCode, noticeContents, u8, u16, u48, flagByte]
    | memoryReady | cueStart | cueEnd | triggerEdge | slewDone | timeEnd | overflow => rfl
  case level =>
    refine ⟨fun ht => by rw [txd, ht], fun t ht => ?_⟩
    intro i
    have hi : bitsSent t = i := rfl
    have hlevel := txd_levels ht
    rw [hi] at hlevel
    clear_value i
    refine ⟨fun hlen => ?_, fun b hb => ?_⟩
    · rw [hlevel, List.getElem?_eq_none hlen]
      rfl
    · obtain ⟨h0, h9, hbits⟩ := characterBits_levels b
      rw [hb, Option.bind_some] at hlevel
      refine ⟨fun h => ?_, fun h => ?_, fun h1 h8 => ?_⟩
      · rw [hlevel, h, h0]; rfl
      · rw [hlevel, h, h9]; rfl
      · rw [hlevel, hbits _ h1 h8]; rfl

end Sys2Proof.Machine
end

section
/-!
PROOFS. The end of an event in which one lane leads: it may end a flush, give a staged cue back, and pick, while the
other lanes and the store have nothing to do. Stated once, for the obligations on what moves a lane.
-/

namespace Sys2Proof.Machine

variable {s0 s : State} {l : Fin 4}

/-- A lane that has nothing more to do. -/
theorem finished_leads_self (h : laneLeads s0 s s l = true) : finished s0 s = concluded s := by
  have hself : settleLane s0 s l = s := by
    simp only [laneLeads, Bool.and_eq_true, Bool.or_eq_true] at h
    rcases h.2 with hu | hu
    · simp only [goesOn, calm, Bool.and_eq_true, List.all_eq_true] at hu
      exact settleLane_rests s0 s l (hu.1.1 l (by match l with | 0 | 1 | 2 | 3 => simp [fours]))
    · simp only [goesOnStaged, Bool.and_eq_true] at hu
      exact settleLane_staged s0 s l hu.1.1.1.1 hu.1.1.1.2
  rw [finished, coreTail_laneLeads s0 s l (by rw [hself]; exact h), hself]
  rfl

/-- A lane that may end its flush and pick. -/
theorem finished_leads_flush (h : laneLeads s0 s (pickFor (endFlush s l) l) l = true) :
    finished s0 s = concluded (pickFor (endFlush s l) l) := by
  rw [finished, coreTail_flush_pick s0 s l h]
  rfl

/-- A lane that may pick. -/
theorem finished_leads_pick (h : laneLeads s0 s (pickFor s l) l = true) :
    finished s0 s = concluded (pickFor s l) := by
  by_cases hf : (s.lane l).state = .flushing
  · have hp : pickFor s l = s := by rw [pickFor, if_neg (by rw [hf]; exact nofun)]
    rw [hp] at h ⊢
    exact finished_leads_self h
  · have he : endFlush s l = s := by rw [endFlush, if_neg (by simp [flushOver, hf])]
    have := finished_leads_flush (s0 := s0) (s := s) (l := l)
    rw [he] at this
    exact this h

/-- A lane that gives its staged cue back and then may end its flush and pick. -/
theorem finished_leads_giveBack {h : HeldCue} {c : Cue} (hst : (s.lane l).state.holdsStaged = true)
    (hev : evaluates s0 s l = true) (hh : (s.lane l).held = some h) (hc : s.cue? h.cue = some c)
    (hahead : s.time.device < c.due.getD 0) (hdis : displacedBy s0 s l (c.due.getD 0) = true)
    (hlead : laneLeads s0 s (pickFor (endFlush (giveBack s l h.cue c) l) l) l = true) :
    finished s0 s = concluded (pickFor (endFlush (giveBack s l h.cue c) l) l) := by
  have hf : endFlush s l = s := by
    rw [endFlush, if_neg]
    intro hx
    simp only [flushOver, Bool.and_eq_true, decide_eq_true_eq] at hx
    rw [hx.1] at hst
    cases hst
  have hr : restage s0 s l = giveBack s l h.cue c := by
    rw [restage, hst, hev, hh]
    simp only [hc, hdis, decide_eq_true hahead, Bool.and_self, if_true]
  have hs : settleLane s0 s l = pickFor (endFlush (giveBack s l h.cue c) l) l := by rw [settleLane, hf, hr]
  rw [finished, coreTail_laneLeads s0 s l (by rw [hs]; exact hlead), hs]
  rfl

end Sys2Proof.Machine
end

section
/-!
PROOFS. A tick (R55, R56, R59, R65, R66): what it counts and the time end (O37), and the tick in which a slew adjustment
falls (O38).
-/

namespace Sys2Proof.Machine

/-! ### The pieces of a tick -/

/-- During the time end a tick counts elapsed time alone (R59). -/
theorem tickTime_atEnd {s : State} (h : s.time.atEnd = true) : tickTime s = countElapsed s :=
  if_pos h

/-- A tick without an adjustment (R56). -/
theorem tickTime_plain {s : State} (h : s.time.atEnd = false)
    (hw : ∀ w, s.time.slew = some w → w.next ≠ (s.time.elapsed + 1) % Config.elapsedModulus) :
    tickTime s = advanceTo (countElapsed s) (risenTime (countElapsed s) 1) := by
  have hdue : slewDue (countElapsed s) = none := by
    unfold slewDue
    rw [show (countElapsed s).time.slew = s.time.slew from rfl]
    cases hs : s.time.slew with
    | none => rfl
    | some w => exact if_neg (hw w hs)
  rw [tickTime, tickDevice, if_neg (by rw [show (countElapsed s).time.atEnd = s.time.atEnd from rfl, h]; exact nofun), hdue]

/-- A tick with an adjustment (R65). -/
theorem tickTime_adjusts {s : State} {w : Slew} (h : s.time.atEnd = false) (hs : s.time.slew = some w)
    (hw : w.next = (s.time.elapsed + 1) % Config.elapsedModulus) : tickTime s = adjustTime (countElapsed s) w := by
  have hdue : slewDue (countElapsed s) = some w := by
    unfold slewDue
    rw [show (countElapsed s).time.slew = some w from hs]
    exact if_pos hw
  rw [tickTime, tickDevice, if_neg (by rw [show (countElapsed s).time.atEnd = s.time.atEnd from rfl, h]; exact nofun), hdue]

/-- A forward change that stays below the maximum. -/
theorem advanceTo_below {s : State} {n : Nat} (hn : 0 < n) (hb : s.time.device + n < Config.maxTime) :
    advanceTo s (risenTime s n) = forwardChange (s.setDevice (s.time.device + n)) := by
  have hr : risenTime s n = s.time.device + n := Nat.min_eq_left (Nat.le_of_lt hb)
  have hm : atMaximum (s.setDevice (s.time.device + n)) = false := by
    simp only [atMaximum, Bool.and_eq_false_iff, decide_eq_false_iff_not]
    exact .inl (Nat.ne_of_lt hb)
  rw [hr, advanceTo, if_pos (by omega), testEnd, hm, if_neg Bool.false_ne_true]

/-- A forward change that reaches the maximum raises TIME_END and ends a slew (R59, R66). -/
theorem advanceTo_maximum {s : State} {n : Nat} (h : s.time.atEnd = false) (hd : s.time.device < Config.maxTime)
    (hb : Config.maxTime ≤ s.time.device + n) :
    advanceTo s (risenTime s n) = forwardChange (reachEnd (s.setDevice Config.maxTime)) := by
  have hr : risenTime s n = Config.maxTime := Nat.min_eq_right hb
  have hm : atMaximum (s.setDevice Config.maxTime) = true := by
    simp only [atMaximum, Bool.and_eq_true, decide_eq_true_eq, Bool.not_eq_true']
    exact ⟨rfl, h⟩
  rw [hr, advanceTo, if_pos hd, testEnd, hm, if_pos rfl]

/-- A forward change that meets no cue and no start. -/
theorem forwardChange_calm {s : State}
    (h : ∀ id c, s.cue? id = some c →
      (c.state = .armed → s.time.device < c.due.getD 0)
        ∧ ((c.state = .staged ∨ c.state = .pending) → c.late = .skip → s.time.device ≤ c.due.getD 0 + c.tolerance))
    (hstart : ∀ l, startDue s l = none) : forwardChange s = s := by
  have hcue : ∀ id, timeCue s id = s := fun id => by
    unfold timeCue
    split
    next c hc =>
      obtain ⟨harmed, hlate⟩ := h id c hc
      split
      next ha =>
        rw [reachDue, hc]
        exact if_neg fun hx => absurd hx.2 (Nat.not_le.mpr (harmed ha))
      · rw [expireCue, hc]
        dsimp only
        split
        next hx =>
          split
          next hst => exact absurd hx.2 (Nat.not_lt.mpr (hlate (.inl hst) hx.1))
          next hst => exact absurd hx.2 (Nat.not_lt.mpr (hlate (.inr hst) hx.1))
          · rfl
        · rfl
    · rfl
  have hfold : ∀ ids : List Nat, ids.foldl timeCue s = s := fun ids => by
    induction ids with
    | nil => rfl
    | cons id ids ih => rw [List.foldl_cons, hcue, ih]
  have htry : ∀ l, tryStart s l = s := fun l => by rw [tryStart, hstart]
  rw [forwardChange, hfold]
  simp only [fours, List.foldl_cons, List.foldl_nil, htry]

/-! ### The obligations -/

/-- Settles O37: the tick without an adjustment, the time end, and a forward change that meets nothing. -/
theorem tickCounts : Obligations.TickCounts := by
  unfold Obligations.TickCounts
  refine ⟨fun s hr => ?tick, fun s hr => ?timeEnd, fun s h hstart => forwardChange_calm h hstart⟩
  case tick =>
    intro a becomes next still risen ended
    have htime : a.time = s.time := txBegin_time s
    have hraised : a.raised = s.raised := txBegin_raised s
    have hexec : exec .tick s = .next (finished a (tickTime a)) :=
      congrArg Host.Outcome.next (coreEvent_finished tickTime s hr)
    have hcount : countElapsed a = still := by
      show ({ a with time := _ } : State) = _
      rw [htime]
    have goesOn : ∀ t, tickTime a = t → becomes .tick t := fun t ht => ht ▸ hexec
    refine ⟨fun h => goesOn _ ?_, fun h hw => ⟨fun hb => goesOn _ ?_, fun hb => goesOn _ ?_⟩⟩
    · rw [tickTime_atEnd (by rw [htime]; exact h), hcount]
    all_goals
      have hatEnd : a.time.atEnd = false := by rw [htime]; exact h
      rw [tickTime_plain hatEnd (by rw [htime]; exact hw), hcount]
    · exact advanceTo_below (s := still) Nat.one_pos hb
    · rw [advanceTo_maximum (s := still) h (by show s.time.device < _; omega) (Nat.le_of_eq hb.symm)]
      refine congrArg forwardChange ?_
      show ({ a with time := _, raised := a.raised ++ [.timeEnd] } : State) = _
      rw [hraised]
      rfl
  case timeEnd =>
    intro a t
    refine ⟨fun hd he => ?_, fun h => congrArg Host.Outcome.next (if_neg ?_)⟩
    · have hm : atMaximum s = true := by simp [atMaximum, hd, he]
      refine congrArg Host.Outcome.next ((coreEventIf_finished atMaximum reachEnd s hm hr).trans ?_)
      refine congrArg (finished a) ?_
      show ({ a with time := { a.time with atEnd := true, slew := none }, raised := a.raised ++ [.timeEnd] } : State) = _
      rw [show a.time = s.time from txBegin_time s, show a.raised = s.raised from txBegin_raised s]
    · rcases h with h | h
      · simp [atMaximum, h]
      · simp [atMaximum, h]

/-- Settles O38: the adjustment by sign and at the maximum. -/
theorem slewAdjusts : Obligations.SlewAdjusts := by
  unfold Obligations.SlewAdjusts
  intro w s hr hs a becomes next left slewed t ended
  have htime : a.time = s.time := txBegin_time s
  have hraised : a.raised = s.raised := txBegin_raised s
  refine ⟨fun hw he => ?adjusts, fun h => congrArg Host.Outcome.next (if_neg ?nothing)⟩
  case nothing =>
    rcases h with h | h
    · have hdue : slewDue (countElapsed s) = none := by
        unfold slewDue
        rw [show (countElapsed s).time.slew = some w from hs]
        exact if_neg h
      simp [adjustmentNext, hdue]
    · simp [adjustmentNext, h]
  case adjusts =>
    have hnext : adjustmentNext s = true := by
      have hdue : slewDue (countElapsed s) = some w := by
        unfold slewDue
        rw [show (countElapsed s).time.slew = some w from hs]
        exact if_pos hw
      simp [adjustmentNext, hdue, he]
    have goesOn : ∀ u, adjustTime (countElapsed a) w = u → becomes u := fun u hu => by
      have htick : tickTime a = u :=
        (tickTime_adjusts (by rw [htime]; exact he) (by rw [htime]; exact hs) (by rw [htime]; exact hw)).trans hu
      refine ⟨congrArg Host.Outcome.next ?_, congrArg Host.Outcome.next ?_⟩
      · rw [coreEventIf_finished adjustmentNext tickTime s hnext hr]
        exact congrArg (finished a) htick
      · rw [coreEvent_finished tickTime s hr]
        exact congrArg (finished a) htick
    have hcount : countSlew (countElapsed a) w = t 0 := by
      have h1 : countElapsed a = { a with time := { s.time with elapsed := next, phase := 0 } } := by
        show ({ a with time := _ } : State) = _
        rw [htime]
      rw [h1, countSlew]
      show (if left = 0 then _ else _) = _
      by_cases hl : left = 0
      · rw [if_pos hl]
        simp only [t, slewed, if_pos hl, State.raise, State.setSlew, hraised]
        rfl
      · rw [if_neg hl]
        simp only [t, slewed, if_neg hl, State.setSlew, ← hraised]
        rfl
    refine ⟨fun hneg => goesOn _ ?_, fun hpos hb => goesOn _ ?_, fun hpos hd hb => goesOn _ ?_⟩
    · rw [adjustTime, hcount, if_neg (by omega)]
    · rw [adjustTime, hcount, if_pos hpos]
      exact advanceTo_below (s := t 0) Nat.two_pos hb
    · rw [adjustTime, hcount, if_pos hpos, advanceTo_maximum (s := t 0) he hd hb]
      rfl

end Sys2Proof.Machine
end

section
/-!
PROOFS. A due that is reached and a tolerance that runs out (R11, R14), with what the cue's lane does in that event
(R33, R36, R41), and a forward change as one pass over the cue table (R58; O39).
-/

namespace Sys2Proof.Machine

/-! ### One cue -/

/-- An event on one cue. -/
theorem exec_dueReached {s : State} {id : Fin 64} (hr : s.inReset = false) (h : dueIsReached id.val s = true) :
    exec (.dueReached id) s = .next (finished (txBegin s) (meetDue id.val (txBegin s))) :=
  congrArg Host.Outcome.next (coreEventIf_finished _ _ s h hr)

theorem exec_dueReached_rests {s : State} {id : Fin 64} (h : dueIsReached id.val s = false) :
    exec (.dueReached id) s = .next s :=
  congrArg Host.Outcome.next (if_neg (by rw [h]; exact nofun))

theorem exec_toleranceExpiry {s : State} {id : Fin 64} (hr : s.inReset = false) (h : toleranceIsOver id.val s = true) :
    exec (.toleranceExpiry id) s = .next (finished (txBegin s) (expireCue (txBegin s) id.val)) :=
  congrArg Host.Outcome.next (coreEventIf_finished _ _ s h hr)

theorem exec_toleranceExpiry_rests {s : State} {id : Fin 64} (h : toleranceIsOver id.val s = false) :
    exec (.toleranceExpiry id) s = .next s :=
  congrArg Host.Outcome.next (if_neg (by rw [h]; exact nofun))

section
variable {s : State} {id : Nat} {c : Cue}

theorem dueIsReached_iff (h : s.cue? id = some c) :
    dueIsReached id s = true ↔ (c.state = .armed ∨ c.state = .staged) ∧ c.due.getD 0 ≤ s.time.device := by
  simp only [dueIsReached, h, Bool.and_eq_true, decide_eq_true_eq]

theorem toleranceIsOver_iff (h : s.cue? id = some c) :
    toleranceIsOver id s = true
      ↔ (c.state = .staged ∨ c.state = .pending) ∧ c.late = .skip ∧ c.due.getD 0 + c.tolerance < s.time.device := by
  simp only [toleranceIsOver, h, Bool.and_eq_true, decide_eq_true_eq, and_assoc]

/-- The due of an ARMED cue on a STOPPED lane (R11). -/
theorem reachDue_stopped (h : s.cue? id = some c) (ha : c.state = .armed) (hd : c.due.getD 0 ≤ s.time.device)
    (hl : (s.lane c.lane).state = .stopped) : reachDue s id = endSkipped s id c .skippedLaneStopped := by
  rw [reachDue, h]
  exact (if_pos ⟨ha, hd⟩).trans (if_pos hl)

/-- One that is past its tolerance. -/
theorem reachDue_late (h : s.cue? id = some c) (ha : c.state = .armed) (hd : c.due.getD 0 ≤ s.time.device)
    (hl : (s.lane c.lane).state ≠ .stopped) (hx : c.late = .skip ∧ c.due.getD 0 + c.tolerance < s.time.device) :
    reachDue s id = endSkipped s id c .skippedLate := by
  rw [reachDue, h]
  exact (if_pos ⟨ha, hd⟩).trans ((if_neg hl).trans (if_pos hx))

/-- One that goes to PENDING. -/
theorem reachDue_pending (h : s.cue? id = some c) (ha : c.state = .armed) (hd : c.due.getD 0 ≤ s.time.device)
    (hl : (s.lane c.lane).state ≠ .stopped) (hx : ¬ (c.late = .skip ∧ c.due.getD 0 + c.tolerance < s.time.device)) :
    reachDue s id = s.setCue id (c.toPending (c.due.getD 0)) := by
  rw [reachDue, h]
  exact (if_pos ⟨ha, hd⟩).trans ((if_neg hl).trans (if_neg hx))

theorem expireCue_pending (h : s.cue? id = some c) (hp : c.state = .pending)
    (hx : c.late = .skip ∧ c.due.getD 0 + c.tolerance < s.time.device) :
    expireCue s id = endSkipped s id c .skippedLate := by
  rw [expireCue, h]
  refine (if_pos hx).trans ?_
  rw [hp]

theorem expireCue_staged (h : s.cue? id = some c) (hp : c.state = .staged)
    (hx : c.late = .skip ∧ c.due.getD 0 + c.tolerance < s.time.device) :
    expireCue s id = endSkipped (unstage s c.lane) id c .skippedLate := by
  rw [expireCue, h]
  refine (if_pos hx).trans ?_
  rw [hp]

end

/-! ### A cue that has become PENDING -/

/-- A cue of the lane that has become PENDING in the event makes a staging lane evaluate, and displaces a staged cue
(R33, R36). -/
theorem pending_displaces {s : State} {id : Nat} {c d : Cue} (h : s.cue? id = some c) (hc : c.state ≠ .pending)
    (hd : d.state = .pending) (due : Nat) :
    evaluates s (s.setCue id d) d.lane = true ∧ displacedBy s (s.setCue id d) d.lane due = true := by
  have hmem : (id, d) ∈ (s.setCue id d).cues := mem_of_tget (tget_tput_self s.cues id d)
  have hentered : enteredSince s (id, d) = true := by
    simp only [enteredSince, h, hd, hc, decide_false, Bool.false_and, Bool.not_false]
  refine ⟨List.any_eq_true.mpr ⟨_, hmem, ?_⟩, List.any_eq_true.mpr ⟨_, hmem, ?_⟩⟩
  · simp only [hd, hentered, decide_true, Bool.and_self, Bool.true_or]
  · simp only [hd, hentered, decide_true, Bool.and_self, Bool.true_or]

/-! ### A forward change -/

/-- What a forward change does to one cue of the table as it stands (R58). -/
def passCue (now : Nat) (stopped : Fin 4 → Prop) [DecidablePred stopped] (u : State) (e : Nat × Cue) : State :=
  let d := e.2.due.getD 0
  let expired := e.2.late = .skip ∧ d + e.2.tolerance < now
  match e.2.state with
  | .armed =>
    if d ≤ now then
      if stopped e.2.lane then endSkipped u e.1 e.2 .skippedLaneStopped
      else if expired then endSkipped u e.1 e.2 .skippedLate
      else u.setCue e.1 { e.2 with state := .pending, due := some d, cut := .none, started := none }
    else u
  | .staged => if expired then endSkipped (unstage u e.2.lane) e.1 e.2 .skippedLate else u
  | .pending => if expired then endSkipped u e.1 e.2 .skippedLate else u
  | _ => u

/-- A part in which the forward change has reached an entry. -/
structure Passing (now : Nat) (stopped : Fin 4 → Prop) (rest : List (Nat × Cue)) (u : State) : Prop where
  time : u.time.device = now
  lanes : ∀ l, (u.lane l).state = .stopped ↔ stopped l
  cues : ∀ e ∈ rest, u.cue? e.1 = some e.2

/-- Another cue's entry stays as a cue's occurrence ends. -/
theorem endSkipped_cue_ne (s : State) {id j : Nat} (c : Cue) (r : OccResult) (h : j ≠ id) :
    (endSkipped s id c r).cue? j = s.cue? j := by
  rw [State.cue?, State.cue?]
  rcases (endSkipped_after s id c r).table with ⟨d, -, -, hcues, -⟩ | ⟨d, -, -, hcues, -⟩ | ⟨hcues, -⟩ <;> rw [hcues]
  · exact tget_tput_ne _ _ _ _ h
  · exact tget_tput_ne _ _ _ _ h
  · exact tget_tdel_ne _ _ _ h

/-- An unstaging stops no lane and starts none. -/
theorem unstage_stopped (s : State) (l m : Fin 4) :
    ((unstage s l).lane m).state = .stopped ↔ (s.lane m).state = .stopped := by
  rw [lane_congr (unstage_order s l).lanes]
  by_cases hm : m = l
  · rw [hm, lane_setLane_self]
    unfold Lane.afterUnstage
    split
    next h =>
      refine ⟨nofun, fun hx => ?_⟩
      rw [hx] at h
      cases h
    · exact Iff.rfl
  · rw [lane_setLane_ne s l m _ hm]

section
variable {now : Nat} {stopped : Fin 4 → Prop} [DecidablePred stopped] {u : State} {e : Nat × Cue}
  {rest : List (Nat × Cue)}

/-- A forward change meets the cue as it stood before. -/
theorem Passing.timeCue_eq (h : Passing now stopped (e :: rest) u) : timeCue u e.1 = passCue now stopped u e := by
  have hc : u.cue? e.1 = some e.2 := h.cues e List.mem_cons_self
  have htime := h.time
  have hlanes := h.lanes e.2.lane
  unfold timeCue passCue
  rw [hc]
  dsimp only
  cases hst : e.2.state with
  | armed =>
    rw [if_pos rfl]
    simp only []
    split
    next hd =>
      split
      next hs => exact reachDue_stopped hc hst (htime ▸ hd) (hlanes.mpr hs)
      next hs =>
        split
        next hx => exact reachDue_late hc hst (htime ▸ hd) (fun hx => hs (hlanes.mp hx)) (htime ▸ hx)
        next hx => exact reachDue_pending hc hst (htime ▸ hd) (fun hx => hs (hlanes.mp hx)) (htime ▸ hx)
    next hd =>
      rw [reachDue, hc]
      exact if_neg fun hx => hd (htime ▸ hx.2)
  | staged =>
    rw [if_neg nofun]
    simp only []
    split
    next hx => exact expireCue_staged hc hst (htime ▸ hx)
    next hx => rw [expireCue, hc]; exact if_neg (htime ▸ hx)
  | pending =>
    rw [if_neg nofun]
    simp only []
    split
    next hx => exact expireCue_pending hc hst (htime ▸ hx)
    next hx => rw [expireCue, hc]; exact if_neg (htime ▸ hx)
  | held | triggerWait | releasing | ended =>
    rw [if_neg nofun, expireCue, hc]
    simp only [hst]
    exact ite_self _

/-- The entries behind it stay as they were. -/
theorem Passing.after (h : Passing now stopped (e :: rest) u) (hne : ∀ f ∈ rest, f.1 ≠ e.1) :
    Passing now stopped rest (passCue now stopped u e) := by
  have skipped : ∀ (v : State) (r : OccResult), Passing now stopped rest v →
      Passing now stopped rest (endSkipped v e.1 e.2 r) := fun v r hv =>
    ⟨(congrArg TimeBase.device (CuesOnly.endSkipped v e.1 e.2 r).time).trans hv.time,
      fun l => by rw [lane_congr (CuesOnly.endSkipped v e.1 e.2 r).lanes]; exact hv.lanes l,
      fun f hf => (endSkipped_cue_ne v e.2 r (hne f hf)).trans (hv.cues f hf)⟩
  have here : Passing now stopped rest u := ⟨h.time, h.lanes, fun f hf => h.cues f (List.mem_cons_of_mem _ hf)⟩
  have unstaged : Passing now stopped rest (unstage u e.2.lane) :=
    ⟨(congrArg TimeBase.device (unstage_order u e.2.lane).core.time).trans h.time,
      fun l => (unstage_stopped u e.2.lane l).trans (h.lanes l),
      fun f hf => (congrArg (tget · f.1) (unstage_order u e.2.lane).cues).trans (here.cues f hf)⟩
  have set : ∀ d : Cue, Passing now stopped rest (u.setCue e.1 d) := fun d =>
    ⟨h.time, h.lanes, fun f hf => (tget_tput_ne u.cues e.1 f.1 d (hne f hf)).trans (here.cues f hf)⟩
  unfold passCue
  dsimp only
  split
  · split
    · split
      · exact skipped _ _ here
      · split
        · exact skipped _ _ here
        · exact set _
    · exact here
  · split
    · exact skipped _ _ unstaged
    · exact here
  · split
    · exact skipped _ _ here
    · exact here
  · exact here

end

theorem Passing.fold {now : Nat} {stopped : Fin 4 → Prop} [DecidablePred stopped] (rest : List (Nat × Cue)) :
    ∀ {u : State}, Passing now stopped rest u → (rest.map Prod.fst).Nodup →
      (rest.map Prod.fst).foldl timeCue u = rest.foldl (passCue now stopped) u := by
  induction rest with
  | nil => exact fun _ _ => rfl
  | cons e rest ih =>
    intro u h hnd
    rw [List.map_cons, List.nodup_cons] at hnd
    rw [List.map_cons, List.foldl_cons, List.foldl_cons, h.timeCue_eq]
    exact ih (h.after fun f hf he => hnd.1 (he ▸ List.mem_map_of_mem hf)) hnd.2

/-- A forward change in one pass over the cues as they stood. -/
theorem forwardChange_passes {s : State} (hs : sortedKeys s.cues = true) :
    forwardChange s
      = fours.foldl tryStart (s.cues.foldl (passCue s.time.device (fun l => (s.lane l).state = .stopped)) s) := by
  have hnd : (s.cues.map Prod.fst).Nodup := by
    have := sortedKeys_filter_pairwise s.cues (fun _ => true) hs
    rw [List.filter_eq_self.mpr fun _ _ => rfl] at this
    exact this.imp Nat.ne_of_lt
  rw [forwardChange]
  exact congrArg (fours.foldl tryStart)
    (Passing.fold s.cues ⟨rfl, fun _ => Iff.rfl, fun e he => tget_of_mem hs he⟩ hnd)

/-! ### The obligation -/

/-- Settles O39: the due, the tolerance, and the forward change over the table. -/
theorem duesAndTolerances : Obligations.DuesAndTolerances := by
  unfold Obligations.DuesAndTolerances
  refine ⟨fun id c d s hr hc hd => ?one, fun id s hr => ⟨fun h => ?empty, fun c hc h1 h2 => ?other⟩,
    fun s hs => ?all⟩
  case empty =>
    exact exec_dueReached_rests (by rw [dueIsReached, h])
  case other =>
    refine exec_dueReached_rests (Bool.eq_false_iff.mpr fun h => ?_)
    exact ((dueIsReached_iff hc).mp h).1.elim h1 h2
  case all =>
    intro now one
    exact forwardChange_passes hs
  case one =>
    intro a l x becomes leads
    have htime : a.time = s.time := txBegin_time s
    have hca : a.cue? id.val = some c := (txBegin_cue? s _).trans hc
    have hlane : ∀ m, a.lane m = s.lane m := txBegin_lane s
    have hdue : c.due.getD 0 = d := by rw [hd]; rfl
    refine ⟨fun hreach => ⟨fun harmed => ?armed, fun hst => ?staged⟩, fun h => ?rests,
      fun hskip hpast => ⟨fun hp => ?latePending, fun hst => ?lateStaged⟩, fun h => ?inTime⟩
    case rests =>
      refine exec_dueReached_rests (Bool.eq_false_iff.mpr fun hx => ?_)
      obtain ⟨hst, hle⟩ := (dueIsReached_iff hc).mp hx
      rcases h with ⟨h1, h2⟩ | h
      · exact hst.elim h1 h2
      · exact absurd (hdue ▸ hle) (Nat.not_le.mpr h)
    case inTime =>
      refine exec_toleranceExpiry_rests (Bool.eq_false_iff.mpr fun hx => ?_)
      obtain ⟨hst, hskip, hpast⟩ := (toleranceIsOver_iff hc).mp hx
      rcases h with h | h | ⟨h1, h2⟩
      · rw [hskip] at h; cases h
      · exact absurd (hdue ▸ hpast) (Nat.not_lt.mpr h)
      · exact hst.elim h2 h1
    case armed =>
      have hexec := exec_dueReached hr ((dueIsReached_iff hc).mpr ⟨.inl harmed, hdue ▸ hreach⟩)
      have hmeet : meetDue id.val a = reachDue a id.val := by
        rw [meetDue, hca]; exact if_pos harmed
      change exec _ s = .next (finished a (meetDue id.val a)) at hexec
      rw [hmeet] at hexec
      have hda : c.due.getD 0 ≤ a.time.device := by rw [htime, hdue]; exact hreach
      refine ⟨fun hstop => ?_, fun hrun hskip hpast => ?_, fun hrun hok => ?_⟩
      · rw [reachDue_stopped hca harmed hda (by rw [hlane]; exact hstop)] at hexec
        exact hexec
      · rw [reachDue_late hca harmed hda (by rw [hlane]; exact hrun)
          ⟨hskip, by rw [htime, hdue]; exact hpast⟩] at hexec
        exact hexec
      · intro t
        have ht : reachDue a id.val = t := by
          rw [reachDue_pending hca harmed hda (by rw [hlane]; exact hrun), hdue]
          · rfl
          · rw [htime, hdue]
            rintro ⟨hskip, hpast⟩
            rcases hok with h | h
            · rw [hskip] at h; cases h
            · exact absurd hpast (Nat.not_lt.mpr h)
        rw [ht] at hexec
        have hx : t.lane l = x := hlane l
        refine ⟨hexec, fun hidle hl => ?_, fun hst hl => ?_, fun h c0 d0 hst hh hne hc0 hd0 => ⟨fun hpast hl => ?_,
          fun hahead => ?_⟩⟩
        · exact hexec.trans (congrArg Host.Outcome.next (finished_leads_pick hl))
        · exact hexec.trans (congrArg Host.Outcome.next (finished_leads_self hl))
        · exact hexec.trans (congrArg Host.Outcome.next (finished_leads_self hl))
        · intro v hl
          have hc0t : t.cue? h.cue = some c0 :=
            (tget_tput_ne a.cues id.val h.cue _ hne).trans ((txBegin_cue? s _).trans hc0)
          have hdue0 : c0.due.getD 0 = d0 := by rw [hd0]; rfl
          have hdev : t.time.device < c0.due.getD 0 := by
            rw [hdue0]
            show a.time.device < d0
            rw [htime]
            exact hahead
          obtain ⟨hev, hdis⟩ := pending_displaces (d := c.toPending d) hca (by rw [harmed]; exact nofun) rfl
            (c0.due.getD 0)
          have hv : giveBack t l h.cue c0 = v := by
            rw [giveBack, if_pos hdev, hdue0]
            rfl
          have hgive := finished_leads_giveBack (s0 := a) (s := t) (l := l) (h := h) (c := c0)
            (by rw [hx]; rcases hst with h | h <;> rw [h] <;> rfl) hev (by rw [hx]; exact hh) hc0t hdev hdis
          rw [hv] at hgive
          exact hexec.trans (congrArg Host.Outcome.next (hgive hl))
    case staged =>
      have hexec := exec_dueReached hr ((dueIsReached_iff hc).mpr ⟨.inr hst, hdue ▸ hreach⟩)
      have hmeet : meetDue id.val a = tryStart a l := by
        rw [meetDue, hca]; exact if_neg (by rw [hst]; exact nofun)
      change exec _ s = .next (finished a (meetDue id.val a)) at hexec
      rw [hmeet] at hexec
      exact ⟨hexec, fun hl => hexec.trans (congrArg Host.Outcome.next (finished_leads_pick hl))⟩
    case latePending =>
      have hexec := exec_toleranceExpiry hr ((toleranceIsOver_iff hc).mpr ⟨.inr hp, hskip, hdue ▸ hpast⟩)
      change exec _ s = .next (finished a (expireCue a id.val)) at hexec
      rw [expireCue_pending hca hp ⟨hskip, by rw [htime, hdue]; exact hpast⟩] at hexec
      exact hexec
    case lateStaged =>
      have hexec := exec_toleranceExpiry hr ((toleranceIsOver_iff hc).mpr ⟨.inl hst, hskip, hdue ▸ hpast⟩)
      change exec _ s = .next (finished a (expireCue a id.val)) at hexec
      rw [expireCue_staged hca hst ⟨hskip, by rw [htime, hdue]; exact hpast⟩] at hexec
      exact ⟨hexec, fun hl => hexec.trans (congrArg Host.Outcome.next (finished_leads_flush hl))⟩

end Sys2Proof.Machine
end

section
/-!
PROOFS. A sample of a trigger line (R68, R70, R12; O43), and grouped skipping in closed form (R17, R18; O41).
-/

namespace Sys2Proof.Machine

/-! ### The line -/

theorem quad_set_set {α : Type} (q : Quad α) (i : Fin 4) (x y : α) : (q.set i x).set i y = q.set i y := by
  match i with
  | 0 | 1 | 2 | 3 => rfl

/-- A stamp joins the ring, whose oldest leaves at 8 (R70). -/
theorem push_eq (t : TriggerLine) (p : Stamp) :
    t.push p = { t with ring := t.ring.drop (t.ring.length - 7) ++ [p], gap := t.gap || decide (8 ≤ t.ring.length) } := by
  unfold TriggerLine.push
  simp only [show Config.ringSize = 8 from rfl]
  by_cases h : t.ring.length < 8
  · rw [if_pos h, show t.ring.length - 7 = 0 by omega, List.drop_zero, decide_eq_false (Nat.not_le.mpr h), Bool.or_false]
  · rw [if_neg h, decide_eq_true (Nat.not_lt.mp h), Bool.or_true]
    exact congrArg (fun k => ({ t with ring := t.ring.drop k ++ [p], gap := true } : TriggerLine))
      (show t.ring.length + 1 - 8 = t.ring.length - 7 by omega)

/-- Two samples show an edge where they differ (R68). -/
theorem edgeSeen_none {last : Option Bool} {level : Bool} (h : last ≠ some (!level)) : edgeSeen last level = none := by
  cases last with
  | none => rfl
  | some b => cases b <;> cases level <;> first | rfl | exact absurd rfl h

theorem edgeSeen_some (level : Bool) :
    edgeSeen (some (!level)) level = some (if level then .rising else .falling) := by
  cases level <;> rfl

/-- A sample that records a stamp. -/
theorem sampleLine_records {s : State} {l : Fin 4} {level : Bool} {edge : StampEdge}
    (h : edgeSeen (s.triggers.lines.get l).level level = some edge)
    (hm : (s.triggers.lines.get l).mode.records edge = true) :
    sampleLine s l level
      = recordStamp (s.setLine l { s.triggers.lines.get l with level := some level }) l edge := by
  unfold sampleLine
  dsimp only
  rw [h]
  exact if_pos hm

/-- One that only keeps the level. -/
theorem sampleLine_keeps {s : State} {l : Fin 4} {level : Bool}
    (h : ∀ edge, edgeSeen (s.triggers.lines.get l).level level = some edge →
      (s.triggers.lines.get l).mode.records edge = false) :
    sampleLine s l level = s.setLine l { s.triggers.lines.get l with level := some level } := by
  unfold sampleLine
  dsimp only
  split
  next edge he => exact if_neg (by rw [h edge he]; exact nofun)
  · rfl

/-- A stamp recorded on a line whose level has just been kept. -/
theorem recordStamp_setLine (s : State) (l : Fin 4) (x : TriggerLine) (edge : StampEdge) :
    recordStamp (s.setLine l x) l edge
      = { s with
          triggers :=
            { lines := s.triggers.lines.set l (x.push { time := s.time.device, edge := edge }),
              recorded := s.triggers.recorded + 1 },
          raised := if x.notify then s.raised ++ [.triggerEdge l edge s.time.device] else s.raised,
          cues := releaseByStamp s.cues l { time := s.time.device, edge := edge } (s.triggers.recorded + 1) } := by
  have hget : (s.setLine l x).triggers.lines.get l = x := quad_get_set_self _ _ _
  have hset : ((s.setLine l x).setLine l (x.push { time := s.time.device, edge := edge })).triggers.lines
      = s.triggers.lines.set l (x.push { time := s.time.device, edge := edge }) := quad_set_set _ _ _ _
  unfold recordStamp
  rw [hget]
  dsimp only
  cases x.notify
  · exact congrArg (fun q => ({ s with
          triggers := { lines := q, recorded := s.triggers.recorded + 1 },
          cues := releaseByStamp s.cues l { time := s.time.device, edge := edge } (s.triggers.recorded + 1) } : State)) hset
  · exact congrArg (fun q => ({ s with
          triggers := { lines := q, recorded := s.triggers.recorded + 1 },
          raised := s.raised ++ [.triggerEdge l edge s.time.device],
          cues := releaseByStamp s.cues l { time := s.time.device, edge := edge } (s.triggers.recorded + 1) } : State)) hset

/-- Settles O43: the sample without and with a recorded edge, and the cues that a stamp releases. -/
theorem triggerLineSampled : Obligations.TriggerLineSampled := by
  unfold Obligations.TriggerLineSampled
  intro l level s hr a becomes x kind kept n stamped
  have hexec : exec (.triggerEdge l level) s = .next (finished a (sampleLine a l level)) :=
    congrArg Host.Outcome.next (coreEvent_finished (fun a => sampleLine a l level) s hr)
  have htrig : a.triggers = s.triggers := txBegin_triggers s
  have hline : a.triggers.lines.get l = x := by rw [htrig]
  refine ⟨fun h => ?same, fun h hm => ?unrecorded, fun h hm => ?recorded, fun c e o hc => ?releases⟩
  case same =>
    rw [sampleLine_keeps (fun edge he => by
      rw [hline, edgeSeen_none h] at he
      cases he), hline] at hexec
    exact hexec
  case unrecorded =>
    rw [sampleLine_keeps (fun edge he => by
      rw [hline, h, edgeSeen_some] at he
      cases he
      rw [hline]
      exact hm), hline] at hexec
    exact hexec
  case recorded =>
    rw [sampleLine_records (edge := kind) (by rw [hline, h]; exact edgeSeen_some level) (by rw [hline]; exact hm),
      hline, recordStamp_setLine, push_eq, htrig, show a.time = s.time from txBegin_time s,
      show a.raised = s.raised from txBegin_raised s, show a.cues = s.cues from txBegin_cues s] at hexec
    refine hexec.trans (congrArg (fun u => Host.Outcome.next (finished a u)) ?_)
    exact (congrArg (fun t => ({ stamped with time := t } : State)) (txBegin_time s)).symm
  case releases =>
    have hedge : e.matchesStamp kind = true
        ↔ e = .either ∨ (e = .rising ∧ level = true) ∨ (e = .falling ∧ level = false) := by
      cases e <;> cases level <;> simp [CueEdge.matchesStamp, kind]
    simp only [Cue.releasedBy, hc, Bool.and_eq_true, decide_eq_true_eq, hedge, and_true, and_assoc, n, Nat.lt_succ_iff]

/-! ### Grouped skipping -/

/-- The values `x`, `x + p`, … below a bound. -/
theorem lt_countBelow {x b p j : Nat} (hp : 0 < p) : j < countBelow x b p ↔ x + j * p < b := by
  unfold countBelow
  split
  next h => rw [Nat.lt_succ_iff, Nat.le_div_iff_mul_le hp]; omega
  next h =>
    have := Nat.zero_le (j * p)
    omega

/-- As far as the repeat count allows. -/
theorem lt_allowed (c : Cue) (n j : Nat) :
    j < c.allowed n ↔ j < n ∧ (c.repeatCount = 0 ∨ c.used + j < c.repeatCount) := by
  unfold Cue.allowed
  split
  next h => simp [h]
  next h => rw [Nat.lt_min]; omega

/-- Settles O41: the closed form against the test of each occurrence. -/
theorem groupedSkipping : Obligations.GroupedSkipping := by
  unfold Obligations.GroupedSkipping
  intro c x now j hp
  rw [Cue.groupedSkips, Cue.stoppedSkips, lt_allowed, lt_allowed, lt_countBelow hp, lt_countBelow hp]
  exact ⟨by rw [Nat.add_right_comm], by rw [Nat.lt_succ_iff]⟩

end Sys2Proof.Machine
end

section
/-!
PROOFS. What ends an occurrence (R15 to R19, R23; O40): the counts and the record, the occurrences skipped in the same
event, the cue's next state, and what a request that waits for it counts.
-/

namespace Sys2Proof.Machine

/-! ### The pieces -/

theorem spent_iff (c : Cue) : c.spent = true ↔ c.repeatCount ≠ 0 ∧ c.used = c.repeatCount := by
  simp only [Cue.spent, Bool.and_eq_true, decide_eq_true_eq]

/-- CUE_SKIPPED is raised for one occurrence or more, at a level that reports them. -/
theorem raiseSkipped_eq (s : State) (id : Nat) (c : Cue) (n : Nat) (due : Option Nat) :
    raiseSkipped s id c n due
      = if n = 0 ∨ c.report = .endOnly then s else s.raise (.cueSkipped id (min n 65535) due) := by
  unfold raiseSkipped Cue.reports
  by_cases hn : n = 0
  · rw [if_neg (fun h => absurd hn (Nat.ne_of_gt h.1)), if_pos (Or.inl hn)]
  · by_cases hr : c.report = .endOnly
    · rw [if_neg (fun h => absurd hr (of_decide_eq_true h.2)), if_pos (Or.inr hr)]
    · rw [if_pos ⟨Nat.pos_of_ne_zero hn, decide_eq_true hr⟩, if_neg (not_or.mpr ⟨hn, hr⟩)]

/-- No occurrence lies below a bound that the first one does not lie below. -/
theorem countBelow_zero {x b p : Nat} (h : b ≤ x) : countBelow x b p = 0 := if_neg (Nat.not_lt.mpr h)

theorem allowed_zero (c : Cue) : c.allowed 0 = 0 := by
  unfold Cue.allowed
  split
  · rfl
  · exact Nat.zero_min _

theorem groupedSkips_ahead {c : Cue} {x now : Nat} (h : now ≤ x) : c.groupedSkips x now = 0 := by
  rw [Cue.groupedSkips, countBelow_zero (by omega), allowed_zero]

theorem stoppedSkips_ahead {c : Cue} {x now : Nat} (h : now < x) : c.stoppedSkips x now = 0 := by
  rw [Cue.stoppedSkips, countBelow_zero h, allowed_zero]

/-- The record keeps the fields that were filed. -/
theorem recordSkipped_fields (c : Cue) (k : Nat) (r : OccResult) (now due : Nat) :
    (c.recordSkipped k r now due).start = c.start ∧ (c.recordSkipped k r now due).period = c.period
      ∧ (c.recordSkipped k r now due).late = c.late ∧ (c.recordSkipped k r now due).report = c.report := by
  unfold Cue.recordSkipped
  split <;> exact ⟨rfl, rfl, rfl, rfl⟩

/-- Where the cue goes from a candidate due, with the `k` occurrences that grouped skipping drops from it on and the `n`
that were skipped before them (R16 to R18). -/
def groupedNext (s : State) (id : Nat) (c : Cue) (r : OccResult) (candidate k n : Nat) : State :=
  nextOccurrence s id (c.recordSkipped k r s.time.device (candidate + (k - 1) * c.period))
    (candidate + k * c.period) (n + k)

theorem nextTimed_eq (s : State) (id : Nat) (c : Cue) (candidate n : Nat) :
    nextTimed s id c candidate n
      = groupedNext s id c .skippedLate candidate
          (if c.late = .skip then c.groupedSkips candidate s.time.device else 0) n := rfl

theorem nextStopped_eq (s : State) (id : Nat) (c : Cue) (candidate n : Nat) :
    nextStopped s id c candidate n
      = groupedNext s id c .skippedLaneStopped candidate (c.stoppedSkips candidate s.time.device) n := rfl

/-- With none dropped, a candidate that lies ahead is the next due, or the cue goes to HELD past the last time. -/
theorem groupedNext_ahead {s : State} {id : Nat} {c : Cue} {r : OccResult} {candidate n : Nat}
    (hs : ¬ (c.repeatCount ≠ 0 ∧ c.used = c.repeatCount)) (h : s.time.device < candidate) :
    groupedNext s id c r candidate 0 n
      = if Config.maxTime < candidate then (raiseSkipped s id c n none).setCue id c.toHeld
        else (raiseSkipped s id c n (some candidate)).setCue id (c.toArmed candidate) := by
  have hspent : ¬ c.spent = true := fun hx => hs ((spent_iff c).mp hx)
  have hcand : candidate + 0 * c.period = candidate := by omega
  rw [groupedNext, hcand, Nat.add_zero]
  show nextOccurrence s id c candidate n = _
  rw [nextOccurrence, if_neg hspent, if_pos h]

/-- The end of an occurrence by skipping, for a TIME cue that goes on. -/
theorem endSkipped_time {s : State} {id : Nat} {c : Cue} {r : OccResult} {d : Nat} (hd : c.due = some d)
    (ht : ∃ f, c.start = .time f)
    (hs : ¬ (c.repeatCount ≠ 0 ∧ (c.recordSkipped 1 r s.time.device d).used = c.repeatCount)) :
    let c1 := c.recordSkipped 1 r s.time.device d
    endSkipped s id c r
      = if r = .skippedLaneStopped then
          groupedNext s id c1 .skippedLaneStopped (d + c.period) (c1.stoppedSkips (d + c.period) s.time.device) 1
        else
          groupedNext s id c1 .skippedLate (d + c.period)
            (if c.late = .skip then c1.groupedSkips (d + c.period) s.time.device else 0) 1 := by
  intro c1
  obtain ⟨f, hf⟩ := ht
  have hspent : ¬ c1.spent = true := fun hx => hs ((spent_iff c1).mp hx)
  have hdue : c.due.getD 0 = d := by rw [hd]; rfl
  have hstart : c1.start = .time f := hf
  unfold endSkipped
  rw [hdue]
  dsimp only
  rw [if_neg hspent]
  show (match c1.start with
    | .time _ => _
    | .trigger _ _ _ => _) = _
  rw [hstart]
  rfl

/-- For a TRIGGER cue that goes on. -/
theorem endSkipped_trigger {s : State} {id : Nat} {c : Cue} {r : OccResult} {d : Nat} (hd : c.due = some d)
    (ht : ∃ l e o, c.start = .trigger l e o)
    (hs : ¬ (c.repeatCount ≠ 0 ∧ (c.recordSkipped 1 r s.time.device d).used = c.repeatCount)) :
    let c1 := c.recordSkipped 1 r s.time.device d
    endSkipped s id c r = (raiseSkipped s id c1 1 none).setCue id (c1.toTriggerWait s.triggers.recorded) := by
  intro c1
  obtain ⟨l, e, o, hf⟩ := ht
  have hspent : ¬ c1.spent = true := fun hx => hs ((spent_iff c1).mp hx)
  have hdue : c.due.getD 0 = d := by rw [hd]; rfl
  have hstart : c1.start = .trigger l e o := hf
  unfold endSkipped
  rw [hdue]
  dsimp only
  rw [if_neg hspent]
  show (match c1.start with
    | .time _ => _
    | .trigger _ _ _ => _) = _
  rw [hstart]

/-- At its repeat count. -/
theorem endSkipped_spent {s : State} {id : Nat} {c : Cue} {r : OccResult} {d : Nat} (hd : c.due = some d)
    (hs : c.repeatCount ≠ 0 ∧ (c.recordSkipped 1 r s.time.device d).used = c.repeatCount) :
    let c1 := c.recordSkipped 1 r s.time.device d
    endSkipped s id c r = endCue (raiseSkipped s id c1 1 none) id c1 .completed := by
  intro c1
  have hspent : c1.spent = true := (spent_iff c1).mpr hs
  have hdue : c.due.getD 0 = d := by rw [hd]; rfl
  unfold endSkipped
  rw [hdue]
  exact if_pos hspent

/-! ### A released occurrence -/

/-- CUE_OCCURRENCE, at a level that reports it (R15). -/
def tellReleased (s : State) (id : Nat) (c : Cue) (r : OccResult) (late fault : Bool) (n : Nat) : State :=
  if (c.recordReleased r late fault n).reports then
    s.raise (.cueOccurrence id r late fault n ((c.started.map StartReport.lateness).getD 0)
      (c.recordReleased r late fault n).used)
  else s

theorem endReleased_eq (s : State) (id : Nat) (c : Cue) (r : OccResult) (late fault : Bool) (n : Nat) :
    let c1 := c.recordReleased r late fault n
    let s1 := tellReleased s id c r late fault n
    (c.cut = .cancel → endReleased s id c r late fault n = endCue (noteCancelled s1 id c1) id c1 .cancelled)
      ∧ (c.cut = .stop → endReleased s id c r late fault n
          = if c1.spent then endCue (noteStopped s1 true) id c1 .stopped
            else (noteStopped s1 false).setCue id c1.toHeld)
      ∧ (c.cut = .none → c1.spent = true → endReleased s id c r late fault n = endCue s1 id c1 .completed)
      ∧ (c.cut = .none → ¬ c1.spent = true → (∃ f, c.start = .time f) →
          endReleased s id c r late fault n = nextTimed s1 id c1 (c.due.getD 0 + c.period) 0)
      ∧ (c.cut = .none → ¬ c1.spent = true → (∃ l e o, c.start = .trigger l e o) →
          endReleased s id c r late fault n = s1.setCue id (c1.toTriggerWait s1.triggers.recorded)) := by
  intro c1 s1
  refine ⟨fun h => ?_, fun h => ?_, fun h hs => ?_, fun h hs ⟨f, hf⟩ => ?_, fun h hs ⟨l, e, o, hf⟩ => ?_⟩
  all_goals
    unfold endReleased
    dsimp only
    rw [h]
  · rfl
  · rfl
  · exact if_pos hs
  · refine (if_neg hs).trans ?_
    show (match c.start with
      | .time _ => _
      | .trigger _ _ _ => _) = _
    rw [hf]
    rfl
  · refine (if_neg hs).trans ?_
    show (match c.start with
      | .time _ => _
      | .trigger _ _ _ => _) = _
    rw [hf]
    rfl

/-- The report, for a cue that has begun to release. -/
theorem tellReleased_eq {s : State} {id : Nat} {c : Cue} {rep : StartReport} (h : c.started = some rep) (r : OccResult)
    (late fault : Bool) (n : Nat) :
    tellReleased s id c r late fault n
      = if c.report = .endOnly then s
        else s.raise (.cueOccurrence id r late fault n rep.lateness (c.recordReleased r late fault n).used) := by
  have hrep : (c.recordReleased r late fault n).reports = decide (c.report ≠ .endOnly) := rfl
  rw [tellReleased, hrep, h]
  by_cases hr : c.report = .endOnly
  · rw [if_pos hr, if_neg (by simp [hr])]
  · rw [if_neg hr, if_pos (decide_eq_true hr)]
    rfl

/-- The record of a cue that has begun to release. -/
theorem recordReleased_eq {c : Cue} {rep : StartReport} (h : c.started = some rep) (r : OccResult) (late fault : Bool)
    (n : Nat) :
    c.recordReleased r late fault n
      = { c with
          used := if c.repeatCount = 0 then min (c.used + 1) 65535 else c.used + 1,
          last := some
            { result := r, late := late, checkFault := fault, startTime := some rep.time, lateness := rep.lateness,
              bytes := n } } := by
  rw [Cue.recordReleased, h]
  rfl

/-- The report leaves the time base and the stamps. -/
theorem tellReleased_keeps (s : State) (id : Nat) (c : Cue) (r : OccResult) (late fault : Bool) (n : Nat) :
    (tellReleased s id c r late fault n).time = s.time
      ∧ (tellReleased s id c r late fault n).triggers = s.triggers := by
  unfold tellReleased
  split <;> exact ⟨rfl, rfl⟩

/-- The next occurrence counted from the due `d` of the one that has ended. -/
theorem groupedNext_eq (s : State) (id : Nat) (c : Cue) (r : OccResult) (d k n : Nat) :
    groupedNext s id c r (d + c.period) k n
      = nextOccurrence s id (c.recordSkipped k r s.time.device (d + k * c.period)) (d + (k + 1) * c.period) (n + k) := by
  have hnext : d + c.period + k * c.period = d + (k + 1) * c.period := by rw [Nat.add_one_mul]; omega
  rw [groupedNext, hnext]
  cases k with
  | zero => rfl
  | succ k => rw [show d + c.period + (k + 1 - 1) * c.period = d + (k + 1) * c.period by
      rw [Nat.add_sub_cancel, Nat.add_one_mul]; omega]

theorem nextOccurrence_eq (s : State) (id : Nat) (c : Cue) (next m : Nat) :
    nextOccurrence s id c next m
      = if c.repeatCount ≠ 0 ∧ c.used = c.repeatCount then endCue (raiseSkipped s id c m none) id c .completed
        else if Config.maxTime < next then (raiseSkipped s id c m none).setCue id c.toHeld
        else if s.time.device < next then (raiseSkipped s id c m (some next)).setCue id (c.toArmed next)
        else (raiseSkipped s id c m (some next)).setCue id (c.toPending next) := by
  unfold nextOccurrence
  by_cases h : c.repeatCount ≠ 0 ∧ c.used = c.repeatCount
  · rw [if_pos ((spent_iff c).mpr h), if_pos h]
  · rw [if_neg (fun hx => h ((spent_iff c).mp hx)), if_neg h]

/-! ### The obligation -/

/-- Settles O40: the skipped occurrence, the released one, the ones skipped with them, and the cue's end. -/
theorem occurrencesEnd : Obligations.OccurrencesEnd := by
  unfold Obligations.OccurrencesEnd
  refine ⟨fun s id c r d hd => ?skipped, fun s id c r late fault n rep hrep => ?released, fun s id c d hd ht => ?grouped,
    fun s id c why => rfl, fun s id c ended => ?counts, fun c d n => ⟨rfl, rfl, rfl, rfl⟩⟩
  case skipped =>
    intro up c1 reported done
    have hc1 : c.recordSkipped 1 r s.time.device d = c1 := rfl
    have htold : ∀ next, raiseSkipped s id c1 1 next = reported next := fun next => by
      rw [raiseSkipped_eq]
      by_cases hr : c.report = .endOnly
      · exact (if_pos (Or.inr hr)).trans (if_pos hr).symm
      · exact (if_neg (not_or.mpr ⟨Nat.one_ne_zero, hr⟩)).trans (if_neg hr).symm
    refine ⟨fun h => ?_, fun h ht => ?_, fun h ht hahead => ?_⟩
    · rw [endSkipped_spent hd h, hc1, htold]
    · rw [endSkipped_trigger hd ht h, hc1, htold]
    · have hnext : endSkipped s id c r
          = if Config.maxTime < d + c.period then (reported none).setCue id c1.toHeld
            else (reported (some (d + c.period))).setCue id (c1.toArmed (d + c.period)) := by
        rw [endSkipped_time hd ht h, hc1, stoppedSkips_ahead hahead, groupedSkips_ahead (Nat.le_of_lt hahead), ite_self,
          groupedNext_ahead h hahead, groupedNext_ahead h hahead, htold, htold, ite_self]
      exact ⟨fun hle => hnext.trans (if_neg (Nat.not_lt.mpr hle)), fun hlt => hnext.trans (if_pos hlt)⟩
  case released =>
    intro c1 s1 done next
    have hc1 : c.recordReleased r late fault n = c1 := recordReleased_eq hrep r late fault n
    have hs1 : tellReleased s id c r late fault n = s1 := by
      rw [tellReleased_eq hrep, hc1]
    obtain ⟨h1, h2, h3, h4, h5⟩ := endReleased_eq s id c r late fault n
    obtain ⟨htime, htriggers⟩ := tellReleased_keeps s id c r late fault n
    rw [hc1, hs1] at h1 h2 h3 h4 h5
    rw [hs1] at htime htriggers
    have hspent : c1.spent = true ↔ done := spent_iff c1
    refine ⟨h1, fun hc hd => (h2 hc).trans (if_pos (hspent.mpr hd)), fun hc hd =>
      (h2 hc).trans (if_neg (fun hx => hd (hspent.mp hx))), fun hc hd => h3 hc (hspent.mpr hd),
      fun hc hd ht => ?_, fun hc hd ht hahead hle => ?_⟩
    · rw [h5 hc (fun hx => hd (hspent.mp hx)) ht, htriggers]
    · have hahead' : s1.time.device < next := by rw [htime]; exact hahead
      rw [h4 hc (fun hx => hd (hspent.mp hx)) ht, nextTimed_eq, groupedSkips_ahead (Nat.le_of_lt hahead'), ite_self,
        groupedNext_ahead hd hahead', if_neg (Nat.not_lt.mpr hle), raiseSkipped_eq, if_pos (Or.inl rfl)]
  case grouped =>
    intro now up goesTo
    have hgoes : ∀ (u : State) (c1 : Cue) (r : OccResult) (k n : Nat), c1.period = c.period → c1.report = c.report →
        c1.repeatCount = c.repeatCount → u.time.device = now →
        groupedNext u id c1 r (d + c.period) k n = goesTo u c1 r k n := by
      intro u c1 r k n hperiod hreport hcount hnow
      have hrecord : c1.recordSkipped k r u.time.device (d + k * c.period)
          = if k = 0 then c1
            else
              { c1 with
                used := up c1.used k, skipped := up c1.skipped k,
                last := some
                  { result := r, late := false, checkFault := false, startTime := none,
                    lateness := now - (d + k * c.period), bytes := 0 } } := by
        simp only [Cue.recordSkipped, countUp, hcount, hnow, up]
      have hc2report : (c1.recordSkipped k r u.time.device (d + k * c.period)).report = c.report :=
        (recordSkipped_fields _ _ _ _ _).2.2.2.trans hreport
      have hc2count : (c1.recordSkipped k r u.time.device (d + k * c.period)).repeatCount = c.repeatCount := by
        unfold Cue.recordSkipped
        split <;> exact hcount
      rw [← hperiod, groupedNext_eq, nextOccurrence_eq, hperiod, hc2count]
      simp only [raiseSkipped_eq, hc2report]
      rw [hrecord, hnow]
    refine ⟨fun r hr => ?skip, fun r late fault n rep hrep hcut => ?release⟩
    case skip =>
      intro c1 k hs
      have hc1 : c.recordSkipped 1 r s.time.device d = c1 := rfl
      rw [endSkipped_time hd ht hs, hc1]
      rcases hr with rfl | rfl
      · rw [if_neg nofun]
        exact hgoes s c1 .skippedLate _ 1 rfl rfl rfl rfl
      · rw [if_pos rfl]
        exact hgoes s c1 .skippedLaneStopped _ 1 rfl rfl rfl rfl
    case release =>
      intro c1 s1 k hs
      have hc1 : c.recordReleased r late fault n = c1 := recordReleased_eq hrep r late fault n
      have hs1 : tellReleased s id c r late fault n = s1 := by
        rw [tellReleased_eq hrep, hc1]
      obtain ⟨-, -, -, h4, -⟩ := endReleased_eq s id c r late fault n
      obtain ⟨htime, -⟩ := tellReleased_keeps s id c r late fault n
      rw [hc1, hs1] at h4
      rw [hs1] at htime
      have hdue : c.due.getD 0 = d := by rw [hd]; rfl
      rw [h4 hcut (fun hx => hs ((spent_iff c1).mp hx)) ht, nextTimed_eq, hdue, htime]
      exact hgoes s1 c1 .skippedLate _ 0 rfl rfl rfl (congrArg TimeBase.device htime)
  case counts =>
    refine ⟨fun seq code he => ?_, fun h => ?_, fun seq code held stopped he => ?_, fun h => ?_⟩
    · simp only [noteCancelled, he, if_true]
    · unfold noteCancelled
      split
      next seq code cue he =>
        split
        next hcue => exact absurd (hcue ▸ he) (h seq code)
        · rfl
      · rfl
    · simp only [noteStopped, he]
    · unfold noteStopped
      split
      next seq code held stopped he => exact absurd he (h seq code held stopped)
      · rfl

end Sys2Proof.Machine
end

section
/-!
PROOFS. The choice of a cue by its lane (R8, R9, R33, R34, R36), what every event ends with, and a due that comes within
the lead window (O42).
-/

namespace Sys2Proof.Machine

/-! ### The due list and the pending queue -/

theorem insertBy_perm {α : Type} (lt : α → α → Bool) (x : α) (l : List α) : (insertBy lt x l).Perm (x :: l) := by
  induction l with
  | nil => exact .refl _
  | cons y t ih =>
    unfold insertBy
    split
    · exact (ih.cons y).trans (.swap x y t)
    · exact .refl _

theorem sortBy_perm {α : Type} (lt : α → α → Bool) (l : List α) : (sortBy lt l).Perm l := by
  induction l with
  | nil => exact .refl _
  | cons x t ih => exact (insertBy_perm lt x _).trans (ih.cons x)

/-- The keys of a part of a table in order differ after sorting. -/
theorem sortBy_keys_ne {α : Type} {t : List (Nat × α)} (hs : sortedKeys t = true) (p : Nat × α → Bool)
    (lt : Nat × α → Nat × α → Bool) : (sortBy lt (t.filter p)).Pairwise (fun a b => a.1 ≠ b.1) := by
  have hnd : ((t.filter p).map Prod.fst).Nodup := (sortedKeys_filter_pairwise t p hs).imp Nat.ne_of_lt
  have hsorted : ((sortBy lt (t.filter p)).map Prod.fst).Nodup := ((sortBy_perm lt _).map Prod.fst).nodup_iff.mpr hnd
  exact List.pairwise_map.mp hsorted

theorem dueBefore_iff (a b : Nat × Cue) :
    dueBefore a b = true ↔ a.2.due.getD 0 < b.2.due.getD 0 ∨ (a.2.due.getD 0 = b.2.due.getD 0 ∧ a.1 < b.1) := by
  simp only [dueBefore, Bool.or_eq_true, Bool.and_eq_true, decide_eq_true_eq]

theorem pendingBefore_iff (a b : Nat × Cue) :
    pendingBefore a b = true ↔ b.2.priority < a.2.priority ∨ (a.2.priority = b.2.priority ∧ dueBefore a b = true) := by
  simp only [pendingBefore, Bool.or_eq_true, Bool.and_eq_true, decide_eq_true_eq]

theorem dueBefore_false_iff (a b : Nat × Cue) :
    dueBefore a b = false
      ↔ b.2.due.getD 0 ≤ a.2.due.getD 0 ∧ (a.2.due.getD 0 = b.2.due.getD 0 → b.1 ≤ a.1) := by
  rw [← Bool.not_eq_true, dueBefore_iff]
  omega

theorem pendingBefore_false_iff (a b : Nat × Cue) :
    pendingBefore a b = false
      ↔ a.2.priority ≤ b.2.priority ∧ (a.2.priority = b.2.priority → dueBefore a b = false) := by
  rw [← Bool.not_eq_true, pendingBefore_iff, not_or, not_lt, not_and, Bool.not_eq_true]

/-- The due list by due, then id (R8). -/
theorem dueList_sorted {s : State} (hs : sortedKeys s.cues = true) :
    (dueList s).Pairwise (fun a b => dueBefore a b = true) := by
  refine (List.Pairwise.and (sortBy_pairwise ?asymm ?trans _) (sortBy_keys_ne hs _ dueBefore)).imp ?strict
  case asymm =>
    intro a b h
    rw [dueBefore_iff] at h
    rw [dueBefore_false_iff]
    omega
  case trans =>
    intro a b c h1 h2
    rw [dueBefore_false_iff] at *
    omega
  case strict =>
    rintro a b ⟨h, hne⟩
    rw [dueBefore_false_iff] at h
    rw [dueBefore_iff]
    omega

/-- A pending queue by priority, highest first, then due, then id (R9). -/
theorem pendingQueue_sorted {s : State} (hs : sortedKeys s.cues = true) (l : Fin 4) :
    (pendingQueue s l).Pairwise (fun a b => pendingBefore a b = true) := by
  refine (List.Pairwise.and (sortBy_pairwise ?asymm ?trans _) (sortBy_keys_ne hs _ pendingBefore)).imp ?strict
  case asymm =>
    intro a b h
    rw [pendingBefore_iff, dueBefore_iff] at h
    rw [pendingBefore_false_iff, dueBefore_false_iff]
    omega
  case trans =>
    intro a b c h1 h2
    rw [pendingBefore_false_iff, dueBefore_false_iff] at *
    omega
  case strict =>
    rintro a b ⟨h, hne⟩
    rw [pendingBefore_false_iff, dueBefore_false_iff] at h
    rw [pendingBefore_iff, dueBefore_iff]
    omega

/-! ### The candidate and the pick -/

/-- A lane with an empty pending queue looks through the due list (R34). -/
theorem candidate_due {s : State} {l : Fin 4} (h : pendingQueue s l = []) :
    candidate s l
      = (dueList s).find? (fun e =>
          decide (e.2.lane = l) && withinWindow s (s.lane l).config.leadWindow (e.2.due.getD 0)) := by
  rw [candidate, h]

/-- A pick (R34). -/
theorem pickFor_picks {s : State} {l : Fin 4} {id : Nat} {c : Cue} {p : Payload} (hi : (s.lane l).state = .idle)
    (hc : candidate s l = some (id, c)) (hp : s.payload? c.payload = some p) :
    pickFor s l
      = placeLaneRead ((s.setCue id { c with state := .staged }).setLane l
          ((s.lane l).stagedFor (heldCueOf id c p) c.options.verify)) l := by
  rw [pickFor, if_pos hi, hc]
  show pickCue s l id c = _
  rw [pickCue, hp]
  rfl

theorem pickFor_rests {s : State} {l : Fin 4} (h : (s.lane l).state ≠ .idle ∨ candidate s l = none) :
    pickFor s l = s := by
  unfold pickFor
  split
  next hi => rw [h.resolve_left (not_not_intro hi)]
  · rfl

/-! ### The restage -/

/-- A cue has entered its state with its due in the event (R33). -/
theorem enteredSince_iff (s0 : State) (e : Nat × Cue) :
    enteredSince s0 e = true ↔ ∀ c0, s0.cue? e.1 = some c0 → c0.state ≠ e.2.state ∨ c0.due ≠ e.2.due := by
  cases hc : s0.cue? e.1 with
  | none =>
    simp [enteredSince, hc]
  | some c =>
    have hentered : enteredSince s0 e = true ↔ c.state ≠ e.2.state ∨ c.due ≠ e.2.due := by
      simp only [enteredSince, hc, Bool.not_eq_true', Bool.and_eq_false_iff, decide_eq_false_iff_not]
    rw [hentered]
    refine ⟨fun h c0 h0 => ?_, fun h => h c rfl⟩
    rw [← Option.some.inj h0]
    exact h

theorem evaluates_iff (s0 s : State) (l : Fin 4) :
    evaluates s0 s l = true ↔ ∃ e ∈ s.cues, e.2.lane = l
      ∧ ((e.2.state = .pending ∧ enteredSince s0 e = true)
        ∨ (e.2.state = .armed
          ∧ (enteredSince s0 e = true ∨ (e.2.due.getD 0 ≤ s.time.device + (s.lane l).config.leadWindow
            ∧ ¬ e.2.due.getD 0 ≤ s0.time.device + (s.lane l).config.leadWindow)))) := by
  simp only [evaluates, cameWithin, withinWindow, List.any_eq_true, Bool.and_eq_true, Bool.or_eq_true, decide_eq_true_eq,
    Bool.not_eq_true', decide_eq_false_iff_not]

theorem displacedBy_iff (s0 s : State) (l : Fin 4) (due : Nat) :
    displacedBy s0 s l due = true ↔ ∃ e ∈ s.cues, e.2.lane = l
      ∧ ((e.2.state = .pending ∧ enteredSince s0 e = true)
        ∨ (e.2.state = .armed ∧ e.2.due.getD 0 ≤ s.time.device + (s.lane l).config.leadWindow
          ∧ e.2.due.getD 0 < due)) := by
  simp only [displacedBy, withinWindow, List.any_eq_true, Bool.and_eq_true, Bool.or_eq_true, decide_eq_true_eq]
  refine exists_congr fun e => and_congr_right fun _ => and_congr_right fun _ => or_congr_right ?_
  rw [and_assoc, and_comm (a := e.2.due.getD 0 < due)]

/-- A restage, with the cue that the lane holds (R36). -/
theorem restage_eq {s0 s : State} {l : Fin 4} {h : HeldCue} {c : Cue} {d : Nat}
    (hst : (s.lane l).state.holdsStaged = true) (hh : (s.lane l).held = some h) (hc : s.cue? h.cue = some c)
    (hd : c.due = some d) :
    restage s0 s l
      = if evaluates s0 s l = true ∧ s.time.device < d ∧ displacedBy s0 s l d = true then
          unstage (s.setCue h.cue (c.toArmed d)) l
        else s := by
  have hdue : c.due.getD 0 = d := by rw [hd]; rfl
  rw [restage, hst, hh]
  simp only [hc, hdue, Bool.true_and, Bool.and_eq_true, decide_eq_true_eq]
  by_cases hev : evaluates s0 s l = true
  · rw [if_pos hev]
    by_cases hdis : s.time.device < d ∧ displacedBy s0 s l d = true
    · rw [if_pos hdis, if_pos ⟨hev, hdis⟩, giveBack, hdue, if_pos hdis.1]
    · rw [if_neg hdis, if_neg fun hx => hdis hx.2]
  · rw [if_neg hev, if_neg fun hx => hev hx.1]

/-- A lane without a staged cue is not restaged. -/
theorem restage_unstaged {s0 s : State} {l : Fin 4} (h : (s.lane l).state.holdsStaged = false) : restage s0 s l = s := by
  rw [restage, h, Bool.false_and, if_neg Bool.false_ne_true]

/-- The end of a flush leaves no flush to end. -/
theorem endFlush_endFlush (s : State) (l : Fin 4) : endFlush (endFlush s l) l = endFlush s l := by
  by_cases hf : flushOver s l = true
  · have hover : flushOver (endFlush s l) l = false := by
      simp only [flushOver, endFlush_lane s l hf, Lane.toIdle]
      rfl
    rw [endFlush.eq_def (endFlush s l), hover, if_neg Bool.false_ne_true]
  · have hsame : endFlush s l = s := by rw [endFlush, if_neg hf]
    rw [hsame, hsame]

/-- The end of a flush stages nothing. -/
theorem endFlush_unstaged {s : State} {l : Fin 4} (h : (s.lane l).state.holdsStaged = false) :
    ((endFlush s l).lane l).state.holdsStaged = false := by
  by_cases hf : flushOver s l = true
  · rw [endFlush_lane s l hf]; rfl
  · rw [endFlush, if_neg hf]; exact h

/-- A lane without a staged cue may end its flush and pick. -/
theorem settleLane_unstaged {s0 s : State} {l : Fin 4} (h : (s.lane l).state.holdsStaged = false) :
    settleLane s0 s l = pickFor (endFlush s l) l := by
  rw [settleLane, restage_unstaged (endFlush_unstaged h), endFlush_endFlush]

/-! ### The store at the end of an event -/

/-- Payloads freed together leave the list of those that a soft reset left. -/
theorem foldl_freePayload_leaving (ids : List Nat) :
    ∀ s : State, ids.Nodup → (∀ id ∈ ids, s.payload? id ≠ none) →
      (ids.foldl State.freePayload s).store.leaving = s.store.leaving.filter (fun k => decide (k ∉ ids)) := by
  induction ids with
  | nil => exact fun s _ _ => (List.filter_eq_self.mpr fun _ _ => rfl).symm
  | cons id ids ih =>
    intro s hnd hin
    obtain ⟨hid, hnd⟩ := List.nodup_cons.mp hnd
    have hleft : (s.freePayload id).store.leaving = s.store.leaving.filter (fun k => decide (k ≠ id)) := by
      unfold State.freePayload
      split
      next h => exact absurd h (hin id List.mem_cons_self)
      · rfl
    rw [List.foldl_cons, ih _ hnd, hleft, List.filter_filter]
    · refine List.filter_congr fun k _ => ?_
      rw [← Bool.decide_and]
      refine decide_eq_decide.mpr ?_
      rw [List.mem_cons, not_or]
      exact And.comm
    · intro k hk
      rw [payload?_freePayload, if_neg (fun h : k = id => hid (h ▸ hk))]
      exact hin k (List.mem_cons_of_mem _ hk)

/-- The DOOMED payloads that no cue names, freed by rising id (R89). -/
theorem freeDoomed_eq {s : State} (hs : sortedKeys s.store.directory = true) :
    let gone := fun e : Nat × Payload => decide (e.2.state = .doomed ∧ e.2.refs = 0)
    let went := s.store.directory.filter gone
    s.freeDoomed
      = { s with
          store :=
            { s.store with
              pool := s.store.pool ++ (went.map (fun e => e.2.blocks)).flatten,
              directory := s.store.directory.filter (fun e => !gone e),
              leaving := s.store.leaving.filter (fun k => decide (k ∉ went.map Prod.fst)) } } := by
  intro gone went
  have hids : doomedUnused s = went.map Prod.fst := by
    refine congrArg (List.map Prod.fst) (List.filter_congr fun e _ => ?_)
    exact (Bool.decide_and _ _).symm
  obtain ⟨hdir, hpool⟩ := foldl_freePayload_filter gone hs
  have hchunks := foldl_freePayload_chunks (went.map Prod.fst) s
  have hleaving := foldl_freePayload_leaving (went.map Prod.fst) s
    ((sortedKeys_filter_pairwise _ gone hs).imp Nat.ne_of_lt) (fun id hid => by
      obtain ⟨e, he, rfl⟩ := List.mem_map.mp hid
      rw [State.payload?, tget_of_mem hs (List.mem_filter.mp he).1]
      exact nofun)
  rw [State.freeDoomed, hids, foldl_freePayload_only]
  change ((went.map Prod.fst).foldl State.freePayload s).store.directory = _ at hdir
  change ((went.map Prod.fst).foldl State.freePayload s).store.pool = _ at hpool
  generalize ((went.map Prod.fst).foldl State.freePayload s).store = t at hdir hpool hchunks hleaving
  refine congrArg (fun t => ({ s with store := t } : State)) ?_
  show Store.mk t.directory t.pool t.chunks t.leaving = _
  rw [hdir, hpool, hchunks, hleaving]

/-! ### A due that comes within the lead window -/

section
variable {a : State} {id : Nat} {c : Cue} {d : Nat} {l : Fin 4}

/-- A cue taken out of the state before has entered the lane's choice (R33). -/
theorem evaluates_entered (hc : a.cue? id = some c) (hst : c.state = .armed) (hl : c.lane = l) :
    evaluates (a.dropCue id) a l = true := by
  refine (evaluates_iff _ _ _).mpr ⟨(id, c), mem_of_tget hc, hl, .inr ⟨hst, .inl ((enteredSince_iff _ _).mpr ?_)⟩⟩
  intro c0 h0
  rw [State.cue?, show (a.dropCue id).cues = tdel a.cues id from rfl, tget_tdel_self] at h0
  cases h0

/-- It displaces a staged cue of a later due (R36). -/
theorem displacedBy_entered (hc : a.cue? id = some c) (hst : c.state = .armed) (hl : c.lane = l) (hd : c.due = some d)
    (hw : d ≤ a.time.device + (a.lane l).config.leadWindow) {d0 : Nat} (h : d < d0) :
    displacedBy (a.dropCue id) a l d0 = true := by
  refine (displacedBy_iff _ _ _ _).mpr ⟨(id, c), mem_of_tget hc, hl, .inr ⟨hst, ?_⟩⟩
  rw [show c.due.getD 0 = d by rw [hd]; rfl]
  exact ⟨hw, h⟩

/-- Where no ARMED cue of the window has an earlier due, nothing displaces it. -/
theorem displacedBy_none (hs : sortedKeys a.cues = true) (hc : a.cue? id = some c) (hst : c.state = .armed) {d0 : Nat}
    (h : ∀ e ∈ a.cues, e.2.lane = l → e.2.state = .armed →
      e.2.due.getD 0 ≤ a.time.device + (a.lane l).config.leadWindow → d0 ≤ e.2.due.getD 0) :
    displacedBy (a.dropCue id) a l d0 = false := by
  refine Bool.eq_false_iff.mpr fun hx => ?_
  obtain ⟨e, he, hel, ⟨hp, hentered⟩ | ⟨ha, hw, hlt⟩⟩ := (displacedBy_iff _ _ _ _).mp hx
  · have hne : e.1 ≠ id := fun heq => by
      have := tget_of_mem hs he
      rw [heq] at this
      rw [State.cue?, this] at hc
      rw [Option.some.inj hc, hst] at hp
      cases hp
    have hsame : (a.dropCue id).cue? e.1 = some e.2 := (tget_tdel_ne a.cues id e.1 hne).trans (tget_of_mem hs he)
    rcases (enteredSince_iff _ _).mp hentered e.2 hsame with h | h <;> exact h rfl
  · exact absurd hlt (Nat.not_lt.mpr (h e he hel ha hw))

end

theorem insideWindow_iff {s : State} {id : Nat} {c : Cue} (h : s.cue? id = some c) :
    insideWindow id s = true
      ↔ c.state = .armed ∧ c.due.getD 0 ≤ s.time.device + (s.lane c.lane).config.leadWindow := by
  simp only [insideWindow, withinWindow, h, Bool.and_eq_true, decide_eq_true_eq]

/-- The event in which a due comes within the lead window. -/
theorem exec_leadWindowEntry {s : State} {id : Fin 64} {c : Cue} (hr : s.inReset = false)
    (hc : s.cue? id.val = some c) (h : insideWindow id.val s = true) :
    exec (.leadWindowEntry id) s
      = .next (finished (txBegin s) (settleLane ((txBegin s).dropCue id.val) (txBegin s) c.lane)) := by
  refine congrArg Host.Outcome.next ((coreEventIf_finished _ _ s h hr).trans ?_)
  rw [enterWindow, txBegin_cue?, hc]

theorem exec_leadWindowEntry_rests {s : State} {id : Fin 64} (h : insideWindow id.val s = false) :
    exec (.leadWindowEntry id) s = .next s :=
  congrArg Host.Outcome.next (if_neg (by rw [h]; exact nofun))

/-! ### The obligation -/

/-- Settles O42: the orders, the pick, the restage, what every event ends with, and LEAD_WINDOW_ENTRY. -/
theorem leadWindowEntered : Obligations.LeadWindowEntered := by
  unfold Obligations.LeadWindowEntered
  refine ⟨fun s l hs => ?orders, fun s l => ?pick, fun s0 s l => ?restage, fun s hs => freeDoomed_eq hs,
    fun id c d s hr hs hc hst hd => ?entry, fun id s h => exec_leadWindowEntry_rests ?none_⟩
  case orders =>
    intro due sooner before within
    have hpq : s.cues.filter (fun e => decide (e.2.state = .pending) && decide (e.2.lane = l))
        = s.cues.filter (fun e => decide (e.2.state = .pending ∧ e.2.lane = l)) :=
      List.filter_congr fun e _ => (Bool.decide_and _ _).symm
    refine ⟨⟨sortBy_perm _ _, (dueList_sorted hs).imp fun {a b} h => (dueBefore_iff a b).mp h⟩,
      ⟨hpq ▸ sortBy_perm pendingBefore _, (pendingQueue_sorted hs l).imp fun {a b} h => ?_⟩,
      fun e rest h => by rw [candidate, h], fun h => ⟨fun e ahead rest hdl hno he => ?_, fun hno => ?_⟩⟩
    · rcases (pendingBefore_iff a b).mp h with h | ⟨h1, h2⟩
      · exact .inl h
      · exact .inr ⟨h1, (dueBefore_iff a b).mp h2⟩
    all_goals
      have hp : ∀ x : Nat × Cue, (decide (x.2.lane = l)
          && withinWindow s (s.lane l).config.leadWindow (x.2.due.getD 0)) = true ↔ within x := fun x => by
        rw [Bool.and_eq_true, decide_eq_true_eq, withinWindow, decide_eq_true_eq]
      rw [candidate_due h]
    · have hnone : ahead.find? (fun x => decide (x.2.lane = l)
          && withinWindow s (s.lane l).config.leadWindow (x.2.due.getD 0)) = none :=
        List.find?_eq_none.mpr fun x hx hw => hno x hx ((hp x).mp hw)
      rw [hdl, List.find?_append, hnone, Option.none_or]
      exact List.find?_cons_of_pos ((hp e).mpr he)
    · exact List.find?_eq_none.mpr fun x hx hw => hno x hx ((hp x).mp hw)
  case pick =>
    intro x
    refine ⟨fun id c p hi hc hp => ?_, fun h => pickFor_rests h⟩
    intro off y
    have hspan : c.span p = { offset := off, count := (c.range.map Range.count).getD p.length } := by
      cases hr : c.range with
      | none => simp only [Cue.span, hr, off]; rfl
      | some r => simp only [Cue.span, hr, off]; rfl
    have hy : (s.lane l).stagedFor (heldCueOf id c p) c.options.verify = y := by
      rw [heldCueOf, hspan]
      rfl
    rw [pickFor_picks hi hc hp, hy]
  case restage =>
    intro x
    refine ⟨fun h c d hst hh hc hd => ?_, fun h1 h2 => ?_, rfl, rfl, fun h => finished_goesOn s0 s h, fun u hu hl => ?_,
      fun h seq code st res => ?_⟩
    · intro within entered evaluation found
      have hst' : (s.lane l).state.holdsStaged = true := by
        rcases hst with h | h <;> rw [show (s.lane l).state = _ from h] <;> rfl
      have hev : evaluates s0 s l = true ↔ evaluation := by
        rw [evaluates_iff]
        simp only [enteredSince_iff]
        rfl
      have hfound : displacedBy s0 s l d = true ↔ found := by
        rw [displacedBy_iff]
        simp only [enteredSince_iff]
        rfl
      have heq := restage_eq (s0 := s0) hst' hh hc hd
      refine ⟨fun hd he hf => heq.trans (if_pos ⟨hev.mpr he, hd, hfound.mpr hf⟩), fun hno => heq.trans (if_neg ?_)⟩
      rintro ⟨he, hlt, hf⟩
      rcases hno with hno | hno | hno
      · exact absurd hlt (Nat.not_lt.mpr hno)
      · exact hno (hev.mp he)
      · exact hno (hfound.mp hf)
    · refine restage_unstaged ?_
      cases hx : (s.lane l).state with
      | staging => exact absurd hx h1
      | primed => exact absurd hx h2
      | stopped | idle | emitting | flushing => rfl
    · rcases hu with rfl | rfl
      · rw [finished, coreTail_laneLeads s0 s l hl]
        rfl
      · exact finished_leads_flush hl
    · have hs : settled s0 (queueReply s seq code st res) = true := by
        simp only [settled, goesOn, Bool.and_eq_true] at h ⊢
        exact ⟨⟨h.1.1, rfl⟩, h.2⟩
      exact finished_settled s0 _ hs
  case entry =>
    intro a l x becomes
    have hdue : c.due.getD 0 = d := by rw [hd]; rfl
    have hlane : a.lane l = x := txBegin_lane s l
    have hca : a.cue? id.val = some c := (txBegin_cue? s _).trans hc
    have htime : a.time = s.time := txBegin_time s
    refine ⟨fun hw => ?_, fun hw => exec_leadWindowEntry_rests (Bool.eq_false_iff.mpr fun h => ?_)⟩
    · have hexec := exec_leadWindowEntry hr hc ((insideWindow_iff hc).mpr ⟨hst, hdue ▸ hw⟩)
      have settles : ∀ u, settleLane (a.dropCue id.val) a l = u → becomes u := fun u hu => hu ▸ hexec
      have hwa : d ≤ a.time.device + (a.lane l).config.leadWindow := by rw [htime, hlane]; exact hw
      refine ⟨fun h => settles _ ?_, fun h => settles _ (settleLane_unstaged (by rw [hlane, h]; rfl)),
        fun h => settles _ ?_, fun h c0 d0 hst0 hh hne hc0 hd0 => ⟨fun hahead hlt => ?_, fun hno => settles _ ?_⟩⟩
      · rw [settleLane_unstaged (by rw [hlane, h]; rfl), endFlush, if_neg (by simp [flushOver, hlane, h])]
      · have hno : (a.lane l).state ≠ .flushing ∧ (a.lane l).state ≠ .idle := by
          rcases h with h | h <;> rw [hlane, h] <;> exact ⟨nofun, nofun⟩
        rw [settleLane_unstaged (by rcases h with h | h <;> rw [hlane, h] <;> rfl), endFlush,
          if_neg (by simp [flushOver, hno.1]), pickFor_rests (.inl hno.2)]
      all_goals
        have hst0' : (a.lane l).state.holdsStaged = true := by
          rw [hlane]; rcases hst0 with h | h <;> rw [h] <;> rfl
        have hh' : (a.lane l).held = some h := by rw [hlane]; exact hh
        have hc0' : a.cue? h.cue = some c0 := (txBegin_cue? s _).trans hc0
      · intro t
        have hf : endFlush a l = a := by
          rw [endFlush, if_neg]
          intro hx
          simp only [flushOver, Bool.and_eq_true, decide_eq_true_eq] at hx
          rw [hx.1] at hst0'
          cases hst0'
        have hgive : restage (a.dropCue id.val) a l = t := by
          rw [restage_eq hst0' hh' hc0' hd0]
          exact if_pos ⟨evaluates_entered hca hst rfl, by rw [htime]; exact hahead,
            displacedBy_entered hca hst rfl hd hwa hlt⟩
        refine settles _ ?_
        rw [settleLane, hf, hgive]
      · refine settleLane_staged _ _ _ hst0' ?_
        have hheld : heldDue a l = d0 := by
          simp only [heldDue, hh', hc0', hd0]
          rfl
        rw [hheld, htime, Bool.or_eq_true, decide_eq_true_eq, Bool.not_eq_true']
        rcases hno with hno | hno
        · exact .inl hno
        · refine .inr (displacedBy_none (by rw [show a.cues = s.cues from txBegin_cues s]; exact hs) hca hst ?_)
          rw [show a.cues = s.cues from txBegin_cues s, htime, hlane]
          exact hno
    · obtain ⟨-, hle⟩ := (insideWindow_iff hc).mp h
      rw [hdue] at hle
      exact absurd hle (Nat.not_le.mpr hw)
  case none_ =>
    cases hc : s.cue? id.val with
    | none => rw [insideWindow, hc]
    | some c => exact Bool.eq_false_iff.mpr fun hx => h c hc ((insideWindow_iff hc).mp hx).1

end Sys2Proof.Machine
end

section
/-!
PROOFS. Emission (R41 to R53): the start of a release (O44), the byte slot (O45), cuts and unstagings (O46), the hold
(O47) and the end of a flush (O48). The byte that leaves is stated once, as it departs within a release and as the END
byte.
-/

namespace Sys2Proof.Machine

/-! ### The byte that leaves -/

/-- A lane after a byte within its release has left (R44). -/
def Lane.departed (x : Lane) (b : Byte) (rest : List Byte) (last : Bool) : Lane :=
  { x with
    buffer := rest, emitted := x.emitted + 1, slotWaiting := false, slotIn := x.config.pace,
    pins := { valid := true, data := b, start := decide (x.emitted = 0), last := last, abort := false } }

theorem departByte_eq {s : State} {l : Fin 4} {h : HeldCue} {b : Byte} {rest : List Byte}
    (hh : (s.lane l).held = some h) (hb : (s.lane l).buffer = b :: rest) :
    departByte s l
      = if (s.lane l).emitted + 1 = h.count then
          completeRelease (s.setLane l ((s.lane l).departed b rest (decide ((s.lane l).emitted + 1 = h.count)))) l
        else placeLaneRead (s.setLane l ((s.lane l).departed b rest (decide ((s.lane l).emitted + 1 = h.count)))) l := by
  generalize hz : (if (s.lane l).emitted + 1 = h.count then _ else _) = z
  unfold departByte
  dsimp only
  split
  next h' b' rest' hh' hb' =>
    rw [← hz]
    obtain rfl : h' = h := Option.some.inj (hh'.symm.trans hh)
    obtain ⟨rfl, rfl⟩ : b' = b ∧ rest' = rest := List.cons.inj (hb'.symm.trans hb)
    rfl
  next hno => exact absurd hb (hno h b rest hh)

/-- A byte within the release leaves a lane given as `y` (R44). -/
theorem departByte_within {s : State} {l : Fin 4} {y : Lane} {h : HeldCue} {b : Byte} {rest : List Byte}
    (hh : y.held = some h) (hb : y.buffer = b :: rest) (hn : y.emitted + 1 ≠ h.count) :
    departByte (s.setLane l y) l = placeLaneRead (s.setLane l (y.departed b rest false)) l := by
  rw [departByte_eq (s := s.setLane l y) (by rw [lane_setLane_self]; exact hh) (by rw [lane_setLane_self]; exact hb),
    lane_setLane_self, setLane_setLane, if_neg hn, decide_eq_false hn]

/-- A payload's mismatch flag is not seen by the lanes and the cue table. -/
theorem markMismatch_only (s : State) (p : Nat) : markMismatch s p = { s with store := (markMismatch s p).store } := by
  unfold markMismatch
  split <;> rfl

theorem markMismatch_setLane (s : State) (l : Fin 4) (x : Lane) (p : Nat) :
    markMismatch (s.setLane l x) p = (markMismatch s p).setLane l x := by
  unfold markMismatch
  rw [show (s.setLane l x).payload? p = s.payload? p from rfl]
  split <;> rfl

theorem markMismatch_cue? (s : State) (p id : Nat) : (markMismatch s p).cue? id = s.cue? id := by
  rw [markMismatch_only]
  rfl

/-- A release completes at a lane given as `y` (R52, R53). -/
theorem completeRelease_eq {s : State} {l : Fin 4} {y : Lane} {h : HeldCue} {c : Cue} (hh : y.held = some h)
    (hc : s.cue? h.cue = some c) :
    let fault := checkFaultFlag h.check y.verify
    completeRelease (s.setLane l y) l
      = endReleased ((if fault then markMismatch s h.payload else s).setLane l y.toIdle) h.cue c .sent y.lateKept fault
          y.emitted := by
  intro fault
  have hcue : ((if fault then markMismatch s h.payload else s).setLane l y.toIdle).cue? h.cue = some c := by
    show (if fault then markMismatch s h.payload else s).cue? h.cue = _
    split
    · rw [markMismatch_cue?, hc]
    · exact hc
  have hu : (if fault then markMismatch (s.setLane l y) h.payload else s.setLane l y).setLane l y.toIdle
      = (if fault then markMismatch s h.payload else s).setLane l y.toIdle := by
    split
    · rw [markMismatch_setLane, setLane_setLane]
    · rw [setLane_setLane]
  unfold completeRelease
  dsimp only
  rw [lane_setLane_self, hh]
  dsimp only
  rw [hu, hcue]

/-- The END byte leaves a lane given as `y`: the comparison is made, the lane is IDLE, and the occurrence ends SENT. -/
theorem departByte_end {s : State} {l : Fin 4} {y : Lane} {h : HeldCue} {b : Byte} {rest : List Byte} {c : Cue}
    (hh : y.held = some h) (hb : y.buffer = b :: rest) (hn : y.emitted + 1 = h.count) (hc : s.cue? h.cue = some c) :
    let fault := checkFaultFlag h.check y.verify
    departByte (s.setLane l y) l
      = endReleased ((if fault then markMismatch s h.payload else s).setLane l (y.departed b rest true).toIdle) h.cue c
          .sent y.lateKept fault h.count := by
  intro fault
  rw [departByte_eq (s := s.setLane l y) (by rw [lane_setLane_self]; exact hh) (by rw [lane_setLane_self]; exact hb),
    lane_setLane_self, setLane_setLane, if_pos hn, decide_eq_true hn,
    completeRelease_eq (y := y.departed b rest true) hh hc]
  exact congrArg _ hn

/-! ### Cuts and unstagings -/

/-- A cut that reaches its lane (R48, R49). -/
theorem cutLane_emitting {s : State} {l : Fin 4} (cause : CutCause) (h : (s.lane l).state = .emitting) :
    let x := s.lane l
    cutLane s l cause
      = giveUpRequest
          (s.setLane l
            { x with
              state := .flushing, held := if cause = .reset then none else x.held,
              release := if cause = .reset then none else x.release, buffer := [], verify := none,
              holdTimer := none, slotWaiting := false, slotIn := 0, cutCause := some cause,
              abortDue := x.pins.valid || x.abortDue,
              pins := if x.pins.valid then x.pins else { Pins.idle with abort := true } })
          (.lane l) := by
  intro x
  unfold cutLane
  dsimp only
  rw [if_pos h]
  refine congrArg (fun y => giveUpRequest (s.setLane l y) (.lane l)) ?_
  show ({ (x.showAbort.toFlushing _) with release := _, cutCause := _ } : Lane) = _
  cases hv : x.pins.valid <;> simp only [Lane.showAbort, hv, Lane.toFlushing] <;> rfl

theorem inFlight_iff (s : State) (r : Requester) :
    inFlight s r = true ↔
      ∃ t, s.mc.port = some (.transaction t) ∧ t.requester = r ∧ t.withdrawn = false ∧ t.phase ≠ .closing := by
  unfold inFlight
  split
  next t ht =>
    rw [Bool.and_eq_true, Bool.and_eq_true, decide_eq_true_iff, decide_eq_true_iff, Bool.not_eq_true']
    constructor
    · rintro ⟨⟨hr, hw⟩, hp⟩
      exact ⟨t, ht, hr, hw, hp⟩
    · rintro ⟨u, hu, hr, hw, hp⟩
      cases ht.symm.trans hu
      exact ⟨⟨hr, hw⟩, hp⟩
  next hno => exact ⟨fun h => (Bool.false_ne_true h).elim, fun ⟨t, ht, _⟩ => (hno t ht).elim⟩

theorem outstanding_iff (s : State) (r : Requester) :
    outstanding s r = true ↔ requestOf s r ≠ none ∨ inFlight s r = true := by
  cases r <;> simp only [outstanding, requestOf, Bool.or_eq_true, Option.isSome_iff_ne_none]

/-- Settles O46: the cut, the unstaging, and the request given up. -/
theorem cutAndUnstage : Obligations.CutAndUnstage := by
  unfold Obligations.CutAndUnstage
  refine ⟨fun s l cause => ?lanes, fun s r => ?requests⟩
  case lanes =>
    intro x
    refine ⟨fun h => cutLane_emitting cause h, fun h => cutLane_rest h, fun h => unstage_eq ?_, fun h1 h2 =>
      unstage_rest ?_⟩
    · rcases h with h | h <;> rw [show (s.lane l).state = _ from h] <;> rfl
    · cases hx : (s.lane l).state with
      | staging => exact absurd hx h1
      | primed => exact absurd hx h2
      | stopped | idle | emitting | flushing => rfl
  case requests =>
    intro u
    have hu : u = { s with mc := s.mc.giveUp (fun q => decide (q = r)) } := giveUpRequest_giveUp s r
    refine ⟨?_, fun q => requestOf_giveUpRequest s r q, fun t ht => ⟨fun hr ⟨c, hc⟩ => ?_, fun h => ?_⟩, fun h => ?_, ?_⟩
    · rw [hu]; rfl
    · rw [hu]
      show s.mc.port.map _ = _
      rw [ht]
      exact congrArg (some ∘ PortOp.transaction) (Transaction.withdrawIf_row hc (decide_eq_true hr))
    · rw [hu]
      show s.mc.port.map _ = _
      rw [ht]
      refine congrArg (some ∘ PortOp.transaction) ?_
      rcases t.withdrawIf_eq (fun q => decide (q = r)) with hx | ⟨⟨c, hc⟩, hr, -⟩
      · exact hx
      · rcases h with h | h | h
        · exact absurd (of_decide_eq_true hr) h
        · rw [h] at hc; cases hc
        · rw [h] at hc; cases hc
    · rw [hu]
      show s.mc.port.map _ = _
      cases hp : s.mc.port with
      | none => rfl
      | some op =>
        cases op with
        | transaction t => exact absurd hp (h t)
        | refresh | bringUp => rfl
    · rw [outstanding_iff, inFlight_iff]

/-! ### The start of a release -/

theorem startDue_eq {s : State} {l : Fin 4} {h : HeldCue} {c : Cue} {d : Nat} (hh : (s.lane l).held = some h)
    (hc : s.cue? h.cue = some c) (hd : c.due = some d) :
    startDue s l
      = if (s.lane l).state.holdsStaged && decide (d ≤ s.time.device)
            && decide (startLevel (s.lane l).config h ≤ (s.lane l).buffer.length) && !(s.lane l).hold then some d
        else none := by
  unfold startDue
  simp only [hh, hc, hd]

theorem startDue_txBegin (s : State) (l : Fin 4) : startDue (txBegin s) l = startDue s l := by
  simp only [startDue, txBegin_lane, txBegin_cue?, txBegin_time]

/-- A start needs a staged lane with a line that is not held, whose start level is buffered and whose due has come. -/
theorem of_startDue {s : State} {l : Fin 4} {d : Nat} (hd : startDue s l = some d) :
    (s.lane l).state.holdsStaged = true ∧ (s.lane l).hold = false ∧ ∃ h c, (s.lane l).held = some h ∧
      s.cue? h.cue = some c ∧ c.due = some d ∧ d ≤ s.time.device ∧
      startLevel (s.lane l).config h ≤ (s.lane l).buffer.length := by
  unfold startDue at hd
  dsimp only at hd
  split at hd
  next h hh =>
    split at hd
    next c hc =>
      split at hd
      next e he =>
        split at hd
        next hcond =>
          cases hd
          simp only [Bool.and_eq_true, decide_eq_true_iff, Bool.not_eq_true'] at hcond
          obtain ⟨⟨⟨hs, ht⟩, hl⟩, hx⟩ := hcond
          exact ⟨hs, hx, h, c, hh, hc, he, ht, hl⟩
        next => cases hd
      next => cases hd
    next => cases hd
  next => cases hd

/-- The lane as its release begins (R42). -/
def Lane.starting (x : Lane) (r : Release) : Lane := { x with state := .emitting, release := some r }

theorem startRelease_eq {s : State} {l : Fin 4} {h : HeldCue} {c : Cue} (d : Nat) (hh : (s.lane l).held = some h)
    (hc : s.cue? h.cue = some c) :
    let now := s.time.device
    let u := s.setCue h.cue { c with state := .releasing, started := some { time := now, lateness := now - d } }
    let v := if c.report = .startEach then u.raise (.cueStart h.cue now (now - d)) else u
    startRelease s l d
      = departByte
          (v.setLane l
            ((s.lane l).starting { start := now, lateness := now - d, late := decide (c.tolerance < now - d) })) l := by
  intro now u v
  unfold startRelease
  dsimp only
  split
  next h' hh' =>
    obtain rfl : h' = h := Option.some.inj (hh'.symm.trans hh)
    rw [hc]
    rfl
  next hno => cases hno.symm.trans hh

/-- Settles O44: a staged cue starts, or the test changes nothing. -/
theorem releaseStarts : Obligations.ReleaseStarts := by
  unfold Obligations.ReleaseStarts
  intro l s hr a becomes x
  have hx : a.lane l = x := txBegin_lane s l
  have hstart : startDue a l = startDue s l := startDue_txBegin s l
  refine ⟨fun h c d b rest hh hc hd hst hdue hlevel hhold hb he => ?starts, ?rests⟩
  case starts =>
    intro now c1 u v
    have hdueA : startDue a l = some d := by
      rw [hstart, startDue_eq hh hc hd, if_pos]
      simp only [Bool.and_eq_true, decide_eq_true_iff, Bool.not_eq_true']
      exact ⟨⟨⟨by rcases hst with h | h <;> rw [show (s.lane l).state = _ from h] <;> rfl, hdue⟩, hlevel⟩, hhold⟩
    have htry : tryStart a l = departByte (v.setLane l
        (x.starting { start := now, lateness := now - d, late := decide (c.tolerance < now - d) })) l := by
      unfold tryStart
      rw [hdueA]
      dsimp only
      rw [startRelease_eq (s := a) d (by rw [hx]; exact hh) (by rw [txBegin_cue?]; exact hc), hx, txBegin_time]
    have hbecomes : ∀ t, tryStart a l = t → becomes t := fun t ht => by
      show Host.Outcome.next _ = _
      rw [coreEventIf_finished _ _ s (by rw [← hstart, hdueA]; rfl) hr]
      exact congrArg (fun u => Host.Outcome.next (finished a u)) ht
    have hcue : v.cue? h.cue = some c1 := by
      have hu : u.cue? h.cue = some c1 := tget_tput_self _ _ _
      show (if c.report = .startEach then u.raise _ else u).cue? h.cue = _
      split <;> exact hu
    refine ⟨fun hcount => ?within, fun hcount => ?single⟩
    case within =>
      intro t
      have ht : tryStart a l = t := by
        rw [htry, departByte_within (y := x.starting _) hh hb (by show x.emitted + 1 ≠ _; omega)]
        refine congrArg (fun y => placeLaneRead (v.setLane l y) l) ?_
        rw [Lane.departed, Lane.starting, he]
        rfl
      exact ⟨ht, hbecomes t ht⟩
    case single =>
      intro fault w t
      have ht : tryStart a l = t := by
        rw [htry, departByte_end (y := x.starting _) hh hb (by show x.emitted + 1 = _; omega) hcue, hcount]
        refine congrArg (fun y => endReleased (w.setLane l y) h.cue c1 .sent _ fault 1) ?_
        rw [Lane.departed, Lane.starting, he]
        rfl
      refine ⟨ht, hbecomes t ht, fun hl => (hbecomes t ht).trans (congrArg Host.Outcome.next (finished_leads_pick hl))⟩
  case rests =>
    intro rests
    have hrest : startDue s l = none → rests := fun hn => by
      refine ⟨?_, ?_⟩
      · unfold tryStart
        rw [hstart, hn]
      · show Host.Outcome.next (coreEventIf _ _ s) = _
        rw [coreEventIf, if_neg (by rw [hn]; exact nofun)]
    have hnone : (∀ d, startDue s l ≠ some d) → rests := fun h => hrest (Option.eq_none_iff_forall_ne_some.mpr h)
    refine ⟨fun h1 h2 => hnone fun d hd => ?_, fun h => hnone fun d hd => ?_, fun h hh => ⟨fun hlt => hnone fun d hd => ?_,
      fun c d hc hd hlt => hrest ?_⟩⟩
    · have hs : x.state.holdsStaged = true := (of_startDue hd).1
      cases hx : x.state with
      | staging => exact h1 hx
      | primed => exact h2 hx
      | stopped | idle | emitting | flushing => rw [hx] at hs; cases hs
    · have := (of_startDue hd).2.1
      rw [show (s.lane l).hold = true from h] at this
      cases this
    · obtain ⟨-, -, h', c, hh', -, -, -, hl⟩ := of_startDue hd
      cases hh'.symm.trans hh
      exact absurd hl (Nat.not_le_of_lt hlt)
    · rw [startDue_eq hh hc hd, if_neg]
      simp [Nat.not_le_of_lt hlt]

/-! ### Slots and holds -/

theorem resolveSlot_empty {s : State} {l : Fin 4} (hb : (s.lane l).buffer = []) :
    resolveSlot s l = cutLane s l .underrun := by
  rw [resolveSlot, hb]
  rfl

theorem resolveSlot_byte {s : State} {l : Fin 4} {y : Lane} {b : Byte} {rest : List Byte} (hb : y.buffer = b :: rest) :
    resolveSlot (s.setLane l y) l = departByte (s.setLane l y) l := by
  rw [resolveSlot, lane_setLane_self, hb]
  rfl

theorem takeSlot_held {s : State} {l : Fin 4} (hs : (s.lane l).state = .emitting) (hh : (s.lane l).hold = true) :
    takeSlot s l = s.setLane l { s.lane l with slotWaiting := true, slotIn := 0 } := by
  unfold takeSlot
  dsimp only
  rw [if_pos hs, if_pos hh]

theorem takeSlot_free {s : State} {l : Fin 4} (hs : (s.lane l).state = .emitting) (hh : (s.lane l).hold = false) :
    takeSlot s l = resolveSlot s l := by
  unfold takeSlot
  dsimp only
  rw [if_pos hs, if_neg (by rw [hh]; exact nofun)]

/-- Settles O45: a byte slot. -/
theorem byteSlotComes : Obligations.ByteSlotComes := by
  unfold Obligations.ByteSlotComes
  intro l s hr a x becomes leads
  have hx : a.lane l = x := txBegin_lane s l
  have ha : a.setLane l x = a := by rw [← hx, setLane_lane]
  refine ⟨fun hst => ?_, fun hst => ?_⟩
  · show Host.Outcome.next (coreEventIf _ _ s) = _
    rw [coreEventIf, if_neg (by simpa using hst)]
  · have hbecomes : ∀ t, takeSlot a l = t → becomes t := fun t ht => by
      show Host.Outcome.next _ = _
      rw [coreEventIf_finished _ _ s (by simpa using hst) hr]
      exact congrArg (fun u => Host.Outcome.next (finished a u)) ht
    have hsA : (a.lane l).state = .emitting := by rw [hx]; exact hst
    have hslot : x.hold = false → takeSlot a l = resolveSlot (a.setLane l x) l := fun hh => by
      rw [takeSlot_free hsA (by rw [hx]; exact hh), ha]
    refine ⟨fun hh => ?held, fun hh hb => ?underrun, fun h b rest hh hheld hb => ⟨fun hn => ?within, fun c hn hc => ?last⟩⟩
    case held =>
      apply hbecomes
      rw [takeSlot_held hsA (by rw [hx]; exact hh), hx]
    case underrun =>
      intro t
      have ht : becomes t := hbecomes t (by
        rw [takeSlot_free hsA (by rw [hx]; exact hh), resolveSlot_empty (by rw [hx]; exact hb)])
      exact ⟨ht, fun hl => ht.trans (congrArg Host.Outcome.next (finished_leads_flush hl))⟩
    case within =>
      apply hbecomes
      rw [hslot hh, resolveSlot_byte hb, departByte_within hheld hb (by omega)]
      rfl
    case last =>
      intro fault u t
      have ht : becomes t := hbecomes t (by
        rw [hslot hh, resolveSlot_byte hb,
          departByte_end hheld hb hn (by rw [txBegin_cue?]; exact hc)]
        refine congrArg (fun y => endReleased (u.setLane l y) h.cue c .sent _ fault h.count) ?_
        rw [← hn]
        rfl)
      exact ⟨ht, fun hl => ht.trans (congrArg Host.Outcome.next (finished_leads_pick hl))⟩

/-- Whether a hold of a lane outlasts its limit, from the tick at which it began (R46). -/
theorem holdExpired_eq {s : State} {l : Fin 4} {t0 : Nat} (ht : (s.lane l).holdTimer = some t0) :
    holdExpired s l
      = (decide ((s.lane l).state = .emitting) && (s.lane l).hold && decide ((s.lane l).config.holdLimit ≠ 0)
          && decide ((s.lane l).config.holdLimit < elapsedSince s t0)) := by
  unfold holdExpired
  simp only [ht]

theorem holdExpired_needs {s : State} {l : Fin 4}
    (h : (s.lane l).state ≠ .emitting ∨ (s.lane l).hold = false ∨ (s.lane l).holdTimer = none) :
    holdExpired s l = false := by
  unfold holdExpired
  dsimp only
  split
  next t ht =>
    rcases h with h | h | h
    · rw [decide_eq_false h]; rfl
    · rw [h, Bool.and_false]; rfl
    · cases h.symm.trans ht
  next => rfl

/-- Settles O47: the levels of LnHOLD and a hold that outlasts its limit. -/
theorem holdLevels : Obligations.HoldLevels := by
  unfold Obligations.HoldLevels
  intro l s hr a x becomes leads off
  have hx : a.lane l = x := txBegin_lane s l
  have hon : ∀ t, holdOn a l = t → becomes (.holdAsserted l) t := fun t ht => by
    show Host.Outcome.next (if s.inReset then _ else _) = _
    rw [if_neg (by rw [hr]; exact nofun), coreEvent_finished _ s hr]
    exact congrArg (fun u => Host.Outcome.next (finished a u)) ht
  have hoff : ∀ t, holdOff a l = t → becomes (.holdDeasserted l) t := fun t ht => by
    show Host.Outcome.next (if s.inReset then _ else _) = _
    rw [if_neg (by rw [hr]; exact nofun), coreEvent_finished _ s hr]
    exact congrArg (fun u => Host.Outcome.next (finished a u)) ht
  have hoffEq : holdOff a l = if x.state = .emitting ∧ x.slotWaiting = true then resolveSlot off l else tryStart off l := by
    unfold holdOff
    dsimp only
    rw [hx]
  have hslot : x.state = .emitting → x.slotWaiting = true → holdOff a l = resolveSlot off l := fun h1 h2 => by
    rw [hoffEq, if_pos ⟨h1, h2⟩]
  refine ⟨fun hh => ?_, fun hh => ?_, fun h => ?_, fun h1 h2 h b rest hheld hb hn => ?_,
    fun h1 h2 h c b rest hheld hb hn hc => ?_, fun h1 h2 hb => ?_, fun t0 h1 h2 h3 => ⟨fun h4 h5 => ?_, fun h4 => ?_⟩,
    fun h => ?_⟩
  · apply hon
    unfold holdOn
    dsimp only
    rw [hx, if_neg (by rw [hh]; exact nofun), txBegin_time]
  · apply hon
    unfold holdOn
    dsimp only
    rw [hx, if_pos hh]
  · apply hoff
    rw [hoffEq, if_neg]
    rintro ⟨h1, h2⟩
    rcases h with h | h
    · exact h h1
    · rw [h] at h2; cases h2
  · apply hoff
    rw [hslot h1 h2, resolveSlot_byte (y := { x with hold := false, holdTimer := none }) hb,
      departByte_within (y := { x with hold := false, holdTimer := none }) hheld hb (by show x.emitted + 1 ≠ _; omega)]
    rfl
  · intro fault u t
    have ht : becomes (.holdDeasserted l) t := hoff t (by
      rw [hslot h1 h2, resolveSlot_byte (y := { x with hold := false, holdTimer := none }) hb,
        departByte_end (y := { x with hold := false, holdTimer := none }) hheld hb hn (by rw [txBegin_cue?]; exact hc)]
      refine congrArg (fun y => endReleased (u.setLane l y) h.cue c .sent _ fault h.count) ?_
      rw [← hn]
      rfl)
    exact ⟨ht, fun hl => ht.trans (congrArg Host.Outcome.next (finished_leads_pick hl))⟩
  · intro t
    have ht : becomes (.holdDeasserted l) t := hoff t (by
      rw [hslot h1 h2, resolveSlot_empty (by rw [lane_setLane_self]; exact hb)])
    exact ⟨ht, fun hl => ht.trans (congrArg Host.Outcome.next (finished_leads_flush hl))⟩
  · intro t
    have hexp : holdExpired s l = true := by
      rw [holdExpired_eq h3]
      simp only [Bool.and_eq_true, decide_eq_true_iff]
      exact ⟨⟨⟨h1, h2⟩, h4⟩, h5⟩
    have ht : becomes (.holdLimitExpiry l) t := by
      show Host.Outcome.next (coreEventIf _ _ s) = _
      rw [coreEventIf_finished _ _ s hexp hr]
    exact ⟨ht, fun hl => ht.trans (congrArg Host.Outcome.next (finished_leads_flush hl))⟩
  · show Host.Outcome.next (coreEventIf _ _ s) = _
    rw [coreEventIf, if_neg]
    rw [holdExpired_eq h3]
    rcases h4 with h4 | h4
    · rw [decide_eq_false (not_not.mpr h4), Bool.and_false]
      exact nofun
    · rw [decide_eq_false (Nat.not_lt.mpr h4), Bool.and_false]
      exact nofun
  · show Host.Outcome.next (coreEventIf _ _ s) = _
    rw [coreEventIf, if_neg (by rw [holdExpired_needs h]; exact nofun)]

/-! ### The end of a flush -/

theorem flushOver_iff (s : State) (l : Fin 4) :
    flushOver s l = true ↔ (s.lane l).state = .flushing ∧ outstanding s (.lane l) = false := by
  rw [flushOver, Bool.and_eq_true, decide_eq_true_iff, Bool.not_eq_true']

theorem flushOver_txBegin (s : State) (l : Fin 4) : flushOver (txBegin s) l = flushOver s l := by
  simp only [flushOver, outstanding, inFlight, txBegin_lane, txBegin_mc]

theorem reportCut_none {s : State} {x : Lane} (h : x.held = none) : reportCut s x = s := by
  unfold reportCut
  rw [h]

/-- A cut that is reported, with the result of its cause (R48, R50). -/
theorem reportCut_eq {s : State} {x : Lane} {h : HeldCue} {c : Cue} {cause : CutCause} {r : OccResult}
    (hh : x.held = some h) (hc : s.cue? h.cue = some c) (hcause : x.cutCause = some cause)
    (hr : (cause = .cancel ∧ r = .cutCancel) ∨ (cause = .stop ∧ r = .cutStop) ∨ (cause = .hold ∧ r = .cutHold)
      ∨ (cause = .underrun ∧ r = .cutUnderrun)) :
    reportCut s x = endReleased s h.cue c r x.lateKept false x.emitted := by
  have hresult : cause.result = some r := by
    rcases hr with ⟨rfl, rfl⟩ | ⟨rfl, rfl⟩ | ⟨rfl, rfl⟩ | ⟨rfl, rfl⟩ <;> rfl
  unfold reportCut
  simp only [hh, hc, hcause, Option.bind_some, hresult]

/-- Settles O48: the end of a flush. -/
theorem flushEnds : Obligations.FlushEnds := by
  unfold Obligations.FlushEnds
  intro l s hr a becomes x t
  have hx : a.lane l = x := txBegin_lane s l
  refine ⟨fun hst hout => ?flushed, fun h => ?rests⟩
  case flushed =>
    have hover : flushOver s l = true := (flushOver_iff s l).mpr ⟨hst, hout⟩
    have hend : endFlush a l = reportCut t x := by
      rw [endFlush, if_pos ((flushOver_txBegin s l).trans hover), hx]
      rfl
    have hbecomes : ∀ u, reportCut t x = u → becomes u := fun u hu => by
      have hexec : exec (.flushEnd l) s = .next (finished a u) := by
        show Host.Outcome.next (coreEventIf _ _ s) = _
        rw [coreEventIf_finished _ _ s hover hr]
        exact congrArg (fun v => Host.Outcome.next (finished a v)) (hend.trans hu)
      exact ⟨hend.trans hu, hexec, fun hl => hexec.trans (congrArg Host.Outcome.next (finished_leads_pick hl))⟩
    refine ⟨fun hn => hbecomes t ?_, fun h c cause r hh hc hcause hresult => hbecomes _ ?_⟩
    · exact reportCut_none hn
    · exact reportCut_eq hh ((txBegin_cue? s h.cue).trans hc) hcause hresult
  case rests =>
    have hover : ¬ flushOver s l = true := fun ho => by
      obtain ⟨h1, h2⟩ := (flushOver_iff s l).mp ho
      rcases h with h | h
      · exact h h1
      · rw [h2] at h; cases h
    refine ⟨?_, ?_⟩
    · rw [endFlush, if_neg (by rw [flushOver_txBegin]; exact hover)]
    · show Host.Outcome.next (coreEventIf _ _ s) = _
      rw [coreEventIf, if_neg hover]

end Sys2Proof.Machine
end

section
/-!
PROOFS. The ends of the requests that occupy the interpreter (R21, R24, R81, R85, R88, R90), with the pending SYNC
behind them (R152), and the chunk of a PUT_DATA (R81): O49.
-/

namespace Sys2Proof.Machine

/-! ### What a test of the executing request does -/

section
variable {s : State} {seq code : Byte}

theorem resume_of_putData {p o : Nat} {d : List Byte}
    (he : s.executing = some { seq := seq, code := code, wait := .putData p o d }) :
    resume s = if slotFree s then endExecution (takeChunk s p o d) seq code .ok (u16 (o + d.length)) else s := by
  unfold resume
  simp only [he]

theorem resume_of_seal {p : Nat} {want : Option (BitVec 32)}
    (he : s.executing = some { seq := seq, code := code, wait := .seal p want }) :
    resume s = if holdsChunk s p then s else finishSeal s seq code p want := by
  unfold resume
  simp only [he]

theorem resume_of_delete {p : Nat} (he : s.executing = some { seq := seq, code := code, wait := .delete p }) :
    resume s
      = if holdsChunk s p then s else endExecution (s.freePayload p) seq code .ok [payloadStateCode none] := by
  unfold resume
  simp only [he]

theorem resume_of_readBack {bl : List Nat} {o n : Nat} {got : List Byte}
    (he : s.executing = some { seq := seq, code := code, wait := .readBack bl o n got }) :
    resume s
      = if n ≤ got.length then endExecution s seq code .ok (u16 n ++ got) else placeReadBack s bl o n got := by
  unfold resume
  simp only [he]

theorem resume_of_counted {id used skipped : Nat}
    (he : s.executing = some { seq := seq, code := code, wait := .cancel id (some (used, skipped)) }) :
    resume s = endExecution s seq code .ok (u16 used ++ u16 skipped) := by
  unfold resume
  simp only [he]

theorem resume_of_uncounted {id : Nat}
    (he : s.executing = some { seq := seq, code := code, wait := .cancel id none }) : resume s = s := by
  unfold resume
  simp only [he]

theorem resume_of_stopAll {held stopped : Nat}
    (he : s.executing = some { seq := seq, code := code, wait := .stopAll held stopped }) :
    resume s = if lanesAtRest s then endExecution s seq code .ok (u8 held ++ u8 stopped) else s := by
  unfold resume
  simp only [he]

end

theorem resume_of_none {s : State} (he : s.executing = none) : resume s = s := by
  unfold resume
  simp only [he]

/-- The request that a block list reaches (R37, R82, R90). -/
theorem requestAt_of {bl : List Nat} {pos b : Nat} {left : Nat} (hb : bl[pos / 2048]? = some b) :
    requestAt bl pos left = some { block := b, pos := pos % 2048, size := min 256 (min left (2048 - pos % 2048)) } := by
  unfold requestAt
  rw [show bl[pos / Config.blockBytes]? = some b from hb]
  rfl

/-- A payload that is no longer FILLING cannot be sealed (R84). -/
theorem finishSeal_state {s : State} {p : Nat} {x : Payload} {want : Option (BitVec 32)} (seq code : Byte)
    (hp : s.payload? p = some x) (hx : x.state ≠ .filling) :
    finishSeal s seq code p want = endExecution s seq code .wrongState [payloadStateCode (some x.state)] := by
  unfold finishSeal
  simp only [hp]
  rw [if_pos hx]

theorem finishSeal_free {s : State} {p : Nat} {want : Option (BitVec 32)} (seq code : Byte)
    (hp : s.payload? p = none) :
    finishSeal s seq code p want = endExecution s seq code .wrongState [payloadStateCode none] := by
  unfold finishSeal
  simp only [hp]

/-! ### Events with a condition -/

section
variable {s t : State} {i : Instr} {holds : State → Bool} {f : State → State}

/-- An event whose condition holds. -/
theorem exec_coreEventIf (hexec : exec i s = .next (coreEventIf holds f s)) (hr : s.inReset = false)
    (hh : holds s = true) (ht : f (txBegin s) = t) : exec i s = .next (finished (txBegin s) t) := by
  rw [hexec, coreEventIf_finished _ _ s hh hr, ht]

/-- An event whose condition does not hold. -/
theorem exec_coreEventIf_rests (hexec : exec i s = .next (coreEventIf holds f s)) (hh : holds s = false) :
    exec i s = .next s := by
  rw [hexec, coreEventIf, if_neg (by rw [hh]; exact nofun)]

/-- A wait that is over ends in its event. -/
theorem exec_resume_ends (hexec : exec i s = .next (coreEventIf holds resume s)) (hr : s.inReset = false)
    (hh : holds s = true) (ht : resume (txBegin s) = t) :
    resume (txBegin s) = t ∧ exec i s = .next (finished (txBegin s) t) :=
  ⟨ht, exec_coreEventIf hexec hr hh ht⟩

end

/-- Settles O49: the ends of the waits, and the chunk of a PUT_DATA. -/
theorem waitsEnd : Obligations.WaitsEnd := by
  unfold Obligations.WaitsEnd
  refine ⟨fun seq code s hr => ?waits, fun s id off data => ⟨fun p hp => takeChunk_eq s hp off data, fun hp => ?gone⟩⟩
  case gone =>
    unfold takeChunk
    rw [hp]
  case waits =>
    intro a waits reply ends waitsOn
    have hsync : a.link.pendingSync = s.link.pendingSync := txBegin_pendingSync s
    have hreply : ∀ u st res, u.link = a.link → endExecution u seq code st res = reply u st res := fun u st res hu => by
      unfold endExecution syncDeferred
      rw [show (queueReply u seq code st res).link.pendingSync = s.link.pendingSync by
        rw [← hsync, ← hu]; rfl]
      show _ = (match s.link.pendingSync with
        | none => _
        | some q => _)
      cases s.link.pendingSync <;> rfl
    have hwait : ∀ {w}, waits w → a.executing = some { seq := seq, code := code, wait := w } := fun hw =>
      (txBegin_executing s).trans hw
    refine ⟨fun id used skipped hw => ?counted, fun id hw => ?uncounted, fun held stopped hw => ?stops,
      fun id off data hw => ?put, fun id want hw => ?sealing, fun id hw => ?del, fun blocks off n got hw => ?read,
      fun hn => resume_of_none ((txBegin_executing s).trans hn)⟩
    case counted =>
      exact exec_resume_ends rfl hr (by rw [show s.executing = _ from hw])
        ((resume_of_counted (hwait hw)).trans (hreply a _ _ rfl))
    case uncounted =>
      exact ⟨resume_of_uncounted (hwait hw), exec_coreEventIf_rests rfl (by rw [show s.executing = _ from hw])⟩
    case stops =>
      have hrest : lanesAtRest a = lanesAtRest s := by rw [lanesAtRest, txBegin_lanes]; rfl
      have hres := resume_of_stopAll (hwait hw)
      rw [hrest] at hres
      refine ⟨fun h => ?_, fun h => ?_⟩
      · rw [if_pos h] at hres
        exact exec_resume_ends rfl hr (by rw [show s.executing = _ from hw]; exact h)
          (hres.trans (hreply a _ _ rfl))
      · rw [h] at hres
        exact ⟨hres, exec_coreEventIf_rests rfl (by rw [show s.executing = _ from hw]; exact h)⟩
    case put =>
      have hslot : slotFree a = slotFree s := by rw [slotFree, txBegin_store]; rfl
      have hres := resume_of_putData (hwait hw)
      rw [hslot] at hres
      refine ⟨fun h => ?_, fun h => ?_⟩
      · have hf : slotFree s = true := decide_eq_true h
        rw [if_pos hf] at hres
        exact exec_resume_ends rfl hr (by rw [show s.executing = _ from hw]; exact hf)
          (hres.trans (hreply _ _ _ (CoreKept.takeChunk a id off data).link))
      · have hf : slotFree s = false := decide_eq_false (Nat.not_lt.mpr h)
        rw [hf] at hres
        exact ⟨hres, exec_coreEventIf_rests rfl (by rw [show s.executing = _ from hw]; exact hf)⟩
    case sealing =>
      have hchunk : holdsChunk a id = holdsChunk s id := by rw [holdsChunk, txBegin_store]; rfl
      have hres := resume_of_seal (hwait hw)
      rw [hchunk] at hres
      refine ⟨fun h => ?_, fun h => ?_⟩
      · rw [h] at hres
        have hend : ∀ t, finishSeal a seq code id want = t → ends .sealFinish t := fun t ht =>
          exec_resume_ends rfl hr (by rw [show s.executing = _ from hw]; dsimp only; rw [h]; rfl)
            (hres.trans ht)
        refine ⟨fun p hp hf => ⟨fun hwant => hend _ ?_, fun k hk hne => hend _ ?_⟩, fun p hp hf => hend _ ?_,
          fun hp => hend _ ?_⟩
        · rw [finishSeal_sealed seq code (by rw [txBegin_payload?]; exact hp) hf hwant]
          exact hreply _ _ _ rfl
        · rw [hk, finishSeal_mismatch seq code (by rw [txBegin_payload?]; exact hp) hf hne]
          exact hreply _ _ _ (CoreKept.freePayload a id).link
        · rw [finishSeal_state seq code (by rw [txBegin_payload?]; exact hp) hf]
          exact hreply _ _ _ rfl
        · rw [finishSeal_free seq code (by rw [txBegin_payload?]; exact hp)]
          exact hreply _ _ _ rfl
      · rw [if_pos h] at hres
        exact ⟨hres, exec_coreEventIf_rests rfl (by rw [show s.executing = _ from hw]; dsimp only; rw [h]; rfl)⟩
    case del =>
      have hchunk : holdsChunk a id = holdsChunk s id := by rw [holdsChunk, txBegin_store]; rfl
      have hres := resume_of_delete (hwait hw)
      rw [hchunk] at hres
      refine ⟨fun h => ?_, fun h => ?_⟩
      · rw [h] at hres
        exact exec_resume_ends rfl hr (by rw [show s.executing = _ from hw]; dsimp only; rw [h]; rfl)
          (hres.trans (hreply _ _ _ (CoreKept.freePayload a id).link))
      · rw [if_pos h] at hres
        exact ⟨hres, exec_coreEventIf_rests rfl (by rw [show s.executing = _ from hw]; dsimp only; rw [h]; rfl)⟩
    case read =>
      have hres := resume_of_readBack (hwait hw)
      refine ⟨fun h => ?_, fun h => ⟨?_, fun hout => ?_, fun hout b hb => ?_⟩⟩
      · rw [if_pos h] at hres
        exact exec_resume_ends rfl hr
          (by rw [show s.executing = _ from hw]; exact decide_eq_true h) (hres.trans (hreply a _ _ rfl))
      · exact exec_coreEventIf_rests rfl
          (by rw [show s.executing = _ from hw]; exact decide_eq_false (Nat.not_le.mpr h))
      all_goals
        rw [hres, if_neg (Nat.not_le.mpr h), placeReadBack,
          show outstanding a .readBack = outstanding s .readBack by simp only [outstanding, inFlight, a, txBegin_mc], hout]
      · rfl
      · rw [if_neg Bool.false_ne_true, requestAt_of hb]
        rfl

end Sys2Proof.Machine
end

section
/-!
PROOFS. The arbiter (R105, R106): the class order and the order within a class (O50).
-/

namespace Sys2Proof.Machine

/-! ### The least of a list of lanes -/

theorem leastBy_mem {key : Fin 4 → Nat} {xs : List (Fin 4)} {y : Fin 4} (h : leastBy key xs = some y) : y ∈ xs := by
  induction xs generalizing y with
  | nil => cases h
  | cons x t ih =>
    unfold leastBy at h
    split at h
    next =>
      cases h
      exact List.mem_cons_self
    next z hz =>
      split at h <;> cases h
      · exact List.mem_cons_of_mem _ (ih hz)
      · exact List.mem_cons_self

/-- The least of a rising list: its key is least, and the lane number decides between equal keys. -/
theorem leastBy_eq {key : Fin 4 → Nat} {xs : List (Fin 4)} {l : Fin 4} (hx : xs.Pairwise (· < ·)) (hl : l ∈ xs)
    (hm : ∀ m ∈ xs, key l < key m ∨ (key l = key m ∧ l.val ≤ m.val)) : leastBy key xs = some l := by
  induction xs with
  | nil => cases hl
  | cons x t ih =>
    obtain ⟨hbefore, ht⟩ := List.pairwise_cons.mp hx
    unfold leastBy
    rcases List.mem_cons.mp hl with rfl | hlt
    · split
      next => rfl
      next y hy =>
        rw [if_neg]
        rcases hm y (List.mem_cons_of_mem _ (leastBy_mem hy)) with h | ⟨h, -⟩ <;> omega
    · rw [ih ht hlt (fun m h => hm m (List.mem_cons_of_mem _ h))]
      dsimp only
      rw [if_pos]
      rcases hm x List.mem_cons_self with h | ⟨-, h⟩
      · exact h
      · exact absurd h (Nat.not_le_of_lt (hbefore l hlt))

theorem mem_waitingLanes {s : State} {st : LaneState} {l : Fin 4} :
    l ∈ waitingLanes s st ↔ (s.mc.laneReq.get l).isSome = true ∧ (s.lane l).state = st := by
  rw [waitingLanes, List.mem_filter, Bool.and_eq_true, decide_eq_true_iff]
  exact and_iff_right (by match l with | 0 | 1 | 2 | 3 => simp [fours])

theorem waitingLanes_eq_nil {s : State} {st : LaneState}
    (h : ∀ l, ¬ ((s.mc.laneReq.get l).isSome = true ∧ (s.lane l).state = st)) : waitingLanes s st = [] :=
  List.eq_nil_iff_forall_not_mem.mpr fun l hl => h l (mem_waitingLanes.mp hl)

/-- The lane that a class of reads grants (R106). -/
theorem leastBy_waitingLanes {s : State} {st : LaneState} {key : Fin 4 → Nat} {l : Fin 4}
    (hl : (s.mc.laneReq.get l).isSome = true ∧ (s.lane l).state = st)
    (hm : ∀ m, (s.mc.laneReq.get m).isSome = true ∧ (s.lane m).state = st →
      key l < key m ∨ (key l = key m ∧ l.val ≤ m.val)) :
    leastBy key (waitingLanes s st) = some l :=
  leastBy_eq (List.Pairwise.filter _ (by decide : fours.Pairwise (· < ·))) (mem_waitingLanes.mpr hl)
    fun m h => hm m (mem_waitingLanes.mp h)

/-! ### The arbiter's test -/

theorem anyEmitting_iff (s : State) : anyEmitting s = true ↔ ∃ l, (s.lane l).state = .emitting := by
  simp only [anyEmitting, List.any_eq_true, decide_eq_true_iff]
  constructor
  · rintro ⟨x, hx, hst⟩
    simp only [Quad.toList, List.mem_cons, List.not_mem_nil, or_false] at hx
    rcases hx with rfl | rfl | rfl | rfl
    exacts [⟨0, hst⟩, ⟨1, hst⟩, ⟨2, hst⟩, ⟨3, hst⟩]
  · rintro ⟨l, hst⟩
    exact ⟨s.lane l, by match l with | 0 | 1 | 2 | 3 => simp [Quad.toList, State.lane, Quad.get], hst⟩

theorem debtLimit_txBegin (s : State) : debtLimit (txBegin s) = debtLimit s := by
  unfold debtLimit
  rw [txBegin_mc]

theorem chooseGrant_txBegin (s : State) : chooseGrant (txBegin s) = chooseGrant s := by
  have hdue : heldDue (txBegin s) = heldDue s := funext fun l => by
    unfold heldDue
    rw [txBegin_lane]
    simp only [txBegin_cue?]
  simp only [chooseGrant, refreshForced, refreshPostponable, anyEmitting, debtLimit_txBegin, waitingLanes, txBegin_lane,
    txBegin_mc, txBegin_refresh, txBegin_lanes, hdue]
  rfl

section
variable {s : State}

theorem arbitrate_grants {g : Grant} (hp : s.mc.port = none) (hd : s.device = .ready) (hg : chooseGrant s = some g) :
    arbitrate s = carryOutGrant s g := by
  unfold arbitrate
  simp only [hp, hd, hg]

theorem arbitrate_idle (hp : s.mc.port = none) (hd : s.device = .ready) (hg : chooseGrant s = none) :
    arbitrate s = s := by
  unfold arbitrate
  simp only [hp, hd, hg]

theorem exec_arbiterGrant (hr : s.inReset = false) (hp : s.mc.port = none) (hd : s.device = .ready) :
    exec .arbiterGrant s = .next (ended (arbitrate (txBegin s))) := by
  show Host.Outcome.next (eventIf _ arbitrate s) = _
  rw [eventIf_ended _ _ s (by rw [hp, hd]; rfl) hr]

end

/-- Settles O50: the class order of the arbiter. -/
theorem arbiterOrder : Obligations.ArbiterOrder := by
  unfold Obligations.ArbiterOrder
  refine ⟨fun s hr hp hd => ?ready, fun s h => ?rests⟩
  case rests =>
    show Host.Outcome.next (eventIf _ arbitrate s) = _
    rw [eventIf, if_neg]
    rw [Bool.and_eq_true, decide_eq_true_iff, Option.isNone_iff_eq_none]
    rintro ⟨h1, h2⟩
    exact h.elim (fun h => h h1) (fun h => h h2)
  case ready =>
    intro a forced waiting none' first granted refreshed noLane
    have hpA : a.mc.port = none := by rw [txBegin_mc]; exact hp
    have hdA : a.device = .ready := by rw [txBegin_device]; exact hd
    have hexec : ∀ t, arbitrate a = t → arbitrate a = t ∧ exec .arbiterGrant s = .next (ended t) := fun t ht =>
      ⟨ht, by rw [exec_arbiterGrant hr hp hd, ht]⟩
    have hgrant : ∀ r q, chooseGrant s = some (.access r) → requestOf s r = some q → granted r q := fun r q hg hq => by
      apply hexec
      rw [arbitrate_grants hpA hdA ((chooseGrant_txBegin s).trans hg), carryOutGrant,
        show requestOf a r = some q by rw [← hq]; cases r <;> simp only [requestOf, a, txBegin_mc]]
    have hrefresh : chooseGrant s = some .refresh → refreshed := fun hg =>
      hexec _ (arbitrate_grants hpA hdA ((chooseGrant_txBegin s).trans hg))
    have hforced : refreshForced s = true ↔ forced := by
      rw [refreshForced, Bool.and_eq_true, decide_eq_true_iff, decide_eq_true_iff]
    refine ⟨fun h => hrefresh (by rw [chooseGrant, if_pos (hforced.mpr h)]), fun h => ?unforced⟩
    case unforced =>
      have hf : refreshForced s = false := Bool.not_eq_true _ ▸ fun hx => h (hforced.mp hx)
      have hnil : ∀ {st key}, none' st → leastBy key (waitingLanes s st) = none := fun hn => by
        rw [waitingLanes_eq_nil hn]; rfl
      refine ⟨fun l q hl hq => hgrant _ q ?_ hq, fun l q he hl hq => hgrant _ q ?_ hq,
        fun l q he hs hl hq => hgrant _ q ?_ hq, fun q ⟨he, hs, hpr⟩ hq => hgrant _ q ?_ hq,
        fun q ⟨he, hs, hpr⟩ hrd hq => hgrant _ q ?_ hq,
        fun ⟨he, hs, hpr⟩ hrd hfl hw h0 hlt hem => hrefresh ?_, fun ⟨he, hs, hpr⟩ hrd hfl hcond => hexec a ?_⟩
      · simp only [chooseGrant, hf, leastBy_waitingLanes (key := fun m => (s.lane m).buffer.length) hl.1 hl.2,
          Bool.false_eq_true, if_false]
      · simp only [chooseGrant, hf, hnil he, leastBy_waitingLanes hl.1 hl.2, Bool.false_eq_true, if_false]
      · simp only [chooseGrant, hf, hnil he, hnil hs, leastBy_waitingLanes hl.1 hl.2, Bool.false_eq_true, if_false]
      · simp only [chooseGrant, hf, hnil he, hnil hs, hnil hpr, hq, Option.isSome_some, Bool.false_eq_true, if_false,
          if_true]
      · simp only [chooseGrant, hf, hnil he, hnil hs, hnil hpr, hrd, hq, Option.isSome_some, Option.isSome_none,
          Bool.false_eq_true, if_false, if_true]
      all_goals
        have hrest : chooseGrant s = if refreshPostponable s then some .refresh else none := by
          simp only [chooseGrant, hf, hnil he, hnil hs, hnil hpr, hrd, hfl, Option.isSome_none, Bool.false_eq_true,
            if_false]
      · rw [hrest, if_pos]
        have hno : anyEmitting s = false := Bool.not_eq_true _ ▸ fun hx => by
          obtain ⟨l, hl⟩ := (anyEmitting_iff s).mp hx
          exact hem l hl
        rw [refreshPostponable, decide_eq_true hw, decide_eq_true h0, decide_eq_true hlt, hno]
        rfl
      · refine arbitrate_idle hpA hdA ((chooseGrant_txBegin s).trans (hrest.trans (if_neg ?_)))
        simp only [refreshPostponable, Bool.and_eq_true, decide_eq_true_iff, Bool.not_eq_true']
        rintro ⟨⟨⟨hw, h0⟩, -⟩, hno⟩
        rcases hcond with h | h | h
        · exact h hw
        · omega
        · rw [(anyEmitting_iff s).mpr h] at hno
          cases hno

end Sys2Proof.Machine
end

section
/-!
PROOFS. The operations of the port (R98 to R102, R108, R111, R112, R119 to R125): how an operation begins, its row phase
and closing precharge (O51), the refreshes (O53) and the bring-up (O54).
-/

namespace Sys2Proof.Machine

/-! ### Times and banks -/

theorem columnTimeOf_eq {s : State} {p : Profile} (hp : s.mc.profile = some p) (t : Transaction) :
    let words := ((t.pos + t.size - 1) / (2 * p.burst) - t.pos / (2 * p.burst) + 1) * p.burst
    columnTimeOf s t = if t.requester = .fill then words + 2 else p.latency + words := by
  intro words
  unfold columnTimeOf
  rw [hp]
  by_cases h : t.requester = .fill
  · rw [if_pos h]
    dsimp only
    rw [columnTime, decide_eq_true h]
    rfl
  · rw [if_neg h]
    dsimp only
    rw [columnTime, decide_eq_false h]
    rfl

theorem wholeInterval_eq {s : State} {p : Profile} (hp : s.mc.profile = some p) :
    wholeInterval s = (p.interval + 9) / 10 := by
  unfold wholeInterval
  rw [hp]

theorem debtLimit_eq {s : State} {p : Profile} (hp : s.mc.profile = some p) : debtLimit s = p.debtLimit := by
  unfold debtLimit
  rw [hp]

theorem banksClosed_iff (q : Quad (Option Nat)) : q.toList.all Option.isNone = true ↔ ∀ b, q.get b = none := by
  simp only [Quad.toList, List.all_cons, List.all_nil, Bool.and_true, Bool.and_eq_true, Option.isNone_iff_eq_none]
  constructor
  · rintro ⟨h0, h1, h2, h3⟩ b
    match b with
    | 0 => exact h0
    | 1 => exact h1
    | 2 => exact h2
    | 3 => exact h3
  · exact fun h => ⟨h 0, h 1, h 2, h 3⟩

/-! ### Transactions -/

/-- A transaction on the port is in one phase. -/
theorem portPhase_of {s : State} {t : Transaction} (h : s.mc.port = some (.transaction t)) (p : Phase) :
    portPhase p s = decide (t.phase = p) := by
  unfold portPhase
  rw [h]

theorem rowCommandDone_precharge {s : State} {t : Transaction} (h : s.mc.port = some (.transaction t))
    (hp : t.phase = .row .precharge) :
    rowCommandDone s = afterRowCommand (s.setBank t.bank none) t { t with phase := .row .activate } 3 := by
  unfold rowCommandDone
  rw [h]
  dsimp only
  split
  next => rfl
  next h1 => rw [hp] at h1; cases h1
  next h1 _ => exact absurd hp h1

theorem rowCommandDone_activate {s : State} {t : Transaction} (h : s.mc.port = some (.transaction t))
    (hp : t.phase = .row .activate) :
    rowCommandDone s
      = afterRowCommand (s.setBank t.bank (some t.row)) t { t with phase := .column } (columnTimeOf s t) := by
  unfold rowCommandDone
  rw [h]
  dsimp only
  split
  next h1 => rw [hp] at h1; cases h1
  next => rfl
  next _ h1 => exact absurd hp h1

theorem closingDone_closing {s : State} {t : Transaction} (h : s.mc.port = some (.transaction t))
    (hp : t.phase = .closing) : closingDone s = (s.setBank t.bank none).freePort := by
  unfold closingDone
  rw [h]
  dsimp only
  rw [if_pos hp]

/-- Settles O51: how an operation begins, the row phase, and the closing precharge. -/
theorem operationsBeginAndOpenRows : Obligations.OperationsBeginAndOpenRows := by
  unfold Obligations.OperationsBeginAndOpenRows
  refine ⟨fun s r q p hp => ?begins, fun t p s hr ht hp => ?ends⟩
  case begins =>
    intro bank t words on
    refine ⟨rfl, fun h => ?_, fun row h hne => ?_, fun h => ?_, fun h => ?_, fun ⟨b, h⟩ => ?_⟩
    · unfold beginTransaction
      dsimp only
      rw [h]
      dsimp only
      rw [if_pos (show q.block / 4 = rowOf q.block from rfl), columnTimeOf_eq hp]
      rfl
    · unfold beginTransaction
      dsimp only
      rw [h]
      dsimp only
      rw [if_neg (show ¬ row = rowOf q.block from hne)]
      rfl
    · unfold beginTransaction
      dsimp only
      rw [h]
      rfl
    · unfold beginRefresh
      dsimp only
      rw [if_pos ((banksClosed_iff _).mpr h)]
      rfl
    · unfold beginRefresh
      dsimp only
      rw [if_neg fun hx => h ((banksClosed_iff _).mp hx b)]
      rfl
  case ends =>
    intro a words set becomes
    have htA : a.mc.port = some (.transaction t) := by rw [txBegin_mc]; exact ht
    have hpA : a.mc.profile = some p := by rw [txBegin_mc]; exact hp
    refine ⟨fun h => ?_, fun h => ?_, fun h => ?_, fun h => ?_, fun h => ?_, fun h => ?_⟩
    · refine exec_coreEventIf rfl hr (by rw [inRowPhase, portPhase_of ht, h]; rfl) ?_
      rw [rowCommandDone_precharge htA h, afterRowCommand]
      split <;> rfl
    · refine exec_coreEventIf rfl hr (by rw [inRowPhase, portPhase_of ht, portPhase_of ht, h]; rfl) ?_
      rw [rowCommandDone_activate htA h, afterRowCommand, columnTimeOf_eq hpA]
      split <;> rfl
    · refine exec_coreEventIf rfl hr (by rw [portPhase_of ht]; exact decide_eq_true h) ?_
      rw [closingDone_closing htA h]
      rfl
    · refine exec_coreEventIf_rests rfl ?_
      rw [inRowPhase, portPhase_of ht, portPhase_of ht]
      rcases h with h | h <;> rw [h] <;> rfl
    · exact exec_coreEventIf_rests rfl (by rw [portPhase_of ht]; exact decide_eq_false h)
    · exact exec_coreEventIf_rests rfl (by rw [portPhase_of ht]; exact decide_eq_false h)

/-! ### Refreshes -/

/-- A debt that is left asks for a refresh in READY (R120). -/
theorem placeRefresh_eq {s : State} (hd : s.device = .ready) :
    placeRefresh s
      = { s with
          refresh :=
            { s.refresh with
              request := if 0 < s.refresh.debt ∧ s.refresh.request = .absent then .waiting else s.refresh.request } } := by
  unfold placeRefresh
  by_cases h : 0 < s.refresh.debt ∧ s.refresh.request = .absent
  · rw [if_pos ⟨h.1, h.2, hd⟩, if_pos h]
  · rw [if_neg fun hx => h ⟨hx.1, hx.2.1⟩, if_neg h]

theorem timerRuns_iff (s : State) : timerRuns s = true ↔ ∃ n, s.refresh.timer = .running n := by
  unfold timerRuns
  split
  next n h => exact ⟨fun _ => ⟨n, h⟩, fun _ => rfl⟩
  next h => exact ⟨nofun, fun ⟨n, hn⟩ => (h n hn).elim⟩

theorem repayRefresh_overtaken {s : State} (h : s.refresh.request ≠ .inFlight) : repayRefresh s = s := if_neg h

/-- The scheduler's own refresh completes in READY (R123). -/
theorem repayRefresh_eq {s : State} {p : Profile} (hd : s.device = .ready) (hp : s.mc.profile = some p)
    (h : s.refresh.request = .inFlight) :
    repayRefresh s
      = { s with
          refresh :=
            { debt := s.refresh.debt - 1,
              timer := if s.refresh.timer = .paused then .running ((p.interval + 9) / 10) else s.refresh.timer,
              request := if 1 < s.refresh.debt then .waiting else .absent } } := by
  have hiff : 0 < s.refresh.debt - 1 ↔ 1 < s.refresh.debt := by omega
  rw [repayRefresh, if_pos h]
  dsimp only
  rw [placeRefresh_eq (by exact hd), wholeInterval_eq hp]
  simp only [hiff, and_true]

theorem refreshDone_eq {s : State} (h : s.mc.port = some (.refresh .command)) :
    refreshDone s = repayRefresh s.freePort := by
  unfold refreshDone
  rw [h]

theorem refreshPrecharged_eq {s : State} (h : s.mc.port = some (.refresh .precharge)) :
    refreshPrecharged s = s.closeBanks.occupyPort (.refresh .command) 7 := by
  unfold refreshPrecharged
  rw [h]
  rfl

/-- Settles O53: refresh debt and the refreshes. -/
theorem refreshRuns : Obligations.RefreshRuns := by
  unfold Obligations.RefreshRuns
  refine ⟨fun p s hr hd hp => ?ready, fun s hr => ?steps⟩
  case ready =>
    intro a whole becomes
    have hpA : a.mc.profile = some p := by rw [txBegin_mc]; exact hp
    have hrefresh : a.refresh = s.refresh := txBegin_refresh s
    refine ⟨fun n hn hlt => ?_, fun hport hreq => ?_⟩
    · refine exec_coreEventIf rfl hr ((timerRuns_iff s).mpr ⟨n, hn⟩) ?_
      have hruns : timerRuns a = true := (timerRuns_iff a).mpr ⟨n, by rw [hrefresh]; exact hn⟩
      unfold intervalExpires
      dsimp only
      rw [if_pos ⟨hruns, by rw [debtLimit_eq hpA, hrefresh]; exact hlt⟩, debtLimit_eq hpA, wholeInterval_eq hpA,
        placeRefresh_eq (by rw [← hd]; exact txBegin_device s)]
      dsimp only
      rw [hrefresh]
      simp only [Nat.zero_lt_succ, true_and]
      rfl
    · refine exec_coreEventIf rfl hr (decide_eq_true hport) ?_
      have hreqA : a.freePort.refresh.request = .inFlight := (congrArg Refresh.request hrefresh).trans hreq
      rw [refreshDone_eq (by rw [txBegin_mc]; exact hport),
        repayRefresh_eq (s := a.freePort) (by rw [← hd]; exact txBegin_device s) hpA hreqA]
      exact congrArg (fun r : Refresh =>
        { a.freePort with
          refresh :=
            { debt := r.debt - 1, timer := if r.timer = RefreshTimer.paused then RefreshTimer.running whole else r.timer,
              request := if 1 < r.debt then .waiting else .absent } }) hrefresh
  case steps =>
    intro a becomes
    refine ⟨fun h => ?_, fun h hreq => ?_, fun h => ?_, fun h => ?_, fun h => ?_⟩
    · refine exec_coreEventIf rfl hr (decide_eq_true h) ?_
      rw [refreshPrecharged_eq (by rw [txBegin_mc]; exact h)]
      rfl
    · refine exec_coreEventIf rfl hr (decide_eq_true h) ?_
      rw [refreshDone_eq (by rw [txBegin_mc]; exact h),
        repayRefresh_overtaken (s := a.freePort)
          (show a.refresh.request ≠ _ by rw [txBegin_refresh]; exact hreq)]
      rfl
    · refine exec_coreEventIf_rests rfl (Bool.not_eq_true _ ▸ fun hx => ?_)
      obtain ⟨n, hn⟩ := (timerRuns_iff s).mp hx
      exact h n hn
    · exact exec_coreEventIf_rests rfl (decide_eq_false h)
    · exact exec_coreEventIf_rests rfl (decide_eq_false h)

/-! ### The bring-up -/

section
variable {s : State}

theorem waitOver_eq {b : BringUp} (hb : s.mc.bringUp = some b) :
    waitOver s = (decide (b.step = .wait) && elapsedReached s b.waitEnd) := by
  unfold waitOver
  rw [hb]

theorem waitOver_none (hb : s.mc.bringUp = none) : waitOver s = false := by
  unfold waitOver
  rw [hb]

theorem waitEnds_eq {b : BringUp} (hb : s.mc.bringUp = some b) (hw : waitOver s = true) :
    waitEnds s = setStep s b .precharge := by
  unfold waitEnds
  rw [hb]
  dsimp only
  rw [if_pos hw]

theorem bringUpPrecharged_goesOn {b : BringUp} (hport : s.mc.port = some (.bringUp .precharge false))
    (hb : s.mc.bringUp = some b) : bringUpPrecharged s = setStep s.closeBanks.freePort b .refresh := by
  unfold bringUpPrecharged
  rw [hport]
  show (match s.mc.bringUp with
    | some b => if false = true then _ else setStep s.closeBanks.freePort b .refresh
    | none => _) = _
  rw [hb]
  rfl

theorem bringUpPrecharged_abandoned (hport : s.mc.port = some (.bringUp .precharge true)) :
    bringUpPrecharged s = s.closeBanks.freePort := by
  unfold bringUpPrecharged
  rw [hport]
  dsimp only
  split <;> rfl

theorem bringUpRefreshed_goesOn {b : BringUp} {p : Profile} (hport : s.mc.port = some (.bringUp .refresh false))
    (hb : s.mc.bringUp = some b) (hp : s.mc.profile = some p) :
    bringUpRefreshed s
      = setStep s.freePort { b with refreshes := b.refreshes + 1 }
          (if p.initRefreshes ≤ b.refreshes + 1 then .modeSet else .refresh) := by
  unfold bringUpRefreshed
  rw [hport]
  dsimp only [State.freePort]
  rw [hb, hp]
  rfl

theorem bringUpRefreshed_abandoned (hport : s.mc.port = some (.bringUp .refresh true)) :
    bringUpRefreshed s = s.freePort := by
  unfold bringUpRefreshed
  rw [hport]
  dsimp only
  split <;> rfl

theorem modeSetDone_finishes {b : BringUp} {p : Profile} (hport : s.mc.port = some (.bringUp .modeSet false))
    (hb : s.mc.bringUp = some b) (hp : s.mc.profile = some p) : modeSetDone s = finishBringUp s.freePort p := by
  unfold modeSetDone
  rw [hport]
  dsimp only [State.freePort]
  rw [hb, hp]
  rfl

theorem modeSetDone_abandoned (hport : s.mc.port = some (.bringUp .modeSet true)) : modeSetDone s = s.freePort := by
  unfold modeSetDone
  rw [hport]
  dsimp only
  split <;> rfl

theorem bringUpAt_iff (c : BringCommand) : bringUpAt c s = true ↔ ∃ b, s.mc.port = some (.bringUp c b) := by
  rw [bringUpAt, Bool.or_eq_true, decide_eq_true_iff, decide_eq_true_iff]
  exact ⟨fun h => h.elim (fun h => ⟨_, h⟩) fun h => ⟨_, h⟩, fun ⟨b, h⟩ => by
    cases b
    · exact .inl h
    · exact .inr h⟩

theorem bringUpAt_false {c : BringCommand} (h : ∀ b, s.mc.port ≠ some (.bringUp c b)) : bringUpAt c s = false :=
  Bool.not_eq_true _ ▸ fun hx => by
    obtain ⟨b, hb⟩ := (bringUpAt_iff c).mp hx
    exact h b hb

theorem arbitrate_busy (h : s.mc.port ≠ none) : arbitrate s = s := by
  unfold arbitrate
  split
  next => rfl
  next hp => exact absurd hp h

theorem arbitrate_bringUp (hp : s.mc.port = none) (hd : s.device = .initializing) : arbitrate s = issueBringUp s := by
  unfold arbitrate
  simp only [hp, hd]

theorem arbitrate_unconfigured (hd : s.device = .unconfigured) : arbitrate s = s := by
  unfold arbitrate
  rw [hd]
  split <;> rfl

end

/-- Settles O54: the bring-up, step by step. -/
theorem bringUpRuns : Obligations.BringUpRuns := by
  unfold Obligations.BringUpRuns
  refine ⟨fun p b s hr hp hb => ?runs, fun s hr => ?abandoned, fun s => ?issued⟩
  case runs =>
    intro a becomes set
    have hpA : a.mc.profile = some p := by rw [txBegin_mc]; exact hp
    have hbA : a.mc.bringUp = some b := by rw [txBegin_mc]; exact hb
    have hportA : ∀ {op}, s.mc.port = some op → a.mc.port = some op := fun h => by rw [txBegin_mc]; exact h
    have htime : ∀ t, elapsedReached a t = elapsedReached s t := fun t => by
      rw [elapsedReached, elapsedSince, txBegin_time]
      rfl
    refine ⟨fun hw => ⟨fun ht => ?_, fun ht => ?_⟩, fun hw => ?_, fun h => ?_, fun h => ?_, fun h => ?_⟩
    · refine exec_coreEventIf rfl hr (by rw [waitOver_eq hb, hw, ht]; rfl) ?_
      rw [waitEnds_eq hbA (by rw [waitOver_eq hbA, hw, htime, ht]; rfl)]
      rfl
    · exact exec_coreEventIf_rests rfl (by rw [waitOver_eq hb, ht, Bool.and_false])
    · exact exec_coreEventIf_rests rfl (by rw [waitOver_eq hb, decide_eq_false hw, Bool.false_and])
    · refine exec_coreEventIf rfl hr ((bringUpAt_iff _).mpr ⟨_, h⟩) ?_
      rw [bringUpPrecharged_goesOn (hportA h) hbA]
      rfl
    · refine exec_coreEventIf rfl hr ((bringUpAt_iff _).mpr ⟨_, h⟩) ?_
      rw [bringUpRefreshed_goesOn (hportA h) hbA hpA]
      show _ = set s.mc.banks _
      rw [← txBegin_mc s]
      rfl
    · refine exec_coreEventIf rfl hr ((bringUpAt_iff _).mpr ⟨_, h⟩) ?_
      rw [modeSetDone_finishes (hportA h) hbA hpA, finishBringUp, wholeInterval_eq (s := a.freePort) hpA, countFrom_eq,
        ← List.range_eq_range', ← txBegin_raised s]
      rfl
  case abandoned =>
    intro a free becomes
    have hportA : ∀ {op}, s.mc.port = some op → a.mc.port = some op := fun h => by rw [txBegin_mc]; exact h
    refine ⟨fun h => ?_, fun h => ?_, fun h => ?_, fun h => exec_coreEventIf_rests rfl (waitOver_none h),
      fun h => exec_coreEventIf_rests rfl (bringUpAt_false h), fun h => exec_coreEventIf_rests rfl (bringUpAt_false h),
      fun h => exec_coreEventIf_rests rfl (bringUpAt_false h)⟩
    · refine exec_coreEventIf rfl hr ((bringUpAt_iff _).mpr ⟨_, h⟩) ?_
      rw [bringUpPrecharged_abandoned (hportA h)]
      rfl
    · refine exec_coreEventIf rfl hr ((bringUpAt_iff _).mpr ⟨_, h⟩) ?_
      rw [bringUpRefreshed_abandoned (hportA h)]
      rfl
    · refine exec_coreEventIf rfl hr ((bringUpAt_iff _).mpr ⟨_, h⟩) ?_
      rw [modeSetDone_abandoned (hportA h)]
      rfl
  case issued =>
    intro begun
    refine ⟨fun b hp hd hb => ?_, fun h => h.elim arbitrate_busy arbitrate_unconfigured⟩
    have hissue := arbitrate_bringUp hp hd
    unfold issueBringUp at hissue
    rw [hb] at hissue
    dsimp only at hissue
    refine ⟨fun h => ?_, fun h => ?_, fun h => ?_, fun h => ?_⟩ <;> rw [h] at hissue <;> exact hissue

end Sys2Proof.Machine
end

section
/-!
PROOFS. Transactions that complete (R37, R39, R40, R82, R83, R85, R88, R90, R94, R110): the next requests of the lanes
and the fill buffer, and what a completed transaction hands over (O52).
-/

namespace Sys2Proof.Machine

/-! ### The next requests -/

theorem laneRequest_eq {s : State} {l : Fin 4} {h : HeldCue} (hh : (s.lane l).held = some h) :
    laneRequest s l
      = if (s.lane l).state.fetches && !outstanding s (.lane l) && decide (0 < (s.lane l).unfetched h)
            && (s.lane l).roomFor h then requestAt h.blocks (s.lane l).fetchPos ((s.lane l).unfetched h)
        else none := by
  unfold laneRequest
  simp only [hh]

theorem placeLaneRead_some {s : State} {l : Fin 4} {q : MemRequest} (h : laneRequest s l = some q) :
    placeLaneRead s l = placeRequest s (.lane l) q := by
  unfold placeLaneRead
  rw [h]

theorem placeLaneRead_none {s : State} {l : Fin 4} (h : laneRequest s l = none) : placeLaneRead s l = s := by
  unfold placeLaneRead
  rw [h]

theorem LaneState.fetches_iff (st : LaneState) :
    st.fetches = true ↔ st = .staging ∨ st = .primed ∨ st = .emitting := by
  cases st <;> decide

theorem placeFill_some {s : State} {q : MemRequest} (h : fillRequest s = some q) :
    placeFill s = placeRequest s .fill q := by
  unfold placeFill
  rw [h]

theorem placeFill_none {s : State} (h : fillRequest s = none) : placeFill s = s := by
  unfold placeFill
  rw [h]

theorem fillRequest_eq {s : State} {c : Chunk} {rest : List Chunk} {p : Payload} (hc : s.store.chunks = c :: rest)
    (hp : s.payload? c.payload = some p) :
    fillRequest s
      = if decide (c.written < c.data.length) && !outstanding s .fill then
          requestAt p.blocks (c.offset + c.written) (c.data.length - c.written)
        else none := by
  unfold fillRequest
  simp only [hc, hp]

theorem fillRequest_outstanding {s : State} (h : outstanding s .fill = true) : fillRequest s = none := by
  unfold fillRequest
  split
  · split
    · rw [h, Bool.not_true, Bool.and_false]
      rfl
    · rfl
  · rfl

theorem fillRequest_empty {s : State} (h : s.store.chunks = []) : fillRequest s = none := by
  unfold fillRequest
  rw [h]

/-! ### The port after a column phase -/

/-- The port goes to the closing precharge where the policy says so, and is free otherwise (R110). -/
theorem portAfterColumn_eq {s : State} {P : Prop} [Decidable P] (t : Transaction)
    (hP : P ↔ ∃ p, s.mc.profile = some p ∧ p.policy = .closeRow) :
    portAfterColumn s t
      = { s with
          mc :=
            if P then { s.mc with port := some (.transaction { t with phase := .closing }), portLeft := 3 }
            else { s.mc with port := none, portLeft := 0 } } := by
  unfold portAfterColumn
  split
  next rows latency burst interval initRefreshes debtLimit h =>
    rw [if_pos (hP.mpr ⟨_, h, rfl⟩)]
    rfl
  next hno =>
    rw [if_neg]
    · rfl
    · intro hp
      obtain ⟨⟨⟩, hprofile, hpolicy⟩ := hP.mp hp
      cases hpolicy
      exact hno _ _ _ _ _ _ hprofile

/-- A transaction in its column phase completes in its event. -/
theorem exec_transactionComplete {s u : State} {t : Transaction} (hr : s.inReset = false)
    (ht : s.mc.port = some (.transaction t)) (hc : t.phase = .column)
    (hu : handOver (portAfterColumn (txBegin s) t) t = u) :
    exec .transactionComplete s = .next (finished (txBegin s) u) := by
  refine exec_coreEventIf rfl hr (by rw [portPhase_of ht]; exact decide_eq_true hc) ?_
  unfold transactionDone
  rw [show (txBegin s).mc.port = some (.transaction t) by rw [txBegin_mc]; exact ht]
  dsimp only
  rw [if_pos hc]
  exact hu

/-! ### Reads of lanes -/

theorem countFreeRead_eq (s : State) (t : Transaction) :
    countFreeRead s t
      = { s with freeReads := if anyUnwritten s.mem t.address t.size then s.freeReads + 1 else s.freeReads } := by
  unfold countFreeRead
  split <;> rfl

theorem countFreeRead_executing (s : State) (t : Transaction) : (countFreeRead s t).executing = s.executing := by
  rw [countFreeRead_eq]

theorem handOver_lane {s : State} {t : Transaction} {l : Fin 4} (h : t.requester = .lane l) :
    handOver s t = deliverLane (countFreeRead s t) l (bytesRead s t) := by
  unfold handOver
  rw [h]

theorem handOver_readBack {s : State} {t : Transaction} (h : t.requester = .readBack) :
    handOver s t = appendReadBack (countFreeRead s t) (bytesRead s t) := by
  unfold handOver
  rw [h]

theorem handOver_fill {s : State} {t : Transaction} (h : t.requester = .fill) :
    handOver s t = fillDone { s with mem := writeBytes s.mem t.address (bytesToWrite s t) } t.size := by
  unfold handOver
  rw [h]

theorem appendReadBack_eq {s : State} {seq code : Byte} {bl : List Nat} {o n : Nat} {got : List Byte} (bytes : List Byte)
    (he : s.executing = some { seq := seq, code := code, wait := .readBack bl o n got }) :
    appendReadBack s bytes = s.busy (some { seq := seq, code := code, wait := .readBack bl o n (got ++ bytes) }) := by
  unfold appendReadBack
  simp only [he]
  rfl

theorem deliverLane_joins {s : State} {l : Fin 4} {h : HeldCue} (bytes : List Byte) (hh : (s.lane l).held = some h)
    (hf : (s.lane l).state.fetches = true) :
    deliverLane s l bytes = placeLaneRead (tryStart (s.setLane l ((s.lane l).join h bytes)) l) l := by
  unfold deliverLane
  dsimp only
  rw [hh]
  dsimp only
  rw [if_pos hf]

theorem deliverLane_discards {s : State} {l : Fin 4} (bytes : List Byte) (hf : (s.lane l).state.fetches = false) :
    deliverLane s l bytes = s := by
  unfold deliverLane
  dsimp only
  split
  · rw [if_neg (by rw [hf]; exact nofun)]
  · rfl

/-- A flush that is over leaves the lane at rest and reports its cut (R40, R50). -/
theorem endFlush_over {s : State} {l : Fin 4} (h : flushOver s l = true) :
    endFlush s l = reportCut (s.setLane l (s.lane l).toIdle) (s.lane l) := by
  rw [endFlush, if_pos h]

/-- The executing request is not seen by what the lanes and the store still have to do. -/
theorem calm_busy (s0 s : State) (e : Option Executing) : calm s0 (s.busy e) = calm s0 s := rfl

theorem finished_calm {s0 s : State} (h : calm s0 s = true) : finished s0 s = concluded (resume s) := by
  rw [finished, coreTail_calm s0 s h]
  rfl

/-! ### Writes of the fill buffer -/

theorem bytesToWrite_eq {s : State} {c : Chunk} {rest : List Chunk} (t : Transaction)
    (h : s.store.chunks = c :: rest) : bytesToWrite s t = (c.data.drop c.written).take t.size := by
  unfold bytesToWrite
  rw [h]

/-- The head chunk leaves: it is wholly written, its payload is being deleted, or a soft reset left it (R83, R88,
R94). -/
theorem ackHead_leaves {s : State} {c : Chunk} {rest : List Chunk} {n : Nat} (h : s.store.chunks = c :: rest)
    (hl : c.data.length ≤ c.written + n ∨ deleting s c.payload = true ∨ c.payload ∈ s.store.leaving) :
    ackHead s n = s.setChunks rest := by
  unfold ackHead
  rw [h]
  exact if_pos hl

theorem ackHead_stays {s : State} {c : Chunk} {rest : List Chunk} {n : Nat} (h : s.store.chunks = c :: rest)
    (hl : ¬ (c.data.length ≤ c.written + n ∨ deleting s c.payload = true ∨ c.payload ∈ s.store.leaving)) :
    ackHead s n = s.setChunks ({ c with written := c.written + n } :: rest) := by
  unfold ackHead
  rw [h]
  exact if_neg hl

theorem deleting_iff (s : State) (p : Nat) : deleting s p = true ↔ ∃ e, s.executing = some e ∧ e.wait = .delete p := by
  unfold deleting
  split
  next seq code id h =>
    rw [decide_eq_true_iff]
    constructor
    · rintro rfl
      exact ⟨_, h, rfl⟩
    · rintro ⟨e, he, hw⟩
      cases h.symm.trans he
      exact Wait.delete.inj hw
  next hno =>
    refine ⟨nofun, ?_⟩
    rintro ⟨⟨seq, code, w⟩, he, rfl⟩
    exact (hno _ _ _ he).elim

theorem freeLeaving_none {s : State} (h : s.store.leaving = []) : freeLeaving s = s := by
  unfold freeLeaving
  rw [h]
  show { s with store := { s.store with leaving := [] } } = s
  rw [← h]

/-! ### Payloads that a soft reset left -/

/-- Whether the payload is FILLING, as the list a soft reset left tests it. -/
def leftFilling (s : State) (id : Nat) : Bool := (s.payload? id).any (fun p => decide (p.state = .filling))

theorem freeLeft_rest {s : State} {id : Nat} (h : leftFilling s id = false) : freeLeft s id = s := by
  unfold freeLeft
  unfold leftFilling at h
  split
  next p hp =>
    rw [hp] at h
    exact if_neg (of_decide_eq_false h)
  next => rfl

theorem withoutChunks_all (cs : List Chunk) (id : Nat) :
    withoutChunks cs id false = cs.filter (fun k => decide (k.payload ≠ id)) := by
  cases cs with
  | nil => rfl
  | cons c t =>
    by_cases h : c.payload = id
    · rw [withoutChunks, if_pos ⟨h, rfl⟩, List.filter_cons_of_neg (by simp [h])]
    · rw [withoutChunks, if_neg (fun hx => h hx.1), List.filter_cons_of_pos (by simp [h])]

theorem freeLeft_filling {s : State} {id : Nat} (h : leftFilling s id = true) :
    freeLeft s id
      = { s with
          store :=
            { directory := s.store.directory.filter (fun e => decide (e.1 ≠ id)),
              pool := s.store.pool ++ ((s.payload? id).map Payload.blocks).getD [],
              chunks := s.store.chunks.filter (fun k => decide (k.payload ≠ id)),
              leaving := s.store.leaving.filter (fun k => decide (k ≠ id)) } } := by
  unfold freeLeft
  unfold leftFilling at h
  split
  next p hp =>
    rw [hp] at h
    rw [if_pos (of_decide_eq_true h), withoutChunks_all]
    unfold State.freePayload
    have hkept : ∀ cs, (s.setChunks cs).payload? id = some p := fun _ => hp
    rw [hkept, hp]
    rfl
  next hp =>
    rw [hp] at h
    cases h

theorem leftFilling_freeLeft {s : State} {id j : Nat} (h : leftFilling s id = true) (hj : j ≠ id) :
    (freeLeft s id).payload? j = s.payload? j := by
  rw [freeLeft_filling h]
  show tget (tdel s.store.directory id) j = _
  rw [tget_tdel, if_neg hj]
  rfl

/-- Freeing the payloads of the list: the FILLING ones leave the directory with their chunks and give their blocks
back in the order of the list (R94). -/
theorem foldl_freeLeft (ids : List Nat) (hn : ids.Nodup) (s : State) :
    (ids.foldl freeLeft s).setLeaving []
      = { s with
          store :=
            { directory := s.store.directory.filter (fun e => !(decide (e.1 ∈ ids) && leftFilling s e.1)),
              pool :=
                s.store.pool
                  ++ ((ids.filter (leftFilling s)).map (fun id => ((s.payload? id).map Payload.blocks).getD [])).flatten,
              chunks := s.store.chunks.filter (fun k => !(decide (k.payload ∈ ids) && leftFilling s k.payload)),
              leaving := [] } } := by
  induction ids generalizing s with
  | nil => simp [State.setLeaving]
  | cons id t ih =>
    obtain ⟨hid, ht⟩ := List.nodup_cons.mp hn
    rw [List.foldl_cons, ih ht]
    cases hf : leftFilling s id with
    | false =>
      have hpred : ∀ j, (!(decide (j ∈ t) && leftFilling s j)) = !(decide (j ∈ id :: t) && leftFilling s j) := fun j => by
        by_cases hj : j = id
        · rw [hj, hf, Bool.and_false, Bool.and_false]
        · simp [hj]
      rw [freeLeft_rest hf, List.filter_cons_of_neg (by simp [hf])]
      simp only [hpred]
    | true =>
      have hother : ∀ j, j ≠ id → (freeLeft s id).payload? j = s.payload? j := fun j => leftFilling_freeLeft hf
      have hpred : ∀ j, (!(decide (j ∈ t) && leftFilling (freeLeft s id) j) && decide (j ≠ id))
          = !(decide (j ∈ id :: t) && leftFilling s j) := fun j => by
        by_cases hj : j = id
        · rw [hj, hf]; simp
        · rw [leftFilling, hother j hj, ← leftFilling]; simp [hj]
      have hfilter : t.filter (leftFilling (freeLeft s id)) = t.filter (leftFilling s) :=
        List.filter_congr fun j hj => by
          rw [leftFilling, hother j (fun h => hid (h ▸ hj))]; rfl
      have hblocks : ((t.filter (leftFilling s)).map
            (fun j => (((freeLeft s id).payload? j).map Payload.blocks).getD []))
          = (t.filter (leftFilling s)).map (fun j => ((s.payload? j).map Payload.blocks).getD []) :=
        List.map_congr_left fun j hj => by
          rw [hother j (fun h => hid (h ▸ (List.mem_filter.mp hj).1))]
      rw [hfilter, hblocks, List.filter_cons_of_pos hf, List.map_cons, List.flatten_cons, ← List.append_assoc]
      rw [freeLeft_filling hf] at hpred ⊢
      simp only [List.filter_filter, hpred]

/-! ### The acknowledgement of a write -/

section
variable {s : State} {c : Chunk} {rest : List Chunk} {n : Nat}

theorem freeLeaving_setChunks (cs : List Chunk) (h : s.store.leaving = []) :
    freeLeaving (s.setChunks cs) = s.setChunks cs :=
  freeLeaving_none h

/-- A write is acknowledged: the head chunk leaves when it is wholly written, else its written count rises (R83). -/
theorem fillDone_writes (hc : s.store.chunks = c :: rest) (hleaving : s.store.leaving = [])
    (hdel : deleting s c.payload = false) (hn : c.written + n ≤ c.data.length) :
    fillDone s n
      = placeFill (s.setChunks (if c.written + n = c.data.length then rest
          else { c with written := c.written + n } :: rest)) := by
  rw [fillDone]
  by_cases hfull : c.written + n = c.data.length
  · rw [if_pos hfull, ackHead_leaves hc (.inl (Nat.le_of_eq hfull.symm)), freeLeaving_setChunks _ hleaving]
  · rw [if_neg hfull, ackHead_stays hc, freeLeaving_setChunks _ hleaving]
    rintro (h | h | h)
    · omega
    · rw [hdel] at h; cases h
    · rw [hleaving] at h; cases h

/-- The chunk of a payload that is being deleted leaves with its write (R88). -/
theorem fillDone_deletes (hc : s.store.chunks = c :: rest) (hleaving : s.store.leaving = [])
    (hdel : deleting s c.payload = true) : fillDone s n = placeFill (s.setChunks rest) := by
  rw [fillDone, ackHead_leaves hc (.inr (.inl hdel)), freeLeaving_setChunks _ hleaving]

/-- The write that a soft reset found in column phase completes: the payloads it left are freed (R94). -/
theorem fillDone_frees (hc : s.store.chunks = c :: rest) (hmem : c.payload ∈ s.store.leaving)
    (hn : s.store.leaving.Nodup) :
    let freed := fun id => decide (id ∈ s.store.leaving) && leftFilling s id
    fillDone s n
      = placeFill { s with
          store :=
            { directory := s.store.directory.filter (fun e => !freed e.1),
              pool :=
                s.store.pool
                  ++ ((s.store.leaving.filter freed).map (fun id =>
                      ((s.payload? id).map Payload.blocks).getD [])).flatten,
              chunks := rest.filter (fun k => !freed k.payload), leaving := [] } } := by
  intro freed
  have hfreed : s.store.leaving.filter (leftFilling s) = s.store.leaving.filter freed :=
    List.filter_congr fun id hid => by
      show _ = (decide _ && _)
      rw [decide_eq_true hid, Bool.true_and]
  rw [fillDone, ackHead_leaves hc (.inr (.inr hmem)), ← hfreed]
  exact congrArg placeFill (foldl_freeLeft s.store.leaving hn (s.setChunks rest))

end

/-! ### Waits that end with a write, where no SYNC is pending -/

section
variable {s : State} {seq code : Byte} {id : Nat}

theorem resume_takes {off : Nat} {data : List Byte}
    (he : s.executing = some { seq := seq, code := code, wait := .putData id off data }) (hf : slotFree s = true)
    (hsync : s.link.pendingSync = none) :
    resume s = queueReply (takeChunk s id off data) seq code .ok (u16 (off + data.length)) := by
  rw [resume_of_putData he, if_pos hf, endExecution_eq]
  rw [(CoreKept.takeChunk s id off data).link]
  exact hsync

theorem resume_seals {want : Option (BitVec 32)} {q : Payload}
    (he : s.executing = some { seq := seq, code := code, wait := .seal id want }) (hnone : holdsChunk s id = false)
    (hq : s.payload? id = some q) (hfilling : q.state = .filling) (hsync : s.link.pendingSync = none)
    (hwant : want = none ∨ want = some q.running) :
    resume s
      = queueReply (s.setPayload id { q with state := .sealed, check := some q.running }) seq code .ok
          (u32 q.running.toNat) := by
  rw [resume_of_seal he, hnone, if_neg Bool.false_ne_true, finishSeal_sealed seq code hq hfilling hwant]
  exact endExecution_eq _ _ _ _ _ hsync

theorem resume_mismatches {k : BitVec 32} {q : Payload}
    (he : s.executing = some { seq := seq, code := code, wait := .seal id (some k) }) (hnone : holdsChunk s id = false)
    (hq : s.payload? id = some q) (hfilling : q.state = .filling) (hsync : s.link.pendingSync = none)
    (hk : k ≠ q.running) :
    resume s = queueReply (s.freePayload id) seq code .checkMismatch (u32 q.running.toNat) := by
  rw [resume_of_seal he, hnone, if_neg Bool.false_ne_true, finishSeal_mismatch seq code hq hfilling hk, endExecution_eq]
  rw [(CoreKept.freePayload s id).link]
  exact hsync

theorem resume_deletes (he : s.executing = some { seq := seq, code := code, wait := .delete id })
    (hnone : holdsChunk s id = false) (hsync : s.link.pendingSync = none) :
    resume s = queueReply (s.freePayload id) seq code .ok [payloadStateCode none] := by
  rw [resume_of_delete he, hnone, if_neg Bool.false_ne_true, endExecution_eq]
  rw [(CoreKept.freePayload s id).link]
  exact hsync

end

/-! ### The clauses together -/

theorem outstanding_done {s : State} {l : Fin 4} (hreq : s.mc.laneReq.get l = none) (hin : inFlight s (.lane l) = false) :
    outstanding s (.lane l) = false := by
  rw [outstanding, hreq, hin]
  rfl

theorem not_inFlight_iff {s : State} {r : Requester} (h : ∀ t, s.mc.port = some (.transaction t) → t.phase = .closing) :
    inFlight s r = false :=
  Bool.not_eq_true _ ▸ fun hx => by
    obtain ⟨t, ht, -, -, hp⟩ := (inFlight_iff s r).mp hx
    exact hp (h t ht)

theorem take_drop_getElem? (data : List Byte) {w n i : Nat} (hi : i < n) :
    ((data.drop w).take n)[i]? = data[w + i]? := by
  rw [List.getElem?_take, if_pos hi, List.getElem?_drop]

/-- Settles O52: the next requests, and the transactions that complete. -/
theorem transactionsComplete : Obligations.TransactionsComplete := by
  unfold Obligations.TransactionsComplete
  refine ⟨fun s l => ?nextLane, fun s => ?nextFill, fun t l close s hr ht hreq hphase hclose => ?laneRead,
    fun t p s hr ht hphase hp => ?others⟩
  case nextLane =>
    intro x
    refine ⟨fun h hh hst hout => ?_, fun hrest => placeLaneRead_none ?_⟩
    · intro left room
      have hfetch : x.state.fetches = true := (LaneState.fetches_iff _).mpr hst
      have hroom : x.roomFor h = true ↔ 256 ≤ room ∨ left ≤ room := by
        rw [Lane.roomFor, Bool.or_eq_true, decide_eq_true_iff, decide_eq_true_iff]
        rfl
      refine ⟨fun b hleft hr hb => ?_, fun hrest => placeLaneRead_none ?_⟩
      · refine placeLaneRead_some ?_
        rw [laneRequest_eq hh, hfetch, hout, decide_eq_true (show 0 < (s.lane l).unfetched h from hleft),
          hroom.mpr hr]
        exact requestAt_of hb
      · rw [laneRequest_eq hh, if_neg]
        simp only [Bool.and_eq_true, decide_eq_true_iff]
        rintro ⟨⟨-, hleft⟩, hr⟩
        have hleft : 0 < left := hleft
        rcases hrest with h0 | ⟨h1, h2⟩
        · omega
        · rcases hroom.mp hr with h | h <;> omega
    · cases hh : x.held with
      | none =>
        unfold laneRequest
        dsimp only
        rw [show (s.lane l).held = none from hh]
      | some h =>
        rw [laneRequest_eq hh, if_neg]
        simp only [Bool.and_eq_true, Bool.not_eq_true']
        rintro ⟨⟨⟨hf, ho⟩, -⟩, -⟩
        rcases hrest with h1 | h1 | h1
        · rw [h1] at hh; cases hh
        · rw [h1] at ho; cases ho
        · rcases (LaneState.fetches_iff _).mp hf with h2 | h2 | h2 <;> rw [show x.state = _ from h2] at h1 <;>
            rcases h1 with h1 | h1 | h1 <;> cases h1
  case nextFill =>
    refine ⟨fun c rest p hc hp hout hw b hb => ?_, fun h => placeFill_none ?_⟩
    · intro pos
      refine placeFill_some ?_
      rw [fillRequest_eq hc hp, decide_eq_true hw, hout]
      exact requestAt_of hb
    · exact h.elim fillRequest_outstanding fillRequest_empty
  case laneRead =>
    intro a x becomes leads address bytes u
    have hu : countFreeRead (portAfterColumn a t) t = u := by
      rw [countFreeRead_eq, portAfterColumn_eq (P := close = true) t (by rw [txBegin_mc]; exact hclose)]
      exact congrArg (fun n => ({ u with freeReads := n } : State)) (by rw [← txBegin_mem s, ← txBegin_freeReads s]; rfl)
    have hbytes : bytesRead (portAfterColumn a t) t = bytes := by
      rw [portAfterColumn_eq (P := close = true) t (by rw [txBegin_mc]; exact hclose)]
      show readBytes a.mem a.freeReads address t.size = _
      rw [txBegin_mem, txBegin_freeReads]
    have hx : u.lane l = x := txBegin_lane s l
    have hexec : ∀ w, deliverLane u l bytes = w → becomes w := fun w hw =>
      exec_transactionComplete hr ht hphase (by rw [handOver_lane hreq, hu, hbytes, hw])
    refine ⟨fun h hh hst => ?_, fun hfl => ?_⟩
    · intro v w
      have hw : becomes w := hexec w (by
        rw [deliverLane_joins bytes (by rw [hx]; exact hh) (by rw [hx]; exact (LaneState.fetches_iff _).mpr hst), hx]
        refine congrArg (fun y => placeLaneRead (tryStart (u.setLane l y) l) l) ?_
        have hlen : bytes.length = t.size := readBytes_length _ _ _ _
        rw [Lane.join, hlen, List.length_append, hlen]
        rfl)
      exact ⟨hw, fun hl => hw.trans (congrArg Host.Outcome.next (finished_leads_pick hl))⟩
    · intro v
      have hw : becomes u := hexec u (deliverLane_discards bytes (by rw [hx, show x.state = _ from hfl]; rfl))
      refine ⟨hw, fun hnone => ?_⟩
      have hin : inFlight u (.lane l) = false := not_inFlight_iff fun t' ht' => by
        have hport : u.mc.port = if close then some (.transaction { t with phase := .closing }) else none := by
          show (if close then _ else _ : MemControl).port = _
          split <;> rfl
        rw [hport] at ht'
        split at ht' <;> cases ht'
        rfl
      have hover : flushOver u l = true := (flushOver_iff u l).mpr ⟨by rw [hx]; exact hfl, outstanding_done (by
        show (if close then _ else _ : MemControl).laneReq.get l = none
        rw [← hnone, ← txBegin_mc s]
        split <;> rfl) hin⟩
      have hend : endFlush u l = reportCut v x := by rw [endFlush_over hover, hx]; rfl
      refine ⟨fun hl => hw.trans (congrArg Host.Outcome.next (finished_leads_flush hl)), fun hn => ?_,
        fun h c cause r hh hc hcause hresult => ?_⟩
      · rw [hend, reportCut_none hn]
      · exact hend.trans (reportCut_eq hh ((txBegin_cue? s h.cue).trans hc) hcause hresult)
  case others =>
    intro a becomes address mc
    have hport : portAfterColumn a t = { a with mc := mc } :=
      portAfterColumn_eq (P := p.policy = .closeRow) t (by
        rw [txBegin_mc, hp]
        exact ⟨fun h => ⟨p, rfl, h⟩, fun ⟨q, hq, h⟩ => Option.some.inj hq ▸ h⟩)
    have hexec : ∀ u, handOver { a with mc := mc } t = u → becomes u := fun u hu =>
      exec_transactionComplete hr ht hphase (by rw [hport, hu])
    have hsync : s.link.pendingSync = none → a.link.pendingSync = none := (txBegin_pendingSync s).trans
    have hex : ∀ {e}, s.executing = some e → a.executing = some e := (txBegin_executing s).trans
    have hread : ∀ {seq code blocks off n got}, t.requester = .readBack →
        s.executing = some { seq := seq, code := code, wait := .readBack blocks off n got } →
        becomes (State.busy
          { a with
            mc := mc, freeReads := if anyUnwritten s.mem address t.size then s.freeReads + 1 else s.freeReads }
          (some
            { seq := seq, code := code,
              wait := .readBack blocks off n (got ++ readBytes s.mem s.freeReads address t.size) })) := by
      intro seq code blocks off n got hreq he
      refine hexec _ ?_
      refine (handOver_readBack hreq).trans
        ((appendReadBack_eq _ ((countFreeRead_executing { a with mc := mc } t).trans (hex he))).trans ?_)
      rw [countFreeRead_eq, ← txBegin_mem s, ← txBegin_freeReads s]
      rfl
    refine ⟨fun c rest hreq hc hlen => ?fillWrite, fun seq code blocks off n got hreq he => ?readMore,
      fun seq code blocks off n got hreq hnone he hn => ?readLast⟩
    case fillWrite =>
      intro bytes left u
      have hbytes : bytes.length = t.size := by
        rw [List.length_take, List.length_drop]
        omega
      have hfill : ∀ v, fillDone (left (c :: rest)) t.size = v → becomes v := fun v hv => by
        refine hexec v ?_
        rw [handOver_fill hreq, bytesToWrite_eq (s := { a with mc := mc }) (c := c) (rest := rest) t
          ((congrArg Store.chunks (txBegin_store s)).trans hc), ← hv]
        refine congrArg (fun w => fillDone w t.size) ?_
        show _ = left (c :: rest)
        rw [← hc]
        exact congrArg₂ (fun m st => ({ a with mc := mc, mem := m, store := st } : State))
          (congrArg (fun m => writeBytes m address bytes) (txBegin_mem s)) (txBegin_store s)
      have hdone : s.store.leaving = [] → (∀ e, s.executing = some e → e.wait ≠ .delete c.payload) → becomes u :=
        fun hleaving hnd => by
          refine hfill u (fillDone_writes (s := left (c :: rest)) rfl hleaving (Bool.not_eq_true _ ▸ fun hdel => ?_) hlen)
          obtain ⟨e, he, hw⟩ := (deleting_iff _ _).mp hdel
          exact hnd e ((txBegin_executing s).symm.trans he) hw
      have hkept : ∀ chunks : List Chunk, (placeFill (left chunks)).executing = s.executing
          ∧ (placeFill (left chunks)).store = { s.store with chunks := chunks }
          ∧ (s.link.pendingSync = none → (placeFill (left chunks)).link.pendingSync = none) := fun chunks =>
        ⟨(PortOnly.placeFill _).executing.trans (txBegin_executing s), (PortOnly.placeFill _).store,
          fun h => (congrArg Link.pendingSync (CoreKept.placeFill _).link).trans (hsync h)⟩
      refine ⟨fun i hi => ?inside, fun b hb => ?outside, fun hleaving => ⟨fun hnd => ?plain, fun seq code hnone => ?waits⟩,
        fun hmem hnodup _ => ?leaving⟩
      case inside =>
        rw [tget_writeBytes_inside _ _ _ _ (by rw [hbytes]; exact hi)]
        exact take_drop_getElem? c.data hi
      case outside => exact tget_writeBytes_outside _ _ _ _ (by rw [hbytes]; exact hb)
      case plain =>
        have hu := hdone hleaving hnd
        exact ⟨hu, fun hg => hu.trans (congrArg Host.Outcome.next (finished_goesOn _ _ hg))⟩
      case waits =>
        have hresume : ∀ {v w}, becomes v → calm a v = true → resume v = w →
            exec .transactionComplete s = .next (concluded w) := fun hv hcalm hw =>
          hv.trans (congrArg Host.Outcome.next ((finished_calm hcalm).trans (congrArg concluded hw)))
        have hlast : ∀ {v : State}, v.store.chunks = rest → (∀ k ∈ rest, k.payload ≠ c.payload) →
            holdsChunk v c.payload = false := fun hv hne => by
          rw [holdsChunk, hv, List.any_eq_false]
          exact fun k hk => by simpa using hne k hk
        obtain ⟨hexu, hstore, hlink⟩ := hkept (if c.written + t.size = c.data.length then rest
          else { c with written := c.written + t.size } :: rest)
        have hchunks : c.written + t.size = c.data.length → u.store.chunks = rest := fun hfull =>
          (congrArg Store.chunks hstore).trans (if_pos hfull)
        refine ⟨fun id off data he hfull hroom hcalm => ?put, fun want q he hfull hne hq hfilling hcalm => ?sealing,
          fun he hne => ?deletes⟩
        case put =>
          refine hresume (hdone hleaving fun e h hw => by cases he.symm.trans h; cases hw) hcalm
            (resume_takes (hexu.trans he) ?_ (hlink hnone))
          rw [slotFree, hchunks hfull]
          exact decide_eq_true hroom
        case sealing =>
          have hqu : u.payload? c.payload = some q := by
            show tget u.store.directory _ = _
            rw [hstore]
            exact hq
          have hu := hdone hleaving fun e h hw => by cases he.symm.trans h; cases hw
          refine ⟨fun hwant => hresume hu hcalm ?_, fun k hk hbad => hresume hu hcalm ?_⟩
          · exact resume_seals (hexu.trans he) (hlast (hchunks hfull) hne) hqu hfilling (hlink hnone) hwant
          · subst hk
            exact resume_mismatches (hexu.trans he) (hlast (hchunks hfull) hne) hqu hfilling (hlink hnone) hbad
        case deletes =>
          intro v hcalm
          obtain ⟨hexv, hstorev, hlinkv⟩ := hkept rest
          have hdel : deleting (left (c :: rest)) c.payload = true := (deleting_iff _ _).mpr ⟨_, hex he, rfl⟩
          refine hresume (hfill v (fillDone_deletes (s := left (c :: rest)) rfl hleaving hdel)) hcalm
            (resume_deletes (hexv.trans he) (hlast (congrArg Store.chunks hstorev) hne) (hlinkv hnone))
      case leaving =>
        intro freed v
        exact hfill v (fillDone_frees (s := left (c :: rest)) rfl hmem hnodup)
    case readMore =>
      intro u
      have hu : becomes u := hread hreq he
      refine ⟨hu, fun hlt hcalm hout b hb => ?_⟩
      intro pos
      refine hu.trans (congrArg Host.Outcome.next ((finished_calm hcalm).trans ?_))
      have hgot : (got ++ readBytes s.mem s.freeReads address t.size).length = got.length + t.size := by
        rw [List.length_append, readBytes_length]
      rw [resume_of_readBack (s := u) rfl, hgot, if_neg (Nat.not_le.mpr hlt), placeReadBack, hout,
        if_neg Bool.false_ne_true, hgot, ← Nat.add_assoc, requestAt_of hb]
      rfl
    case readLast =>
      intro u hcalm
      refine (hread hreq he).trans
        (congrArg Host.Outcome.next ((finished_calm (s := u.busy _) ((calm_busy a u _).trans hcalm)).trans ?_))
      have hgot : (got ++ readBytes s.mem s.freeReads address t.size).length = got.length + t.size := by
        rw [List.length_append, readBytes_length]
      rw [resume_of_readBack rfl, if_pos (by rw [hgot]; exact hn), endExecution_eq (u.busy _) _ _ _ _ (hsync hnone)]
      rfl

end Sys2Proof.Machine
end
